-- ==== Sys2Proof/Word.lean ====
section
/-! DEFINITION. The byte of every record format (R175 to R182) and the frame tag (1.6.4). -/

namespace Sys2Proof

/-- One byte of a record, a frame or a transaction (R175). -/
abbrev Byte := BitVec 8

/-- A frame tag, a count from 0 to 255 that wraps (00_scope.md 1.6.4). -/
abbrev Tag := BitVec 8

end Sys2Proof
end

