-- ==== Sys2Proof/Config.lean ====
section
/-! DEFINITION. What the straps fix: the rate and every count, capacity and interval that differs by
rate (00_scope.md 1.6.3). The spec leaves no value undefined, so there is no free value here. -/

namespace Sys2Proof

/-- The RATE strap: 48 kHz (normal) or 96 kHz (1.6.3, R39). -/
inductive Rate
  | khz48
  | khz96
  deriving DecidableEq, Repr

namespace Rate

/-- The figure of a rate: the 48 kHz one first, the 96 kHz one second (1.6.3). -/
def pick {α : Type} (at48 at96 : α) : Rate → α
  | khz48 => at48
  | khz96 => at96

/-- Strips, faders, input channels and emitted output channels that exist (1.2, R19, R123, R166, R167). -/
def strips : Rate → Nat := pick 64 32

/-- Capacity of a lane section, of the owned set and of the accumulation set (R41, R74, R75). -/
def capacity : Rate → Nat := pick 64 32

/-- Channels of one audio port (R166, R167). -/
def channels : Rate → Nat := pick 8 4

/-- The nominal frame N in oscillator periods (R108). -/
def nominal : Rate → Nat := pick 512 256

/-- The half frame in oscillator periods (R108). -/
def half : Rate → Nat := pick 256 128

/-- The loss window in oscillator periods (R108). -/
def lossWindow : Rate → Nat := pick 768 384

/-- Frame boundaries from one automation step to the next (R136). -/
def stepFrames : Rate → Nat := pick 32 64

/-- Refresh counts from one group's refresh to the next group's (R103). -/
def refreshSpacing : Rate → Nat := pick 150 300

/-- Frame boundaries of the surface link's silence window (R133). -/
def silenceWindow : Rate → Nat := pick 4800 9600

/-- Samples within which a position is adopted quietly while playing (R137). -/
def quietWindow : Rate → Nat := pick 48 96

end Rate

/-- The straps, as held since the latest reset (R39). -/
structure Straps where
  slot : Fin 16
  rate : Rate
  listenOnly : Bool
  deriving DecidableEq, Repr

end Sys2Proof
end

