-- ==== Sys2Proof/Syntax.lean ====
section
/-! DEFINITION. The commands of the SE-96, one constructor for each row of spec/opcode_table.json. A control
command carries the object address and the data bytes of its request (R181, R182). -/

namespace Sys2Proof

/-- One command: an event of a line, pin or timer, or a control transaction. -/
inductive Instr
  /-- Power-on reset, with the strap pins as it reads them (R173, R39). -/
  | powerOnReset (straps : Straps)
  /-- Assertion of the RESET pin (R173). -/
  | resetPinAssert
  /-- Release of the RESET pin, with the strap pins as it reads them (R173, R39). -/
  | resetPinRelease (straps : Straps)
  /-- A reference edge, plain or marked, at a time in whole oscillator periods (R109). -/
  | referenceEdge (marked : Bool) (time : Nat)
  /-- The nominal divider of FREE reaches N periods (R111). -/
  | dividerBoundary
  /-- The loss window of LOCKING or LOCKED passes without an edge (R115). -/
  | lossWindowExpiry
  /-- The decided frame length of HOLDOVER elapses (R116). -/
  | holdoverBoundary
  /-- The automation step of a boundary at which the step count wrapped (R136). -/
  | automationStep
  /-- The refresh of the group whose place the refresh count has reached (R103). -/
  | groupRefresh
  /-- The silence window of the surface link expires (R133). -/
  | silenceWindowExpiry
  /-- The strip engine processes the frame whose samples it holds (R21). -/
  | stripFrameProcess
  /-- The end of the own frame in flight: the bytes read back on the own lane, and whether the interval before
  the frame carried no frame start and no bit of any frame (R51). -/
  | laneFrameCompletion (readBack : List Byte) (intervalClean : Bool)
  /-- A port frame starts on each output port (R168). -/
  | outputPortFrameStart
  /-- The end of a frame on a lane, with its bytes (R55, R59). -/
  | frameArrival (lane : Fin 16) (bytes : List Byte)
  /-- A port frame on an input port, in place order; at 96 kHz places 4 to 7 are not carried (R166). -/
  | portFrameArrival (port : Fin 8) (samples : Vector (BitVec 24) 8)
  /-- A surface scan, with its bytes (R121). -/
  | scanArrival (bytes : List Byte)
  /-- A position record, with its bytes (R137). -/
  | positionRecordArrival (bytes : List Byte)
  /-- Ten consecutive recessive bit times on the group line (R92). -/
  | lineRest
  /-- The sending station drove 1 and read 0 (R96). -/
  | arbitrationLoss
  /-- The sending station drove 0 and read 1 (R96). -/
  | lineFault
  /-- The 39th bit of a message is read: bits 2 to 39, bit 2 the most significant (R98). -/
  | groupMessageEnd (bits : BitVec 38)
  /-- The level of the solo line changes (R105). -/
  | soloLineChange (active : Bool)
  /-- Chip select goes inactive before a request is complete (R169). -/
  | controlRequestAbandoned
  /-- READ STATUS (R173). -/
  | readStatus (address : BitVec 16) (data : List Byte)
  /-- READ CAUSES (R171). -/
  | readCauses (address : BitVec 16) (data : List Byte)
  /-- CLEAR CAUSES (R171). -/
  | clearCauses (address : BitVec 16) (data : List Byte)
  /-- WRITE ATTENTION MASK (R172). -/
  | writeAttentionMask (address : BitVec 16) (data : List Byte)
  /-- READ STRIP (R37). -/
  | readStrip (address : BitVec 16) (data : List Byte)
  /-- WRITE STRIP (R35). -/
  | writeStrip (address : BitVec 16) (data : List Byte)
  /-- WRITE SEND (R36). -/
  | writeSend (address : BitVec 16) (data : List Byte)
  /-- WRITE PREMIX (R83). -/
  | writePremix (address : BitVec 16) (data : List Byte)
  /-- WRITE WINDOW (R73). -/
  | writeWindow (address : BitVec 16) (data : List Byte)
  /-- WRITE OUTPUT (R167). -/
  | writeOutput (address : BitVec 16) (data : List Byte)
  /-- WRITE CALIBRATION (R126). -/
  | writeCalibration (address : BitVec 16) (data : List Byte)
  /-- WRITE TOUCH (R131). -/
  | writeTouch (address : BitVec 16) (data : List Byte)
  /-- READ METERS (R88). -/
  | readMeters (address : BitVec 16) (data : List Byte)
  /-- READ PEERS (R69). -/
  | readPeers (address : BitVec 16) (data : List Byte)
  /-- INSERT MOVE (R139). -/
  | insertMove (address : BitVec 16) (data : List Byte)
  /-- DELETE MOVES (R140). -/
  | deleteMoves (address : BitVec 16) (data : List Byte)
  /-- CLEAR STRIP (R140). -/
  | clearStrip (address : BitVec 16) (data : List Byte)
  /-- CLEAR STORE (R140). -/
  | clearStore (address : BitVec 16) (data : List Byte)
  /-- READ MOVES (R140). -/
  | readMoves (address : BitVec 16) (data : List Byte)
  /-- PASS OPEN (R153). -/
  | passOpen (address : BitVec 16) (data : List Byte)
  /-- PASS CLOSE (R155). -/
  | passClose (address : BitVec 16) (data : List Byte)
  /-- PASS KEEP (R160). -/
  | passKeep (address : BitVec 16) (data : List Byte)
  /-- PASS DROP (R163). -/
  | passDrop (address : BitVec 16) (data : List Byte)
  /-- ENGINE RESTART (R174). -/
  | engineRestart (address : BitVec 16) (data : List Byte)
  /-- A dominant bit is read on the group line (R92). -/
  | dominantBitSeen
  /-- A complete request whose command byte names no command (R169). -/
  | commandByteNamesNoCommand (command : Byte) (address : BitVec 16) (data : List Byte)
  deriving DecidableEq, Repr

end Sys2Proof
end

