-- ==== Sys2Proof/WellFormed.lean ====
section
/-! DEFINITION. Which terms of Instr are commands the control port can take (R169, R181). -/

namespace Sys2Proof

/-- The data of a request: the length byte counts 0 to 255 bytes (R181). -/
def wellFormedData (data : List Byte) : Bool := decide (data.length ≤ 255)

/-- A command byte that names a command: 01h to 18h (R181). -/
def namesCommand (command : Byte) : Bool := decide (1 ≤ command.toNat ∧ command.toNat ≤ 24)

/-- A well-formed command: its data fits the length byte, and a byte said to name no command names none. -/
def Instr.wellFormed : Instr → Bool
  | .powerOnReset _ => true
  | .resetPinAssert => true
  | .resetPinRelease _ => true
  | .referenceEdge _ _ => true
  | .dividerBoundary => true
  | .lossWindowExpiry => true
  | .holdoverBoundary => true
  | .automationStep => true
  | .groupRefresh => true
  | .silenceWindowExpiry => true
  | .stripFrameProcess => true
  | .laneFrameCompletion _ _ => true
  | .outputPortFrameStart => true
  | .frameArrival _ _ => true
  | .portFrameArrival _ _ => true
  | .scanArrival _ => true
  | .positionRecordArrival _ => true
  | .lineRest => true
  | .arbitrationLoss => true
  | .lineFault => true
  | .groupMessageEnd _ => true
  | .soloLineChange _ => true
  | .controlRequestAbandoned => true
  | .readStatus _ data => wellFormedData data
  | .readCauses _ data => wellFormedData data
  | .clearCauses _ data => wellFormedData data
  | .writeAttentionMask _ data => wellFormedData data
  | .readStrip _ data => wellFormedData data
  | .writeStrip _ data => wellFormedData data
  | .writeSend _ data => wellFormedData data
  | .writePremix _ data => wellFormedData data
  | .writeWindow _ data => wellFormedData data
  | .writeOutput _ data => wellFormedData data
  | .writeCalibration _ data => wellFormedData data
  | .writeTouch _ data => wellFormedData data
  | .readMeters _ data => wellFormedData data
  | .readPeers _ data => wellFormedData data
  | .insertMove _ data => wellFormedData data
  | .deleteMoves _ data => wellFormedData data
  | .clearStrip _ data => wellFormedData data
  | .clearStore _ data => wellFormedData data
  | .readMoves _ data => wellFormedData data
  | .passOpen _ data => wellFormedData data
  | .passClose _ data => wellFormedData data
  | .passKeep _ data => wellFormedData data
  | .passDrop _ data => wellFormedData data
  | .engineRestart _ data => wellFormedData data
  | .dominantBitSeen => true
  | .commandByteNamesNoCommand command _ data => !namesCommand command && wellFormedData data

end Sys2Proof
end

