-- ==== Sys2Proof/Decode.lean ====
section
/-! DEFINITION. The layout of a control request (R181): its command byte, object address, length and data, read into
the command it carries and written back. The rows of spec/opcode_table.json give no bits, so decodeTableWord reads none. -/

namespace Sys2Proof

/-- The command a complete request carries: the command byte is its place in the table of R170, counted from 1. -/
def commandOf (command : Byte) (address : BitVec 16) (data : List Byte) : Instr :=
  match command.toNat with
  | 1 => .readStatus address data
  | 2 => .readCauses address data
  | 3 => .clearCauses address data
  | 4 => .writeAttentionMask address data
  | 5 => .readStrip address data
  | 6 => .writeStrip address data
  | 7 => .writeSend address data
  | 8 => .writePremix address data
  | 9 => .writeWindow address data
  | 10 => .writeOutput address data
  | 11 => .writeCalibration address data
  | 12 => .writeTouch address data
  | 13 => .readMeters address data
  | 14 => .readPeers address data
  | 15 => .insertMove address data
  | 16 => .deleteMoves address data
  | 17 => .clearStrip address data
  | 18 => .clearStore address data
  | 19 => .readMoves address data
  | 20 => .passOpen address data
  | 21 => .passClose address data
  | 22 => .passKeep address data
  | 23 => .passDrop address data
  | 24 => .engineRestart address data
  | _ => .commandByteNamesNoCommand command address data

/-- Reads the request bytes of one transaction, from chip select going active to inactive (R169, R181). Bytes after
the last data byte are the reply phase, and the port takes them as nothing. -/
def decodeRequest : List Byte → Instr
  | command :: high :: low :: length :: rest =>
    if rest.length < length.toNat then .controlRequestAbandoned
    else commandOf command (high ++ low) (rest.take length.toNat)
  | _ => .controlRequestAbandoned

/-- The command byte, object address and data of a control command (R170, R181); none for the other rows. -/
def Instr.request : Instr → Option (Byte × BitVec 16 × List Byte)
  | .readStatus address data => some (1, address, data)
  | .readCauses address data => some (2, address, data)
  | .clearCauses address data => some (3, address, data)
  | .writeAttentionMask address data => some (4, address, data)
  | .readStrip address data => some (5, address, data)
  | .writeStrip address data => some (6, address, data)
  | .writeSend address data => some (7, address, data)
  | .writePremix address data => some (8, address, data)
  | .writeWindow address data => some (9, address, data)
  | .writeOutput address data => some (10, address, data)
  | .writeCalibration address data => some (11, address, data)
  | .writeTouch address data => some (12, address, data)
  | .readMeters address data => some (13, address, data)
  | .readPeers address data => some (14, address, data)
  | .insertMove address data => some (15, address, data)
  | .deleteMoves address data => some (16, address, data)
  | .clearStrip address data => some (17, address, data)
  | .clearStore address data => some (18, address, data)
  | .readMoves address data => some (19, address, data)
  | .passOpen address data => some (20, address, data)
  | .passClose address data => some (21, address, data)
  | .passKeep address data => some (22, address, data)
  | .passDrop address data => some (23, address, data)
  | .engineRestart address data => some (24, address, data)
  | .commandByteNamesNoCommand command address data => some (command, address, data)
  | .powerOnReset _ => none
  | .resetPinAssert => none
  | .resetPinRelease _ => none
  | .referenceEdge _ _ => none
  | .dividerBoundary => none
  | .lossWindowExpiry => none
  | .holdoverBoundary => none
  | .automationStep => none
  | .groupRefresh => none
  | .silenceWindowExpiry => none
  | .stripFrameProcess => none
  | .laneFrameCompletion _ _ => none
  | .outputPortFrameStart => none
  | .frameArrival _ _ => none
  | .portFrameArrival _ _ => none
  | .scanArrival _ => none
  | .positionRecordArrival _ => none
  | .lineRest => none
  | .arbitrationLoss => none
  | .lineFault => none
  | .groupMessageEnd _ => none
  | .soloLineChange _ => none
  | .controlRequestAbandoned => none
  | .dominantBitSeen => none

/-- The request bytes of a command byte, an object address and data (R181). -/
def requestBytes (command : Byte) (address : BitVec 16) (data : List Byte) : List Byte :=
  command :: address.extractLsb' 8 8 :: address.extractLsb' 0 8 :: BitVec.ofNat 8 data.length :: data

/-- The request bytes of a control command; none for a row that is no control transaction. -/
def Instr.encodeRequest (i : Instr) : Option (List Byte) :=
  i.request.map fun (command, address, data) => requestBytes command address data

/-- The command that a word spells by the table's bits: no row of the table gives bits, so a word spells none. -/
def decodeTableWord (_nbits _w : Nat) : Option Instr := none

end Sys2Proof
end

