-- ==== Sys2Proof/Machine/State.lean ====
section
/-! DEFINITION. The state of the SE-96, block by block as 00_scope.md 1.3 gives them, with the value of every piece after
power-on reset and after release of the RESET pin, and the reasons a step can stop. -/

namespace Sys2Proof.Machine

/-! ### Ramps and strips (chapters 1 and 2) -/

/-- The course of a level ramp: what a new target replaces of it (R11). -/
structure Course where
  target : Int
  step : Int
  count : Nat
  deriving DecidableEq, Repr

/-- A level ramp (1.5). `base` is the course that the latest boundary, reset or restart left. A strip's ramp takes a new target from it, so
that of two targets between two boundaries only the second shows (R27); a premix master's ramp does not read it (R11, log entry 36). -/
structure LevelRamp where
  current : Int
  target : Int
  step : Int
  count : Nat
  base : Course
  deriving DecidableEq, Repr

/-- A level ramp as a boundary leaves it: its own course is the base. -/
def LevelRamp.settled (current target step : Int) (count : Nat) : LevelRamp :=
  ⟨current, target, step, count, ⟨target, step, count⟩⟩

/-- A level ramp at rest at a gain. -/
def LevelRamp.atRest (gain : Int) : LevelRamp := LevelRamp.settled gain gain 0 0

/-- The level ramp after reset: at rest at gain 0 (R16). -/
def LevelRamp.reset : LevelRamp := LevelRamp.atRest 0

/-- The end a cut ramp moves toward: 0 or 4,194,304 (1.6). -/
inductive Direction
  | cutting
  | opening
  deriving DecidableEq, Repr

/-- A cut ramp (1.6). -/
structure CutRamp where
  current : Int
  direction : Direction
  deriving DecidableEq, Repr

/-- The cut ramp after reset: at rest, open (R16). -/
def CutRamp.reset : CutRamp := ⟨4194304, .opening⟩

/-- The role of a strip (2.1). -/
inductive Role
  | audio
  | groupMaster (group : Fin 32)
  deriving DecidableEq, Repr

/-- The automation mode of a strip (2.1). -/
inductive Mode
  | off
  | read
  | touch
  | latch
  | write
  deriving DecidableEq, Repr

/-- Who sets a strip's level or cut (2.1). -/
inductive Source
  | desk
  | store
  deriving DecidableEq, Repr

/-- Where a send takes its sample (2.1). -/
inductive Tap
  | pre
  | post
  deriving DecidableEq, Repr

/-- One send of a strip (2.1). -/
structure Send where
  bus : Fin 128
  code : Nat
  tap : Tap
  on : Bool
  deriving DecidableEq, Repr

/-- A send after reset (R19). -/
def Send.reset : Send := ⟨0, 0, .post, false⟩

/-- A strip record: the fields of 2.1, the present flag last received (R25, R37), and the effective level and cut held
(R23, R26). -/
structure Strip where
  role : Role
  input : Option (Fin 64)
  trim : Nat
  manualCut : Bool
  solo : Bool
  soloSafe : Bool
  groups : List (Fin 32)
  mode : Mode
  glideSteps : Nat
  staticCode : Nat
  liveCode : Nat
  levelSource : Source
  storeLevel : Nat
  cutSource : Source
  storeCut : Bool
  sends : Vector Send 4
  present : Bool
  effLevel : Nat
  effCut : Bool
  levelRamp : LevelRamp
  cutRamp : CutRamp
  deriving DecidableEq, Repr

/-- Strip i after reset (R19, R16). -/
def Strip.reset (i : Fin 64) : Strip where
  role := .audio
  input := some i
  trim := 900
  manualCut := false
  solo := false
  soloSafe := false
  groups := []
  mode := .off
  glideSteps := 0
  staticCode := 0
  liveCode := 0
  levelSource := .desk
  storeLevel := 0
  cutSource := .desk
  storeCut := false
  sends := Vector.replicate 4 Send.reset
  present := false
  effLevel := 0
  effCut := false
  levelRamp := LevelRamp.reset
  cutRamp := CutRamp.reset

/-- Contributions to buses, one pair a bus: (bus, value), ascending by bus (R30, R31). -/
abbrev BusList := List (Nat × Int)

/-- What the strip engine holds beside the strips: the input samples of the frame begun, handed and not yet processed
(R21), the held stem-bound sums of the latest frame processed (R31), and whether an ENGINE RESTART came since the latest boundary, so
that the next one completes premix-to-stem terms alone (R31). -/
structure Engine where
  handed : Option (Vector Int 64)
  heldStems : BusList
  restarted : Bool
  deriving DecidableEq, Repr

/-! ### Clock unit (chapter 7) -/

/-- The clock state (R108), coded in this order in a lane frame (R176). -/
inductive ClockState
  | free
  | locking
  | locked
  | holdover
  deriving DecidableEq, Repr

/-- The clock unit (R108). Times are oscillator periods since the end of the latest reset. `serial` is the model's count of
frames begun, which marks samples (R78); `holdoverLength` is the decided length of the current holdover frame (R116). `expiryMet` is the model's
mark that the latest edge came with the expiry of the loss window and was taken first (R115, log entry 3). -/
structure Clock where
  state : ClockState
  tag : Tag
  serial : Nat
  latestBoundary : Nat
  latestEdge : Option Nat
  expiryMet : Bool
  acquisition : Nat
  window : List Nat
  remainder : Nat
  holdoverLength : Nat
  realigns : Nat
  edgeFaults : Nat
  frameLength : Nat
  deriving DecidableEq, Repr

/-- The clock unit after reset (R120). The decided length of a holdover frame has no reset value in R120; the model's is 0 (log entry 47). -/
def Clock.reset (rate : Rate) : Clock where
  state := .free
  tag := 0
  serial := 0
  latestBoundary := 0
  latestEdge := none
  expiryMet := false
  acquisition := 0
  window := List.replicate 256 rate.nominal
  remainder := 0
  holdoverLength := 0
  realigns := 0
  edgeFaults := 0
  frameLength := 0

/-! ### Lanes (chapters 3 and 4) -/

/-- A lane frame without its check and counts, which its entries give (R40). The owned set is ascending. -/
structure LaneFrame where
  slot : Fin 16
  clock : ClockState
  tag : Tag
  owned : List Nat
  a : BusList
  b : BusList
  deriving DecidableEq, Repr

/-- The drive state of the lane transmitter (R50). -/
inductive Drive
  | driving
  | strapSilent
  | conflictSilent
  deriving DecidableEq, Repr

/-- The lane transmitter (R42, R43, R50, R51): SENDING while a frame is in flight, IDLE otherwise. -/
structure LaneTx where
  drive : Drive
  inFlight : Option LaneFrame
  waiting : Option LaneFrame
  pendingB : BusList
  mismatches : Nat
  deriving DecidableEq, Repr

/-- The lane transmitter after reset (R54). -/
def LaneTx.reset (listenOnly : Bool) : LaneTx where
  drive := if listenOnly then .strapSilent else .driving
  inFlight := none
  waiting := none
  pendingB := []
  mismatches := 0

/-- The state of a peer record (R63). -/
inductive PeerState
  | absent
  | acquiring
  | live
  | hold
  | gap
  deriving DecidableEq, Repr

/-- A peer record and its queue, oldest frame at the head (R56, R57). -/
structure Peer where
  state : PeerState
  good : Nat
  miss : Nat
  fade : Nat
  last : Option LaneFrame
  queue : List LaneFrame
  used : Nat
  missed : Nat
  stale : Nat
  overrun : Nat
  malformed : Nat
  realign : Nat
  deriving DecidableEq, Repr

/-- A peer record after reset (R56). -/
def Peer.reset : Peer where
  state := .absent
  good := 0
  miss := 0
  fade := 0
  last := none
  queue := []
  used := 0
  missed := 0
  stale := 0
  overrun := 0
  malformed := 0
  realign := 0

/-! ### Bus summer (chapter 5) -/

/-- One premix-to-stem send: a stem channel or none, and a code (R83). -/
structure PremixSend where
  target : Option (Fin 64)
  code : Nat
  deriving DecidableEq, Repr

/-- A premix master record (R83). Its owned field is membership of the pending owned set (R75). -/
structure PremixMaster where
  code : Nat
  cut : Bool
  levelRamp : LevelRamp
  cutRamp : CutRamp
  send0 : PremixSend
  send1 : PremixSend
  deriving DecidableEq, Repr

/-- A premix master after reset (R90, R16). -/
def PremixMaster.reset : PremixMaster := ⟨0, false, LevelRamp.reset, CutRamp.reset, ⟨none, 0⟩, ⟨none, 0⟩⟩

/-- A listen window (R73). -/
structure Window where
  base : BitVec 7
  mask : BitVec 7
  enabled : Bool
  deriving DecidableEq, Repr

/-- One copy of the summer's configuration, pending or in force: owned set (ascending), listen windows, and the accumulation
set built from them with its oversubscribed mark (R74, R75). -/
structure SumConfig where
  owned : List Nat
  windows : Vector Window 4
  buses : List Nat
  oversubscribed : Bool
  deriving DecidableEq, Repr

/-- The configuration after reset (R90). -/
def SumConfig.reset : SumConfig := ⟨[], Vector.replicate 4 ⟨0, 0, false⟩, [], false⟩

/-- The meter of a bus (R87). -/
structure Meter where
  peak : Nat
  overCount : Nat
  deriving DecidableEq, Repr

/-- The bus summer (chapter 5). Held own lists carry the serial of their sample (R78). -/
structure Summer where
  config : SumConfig
  pending : SumConfig
  premix : Vector PremixMaster 64
  suspended : List Nat
  meters : Vector Meter 128
  ownPremix : List (Nat × BusList)
  ownStem : List (Nat × BusList)
  deriving DecidableEq, Repr

/-- The bus summer after reset (R90). -/
def Summer.reset : Summer where
  config := SumConfig.reset
  pending := SumConfig.reset
  premix := Vector.replicate 64 PremixMaster.reset
  suspended := []
  meters := Vector.replicate 128 ⟨0, 0⟩
  ownPremix := []
  ownStem := []

/-! ### Group line and solo line (chapter 6) -/

/-- The line state of the receive side (R92). -/
inductive LineState
  | seeking
  | idle
  | message
  deriving DecidableEq, Repr

/-- The kind of a group line message, in the order of its kind codes (R93, R177). -/
inductive MsgKind
  | passOpen
  | passClose
  | groupCut
  | groupLevel
  deriving DecidableEq, Repr

/-- An entry of the send queue; `inFlight` is the value sent while its message is on the line (R95, R101). -/
structure QueueEntry where
  kind : MsgKind
  number : Nat
  value : Int
  inFlight : Option Int
  deriving DecidableEq, Repr

/-- An entry of the group table (R100). -/
structure TableEntry where
  offset : Int
  cut : Bool
  sender : Option (Fin 16)
  heard : Bool
  deriving DecidableEq, Repr

/-- A group table entry after reset (R107). -/
def TableEntry.reset : TableEntry := ⟨0, false, none, false⟩

/-- A mastered group: the offset and cut last handed, and the offset last enqueued (R102). -/
structure Master where
  group : Fin 32
  offset : Int
  cut : Bool
  enqueued : Int
  deriving DecidableEq, Repr

/-- The group line controller (chapter 6). The mastered set is ascending by group; `refreshDue` is the group whose place the
refresh count has reached and whose refresh has not been taken (R103). -/
structure GroupLine where
  line : LineState
  recessiveRun : Nat
  queue : List QueueEntry
  table : Vector TableEntry 32
  mastered : List Master
  refreshCount : Nat
  refreshDue : Option (Fin 32)
  sent : Nat
  taken : Nat
  lineErrors : Nat
  losses : Nat
  drops : Nat
  soloLevel : Bool
  deriving DecidableEq, Repr

/-- The group line controller after reset (R107). -/
def GroupLine.reset : GroupLine where
  line := .seeking
  recessiveRun := 0
  queue := []
  table := Vector.replicate 32 TableEntry.reset
  mastered := []
  refreshCount := 0
  refreshDue := none
  sent := 0
  taken := 0
  lineErrors := 0
  losses := 0
  drops := 0
  soloLevel := false

/-! ### Surface port (chapter 8) -/

/-- The state of the surface link (R122). -/
inductive Link
  | silent
  | active
  deriving DecidableEq, Repr

/-- A fader record (R122). -/
structure Fader where
  low : Nat
  high : Nat
  onThreshold : Nat
  offThreshold : Nat
  present : Bool
  lastCode : Nat
  acceptNext : Bool
  baseline : Option Nat
  touched : Bool
  debounce : Nat
  untouchedScans : Nat
  touchedScans : Nat
  deriving DecidableEq, Repr

/-- A fader record after reset (R122). -/
def Fader.reset : Fader where
  low := 0
  high := 4095
  onThreshold := 40
  offThreshold := 25
  present := false
  lastCode := 0
  acceptNext := true
  baseline := none
  touched := false
  debounce := 0
  untouchedScans := 0
  touchedScans := 0

/-- One entry of a motor return (R132). -/
structure MotorEntry where
  fader : Fin 64
  drive : Bool
  target : Int
  deriving DecidableEq, Repr

/-- The surface port (R122), with the latest motor return sent (R132). -/
structure Surface where
  link : Link
  silence : Nat
  scanErrors : Nat
  faders : Vector Fader 64
  motorReturn : Option (List MotorEntry)
  deriving DecidableEq, Repr

/-- The surface port after reset (R122). -/
def Surface.reset : Surface := ⟨.silent, 0, 0, Vector.replicate 64 Fader.reset, none⟩

/-! ### Automation engine (chapters 9 and 10) -/

/-- The transport state (R136), coded in this order in a position record (R178). -/
inductive Transport
  | stopped
  | playing
  | shuttling
  deriving DecidableEq, Repr

/-- The level phase of a strip (R143). -/
inductive Phase
  | follow
  | live
  | glide
  | latched
  deriving DecidableEq, Repr

/-- A move of a LEVEL list (R138). -/
structure LevelMove where
  position : Nat
  code : Nat
  glide : Bool
  deriving DecidableEq, Repr

/-- A move of a CUT list (R138). -/
structure CutMove where
  position : Nat
  on : Bool
  deriving DecidableEq, Repr

/-- The automation engine's record of a strip (R143) and the strip's two lists of the store (R138). -/
structure AutoStrip where
  touched : Bool
  phase : Phase
  cutLive : Bool
  readLevel : Option Nat
  readCut : Option Bool
  glideStart : Nat
  glideLength : Nat
  glideStep : Nat
  levelMoves : List LevelMove
  cutMoves : List CutMove
  deriving DecidableEq, Repr

/-- The automation record and lists of a strip after reset (R143, R138). -/
def AutoStrip.reset : AutoStrip where
  touched := false
  phase := .follow
  cutLive := false
  readLevel := none
  readCut := none
  glideStart := 0
  glideLength := 0
  glideStep := 0
  levelMoves := []
  cutMoves := []

/-- The playback side of the automation engine (R136, R143). `stepDue` marks a boundary at which the step count wrapped and
whose automation step has not been taken. -/
structure Playback where
  position : Nat
  transport : Transport
  stepCount : Nat
  stepDue : Bool
  positionErrors : Nat
  jumps : Nat
  strips : Vector AutoStrip 64
  deriving DecidableEq, Repr

/-- The playback side after reset (R136, R143). -/
def Playback.reset : Playback := ⟨0, .stopped, 0, false, 0, 0, Vector.replicate 64 AutoStrip.reset⟩

/-- The pass state (R152). -/
inductive PassState
  | idle
  | recording
  | review
  | merging
  deriving DecidableEq, Repr

/-- The kind of a list, a punch or a move (R138, R156). -/
inductive Kind
  | level
  | cut
  deriving DecidableEq, Repr

/-- The value of a journal MOVE: a level code with its glide flag, or cut on or off (R156). -/
inductive MoveValue
  | level (code : Nat) (glide : Bool)
  | cut (on : Bool)
  deriving DecidableEq, Repr

/-- A record of the journal (R156). -/
inductive Record
  | punchIn (strip : Fin 64) (kind : Kind) (position : Nat)
  | move (strip : Fin 64) (position : Nat) (value : MoveValue)
  | punchOut (strip : Fin 64) (kind : Kind) (position : Nat)
  deriving DecidableEq, Repr

/-- The open punches of a strip, each with its last recorded value: `none` where no punch is open, `some none` where one is
open and has recorded no value (R152). -/
structure Punches where
  level : Option (Option Nat)
  cut : Option (Option Bool)
  deriving DecidableEq, Repr

/-- The pass record (R152). -/
structure Pass where
  state : PassState
  number : Option Nat
  journal : List Record
  punches : Vector Punches 64
  incomplete : Bool
  missed : Option Nat
  mergeList : List (Fin 64)
  stripsDone : Nat
  deriving DecidableEq, Repr

/-- The pass record after reset (R152). -/
def Pass.reset : Pass := ⟨.idle, none, [], Vector.replicate 64 ⟨none, none⟩, false, none, [], 0⟩

/-! ### Audio ports and control port (chapter 11) -/

/-- An input port: RUNNING or SILENT, and the held port frame (R166). -/
structure InputPort where
  running : Bool
  held : Option (Vector (BitVec 24) 8)
  deriving DecidableEq, Repr

/-- The source of an output map entry (R167). -/
inductive OutputSource
  | bus (b : Fin 128)
  | direct (s : Fin 64)
  | silence
  deriving DecidableEq, Repr

/-- The audio ports (11.1, 11.2): the totals of the latest boundary (a bus without a pair has no total), whether they have
been handed, the DIRECT values of the frame, and the samples of the latest port frame started on each output port. -/
structure Ports where
  inputs : Vector InputPort 8
  map : Vector OutputSource 64
  totals : BusList
  totalsHanded : Bool
  direct : Option (Vector Int 64)
  emitted : Vector (List Int) 8
  deriving DecidableEq, Repr

/-- The audio ports after reset (R166, R167). -/
def Ports.reset : Ports :=
  ⟨Vector.replicate 8 ⟨false, none⟩, Vector.replicate 64 .silence, [], false, none, Vector.replicate 8 []⟩

/-- A cause of the cause set, in the order of its positions (R171). -/
inductive Cause
  | peerChange
  | slotConflict
  | premixConflict
  | groupConflict
  | clockChange
  | busOver
  | laneOverflow
  | windowOversubscribed
  | inputSilent
  | stuckTouch
  | journalFull
  | passMissed
  | mergeDone
  | mergeAborted
  | lineError
  deriving DecidableEq, Repr

/-- The status byte of a reply, in the order of its codes (R181). -/
inductive Status
  | ok
  | range
  | busy
  | wrongState
  | storeFull
  deriving DecidableEq, Repr

/-- A reply: its status and reply data (R169, R181). -/
structure Reply where
  status : Status
  data : List Byte
  deriving DecidableEq, Repr

/-- The control port: cause set and attention mask, cause position i in bit i, 1 set or unmasked (R171, R172, R181), and the
reply of the latest transaction. -/
structure Control where
  causes : BitVec 15
  mask : BitVec 15
  reply : Option Reply
  deriving DecidableEq, Repr

/-- The control port after reset (R171, R172). -/
def Control.reset : Control := ⟨0, 0, none⟩

/-! ### The part -/

/-- The state of the SE-96: the queue of commands that are waiting (first in, first out), the RESET pin, the straps held, and
the ten blocks. The lane receiver's record of the own slot is never used (R55). -/
structure State where
  pending : List Instr
  resetPin : Bool
  straps : Straps
  clock : Clock
  strips : Vector Strip 64
  engine : Engine
  tx : LaneTx
  peers : Vector Peer 16
  summer : Summer
  group : GroupLine
  surface : Surface
  playback : Playback
  pass : Pass
  ports : Ports
  control : Control
  deriving DecidableEq, Repr

/-- The part after power-on reset or release of the RESET pin with the given straps (R173 and the reset rule of each
block). -/
def State.resetWith (straps : Straps) : State where
  pending := []
  resetPin := false
  straps := straps
  clock := Clock.reset straps.rate
  strips := Vector.ofFn Strip.reset
  engine := ⟨none, [], false⟩
  tx := LaneTx.reset straps.listenOnly
  peers := Vector.replicate 16 Peer.reset
  summer := Summer.reset
  group := GroupLine.reset
  surface := Surface.reset
  playback := Playback.reset
  pass := Pass.reset
  ports := Ports.reset
  control := Control.reset

/-- The straps of the model's own reset state (DESIGN CHOICE, log entry 1): slot 0, 48 kHz, LISTEN ONLY not strapped. -/
def resetStraps : Straps := ⟨0, .khz48, false⟩

/-- The machine right after reset. -/
def State.reset : State := State.resetWith resetStraps

/-- Why a step faults: never. The spec names no event that stops the part, so no command answers with a fault. -/
inductive Fault
  deriving DecidableEq, Repr

/-- Why a step is refused. -/
inductive Refusal
  /-- The command has no meaning in the model. Raised by an arm of exec alone; no arm raises it. Safe. -/
  | notModelled (mnemonic : String)
  deriving DecidableEq, Repr

end Sys2Proof.Machine
end

