-- ==== Sys2Proof/Machine/Arith.lean ====
section
/-! DEFINITION. Gain arithmetic (chapter 1): saturation, the product rule, level and cut ramps, fade scaling, interpolated
codes; and the counters and collections every block uses (1.6.7). -/

namespace Sys2Proof.Machine

/-! ### Saturation and products -/

/-- Saturates a value to the wide range (1.6.5, R5). -/
def satWide (v : Int) : Int := max (-2147483648) (min 2147483647 v)

/-- Clamps a wide value to the port range (R7). -/
def clampPort (v : Int) : Int := max (-8388608) (min 8388607 v)

/-- Clamps a formed code to 0 to 1020 (R3). -/
def clampCode (v : Int) : Nat := (max 0 (min 1020 v)).toNat

/-- A written level code above 1020 is stored as 1020 (R3). -/
def storedCode (code : Nat) : Nat := min 1020 code

/-- A written trim code is stored clamped to 780 to 1020 (R3). -/
def storedTrim (code : Nat) : Nat := max 780 (min 1020 code)

/-- The product rule P(v, c) (R4). The division by a positive constant is the floor. -/
def product (v c : Int) : Int := satWide ((v * c + 2097152) / 4194304)

/-- Fade scaling of a peer's value v at fade position k (R17). -/
def fadeTerm (v : Int) (k : Nat) : Int := (v * k + 128) / 256

/-- An interpolated code between two codes, `num` of `den` of the way: one division, truncated toward zero, then the clamp
(R18). -/
def interpolate (fromCode toCode num den : Nat) : Nat :=
  clampCode (fromCode + (((toCode : Int) - fromCode) * num).tdiv den)

/-- The quotient n / d rounded to the nearest integer, halves up (R124, R132); d is positive. -/
def roundHalfUp (n d : Int) : Int := (2 * n + d) / (2 * d)

/-! ### Ramps -/

/-- A level ramp with another course; the base is kept. -/
def LevelRamp.setCourse (r : LevelRamp) (c : Course) : LevelRamp :=
  { r with target := c.target, step := c.step, count := c.count }

/-- The course of a level ramp. -/
def LevelRamp.course (r : LevelRamp) : Course := ⟨r.target, r.step, r.count⟩

/-- The course a level ramp takes for a new target, by the three cases of R11 against the course held. -/
def LevelRamp.courseFrom (r : LevelRamp) (held : Course) (target : Int) : Course :=
  if target = held.target then held
  else if target = r.current then ⟨target, 0, 0⟩
  else ⟨target, (target - r.current).tdiv 64, 64⟩

/-- A level ramp takes a new target, judged by the target it holds (R11). A premix master's ramp takes every target so. -/
def LevelRamp.take (r : LevelRamp) (target : Int) : LevelRamp := r.setCourse (r.courseFrom r.course target)

/-- A strip's level ramp takes a new target (R11, R27): a target taken since the latest boundary leaves no trace, and the ramp ends as if it
had received the later one alone (log entry 36). -/
def LevelRamp.retarget (r : LevelRamp) (target : Int) : LevelRamp := r.setCourse (r.courseFrom r.base target)

/-- A level ramp at a frame boundary (R12). A ramp that ends has step 0, as the worked ramps of 1.5 show (log entry 20). -/
def LevelRamp.advance (r : LevelRamp) : LevelRamp :=
  match r.count with
  | 0 => .settled r.current r.target r.step 0
  | 1 => .atRest r.target
  | n + 2 => .settled (r.current + r.step) r.target r.step (n + 1)

/-- A level ramp at ENGINE RESTART (R16). -/
def LevelRamp.snap (r : LevelRamp) : LevelRamp := .atRest r.target

/-- The end of travel of a direction (1.6). -/
def Direction.travelEnd : Direction → Int
  | .cutting => 0
  | .opening => 4194304

/-- The direction a cut asks for (R14). -/
def Direction.ofCut (cut : Bool) : Direction := if cut then .cutting else .opening

/-- A cut ramp takes a cut (R14). -/
def CutRamp.take (r : CutRamp) (cut : Bool) : CutRamp := { r with direction := Direction.ofCut cut }

/-- A cut ramp at a frame boundary: it moves by exactly 65,536 unless it is at rest (R14). -/
def CutRamp.advance (r : CutRamp) : CutRamp :=
  if r.current = r.direction.travelEnd then r
  else match r.direction with
    | .cutting => { r with current := r.current - 65536 }
    | .opening => { r with current := r.current + 65536 }

/-- A cut ramp at ENGINE RESTART (R16). -/
def CutRamp.snap (r : CutRamp) : CutRamp := { r with current := r.direction.travelEnd }

/-! ### Counters, tags and collections -/

/-- A 16-bit counter rises and stops at 65,535 (1.6.7). -/
def count16 (n k : Nat) : Nat := min 65535 (n + k)

/-- The signed difference of two tags, −128 to 127 (1.6.4). -/
def tagDiff (a b : Tag) : Int := (a - b).toInt

/-- The value a bus list gives a bus; 0 where it has no pair (R30, R79). -/
def BusList.value (l : BusList) (bus : Nat) : Int := (l.lookup bus).getD 0

/-- The sum of every term aimed at a bus, in the accumulator (R6). -/
def sumAt (terms : BusList) (bus : Nat) : Int := ((terms.filter fun t => t.1 == bus).map Prod.snd).sum

/-- Whether any term targets a bus (R29). -/
def targets (terms : BusList) (bus : Nat) : Bool := terms.any fun t => t.1 == bus

/-- Applies a function to every element of a vector, with its place. -/
def mapFin {α β : Type} {n : Nat} (v : Vector α n) (f : Fin n → α → β) : Vector β n := Vector.ofFn fun i => f i v[i]

/-- The buses of `lo` to `lo` + 63 in ascending order that satisfy a test (R29, R75). -/
def busesFrom (lo : Nat) (p : Nat → Bool) : List Nat := ((List.range 64).map (lo + ·)).filter p

end Sys2Proof.Machine
end

