-- ==== Sys2Proof/Machine/Formats.lean ====
section
/-! DEFINITION. The formats of 11.6: the two checks, bytes and fields, and the lane frame, position record, surface scan,
motor return and group message, each read from and written to its bytes or bits. -/

namespace Sys2Proof.Machine

/-! ### Bytes -/

/-- The n low bytes of a value, most significant byte first (R175). -/
def beBytes (n v : Nat) : List Byte := (List.range n).reverse.map fun i => BitVec.ofNat 8 (v >>> (8 * i))

/-- The n bytes of a signed value in two's complement, most significant byte first (R175). -/
def beSigned (n : Nat) (v : Int) : List Byte := beBytes n (BitVec.ofInt (8 * n) v).toNat

/-- The value of bytes sent most significant byte first (R175). -/
def ofBytes (bytes : List Byte) : Nat := bytes.foldl (fun acc b => acc * 256 + b.toNat) 0

/-- A set of numbers as n bytes of marks, number 0 in bit 7 of the first byte (R176, R182). -/
def setBytes (n : Nat) (members : List Nat) : List Byte :=
  (List.range n).map fun j =>
    BitVec.ofNat 8 ((List.range 8).foldl (fun acc i => acc * 2 + (if members.contains (8 * j + i) then 1 else 0)) 0)

/-- The members a field of marks gives, ascending (R176). -/
def readSet (bytes : List Byte) : List Nat :=
  (List.range (8 * bytes.length)).filter fun p => (bytes.getD (p / 8) 0).getLsbD (7 - p % 8)

/-- Whether a list is strictly ascending (1.6.8). -/
def ascending : List Nat → Bool
  | a :: b :: rest => decide (a < b) && ascending (b :: rest)
  | _ => true

/-! ### Checks -/

/-- One bit of the CRC-16 register (R47). -/
def crc16Bit (reg : BitVec 16) (bit : Bool) : BitVec 16 :=
  if reg.getLsbD 15 = bit then reg <<< 1 else (reg <<< 1) ^^^ 0x1021#16

/-- The bits of a byte, most significant first (R47). -/
def byteBits (b : Byte) : List Bool := [7, 6, 5, 4, 3, 2, 1, 0].map b.getLsbD

/-- The CRC-16 of bytes in the order sent (R47). -/
def crc16 (bytes : List Byte) : BitVec 16 :=
  bytes.foldl (fun reg b => (byteBits b).foldl crc16Bit reg) 0xFFFF#16

/-- A record body with its check as the last field (R175). -/
def withCheck (body : List Byte) : List Byte := body ++ beBytes 2 (crc16 body).toNat

/-- The body of a record whose check equals the check recomputed over it (R47, R175). -/
def checkedBody (bytes : List Byte) : Option (List Byte) :=
  let body := bytes.take (bytes.length - 2)
  if withCheck body = bytes then some body else none

/-- One bit of the 8-bit check register of a group message (R94). -/
def crc8Bit (reg : BitVec 8) (bit : Bool) : BitVec 8 :=
  if reg.getLsbD 7 = bit then reg <<< 1 else (reg <<< 1) ^^^ 0x07#8

/-- The 8-bit check over the 28 covered bits, the first class bit the most significant (R94). -/
def crc8 (covered : BitVec 28) : BitVec 8 :=
  (List.range 28).reverse.foldl (fun reg i => crc8Bit reg (covered.getLsbD i)) 0#8

/-! ### Lane frame (R40, R176) -/

/-- The two-bit code of a clock state (R176). -/
def ClockState.code : ClockState → Nat
  | .free => 0
  | .locking => 1
  | .locked => 2
  | .holdover => 3

/-- The clock state of a two-bit code (R176). -/
def ClockState.ofBits (code : BitVec 2) : ClockState :=
  match code.toNat with
  | 0 => .free
  | 1 => .locking
  | 2 => .locked
  | _ => .holdover

/-- The bytes of the entries of a section (R176). -/
def entryBytes (entries : BusList) : List Byte :=
  entries.flatMap fun (bus, value) => BitVec.ofNat 8 bus :: beSigned 4 value

/-- The entries of a section's bytes (R176). -/
def readEntries : List Byte → BusList
  | bus :: b3 :: b2 :: b1 :: b0 :: rest => (bus.toNat, (b3 ++ b2 ++ b1 ++ b0).toInt) :: readEntries rest
  | _ => []

/-- The bytes of a lane frame before its check, in the order sent (R40, R176). -/
def laneFrameBody (f : LaneFrame) : List Byte :=
  [BitVec.ofNat 8 (16 * f.slot.val + 4 * f.clock.code), f.tag] ++ setBytes 8 f.owned ++
    BitVec.ofNat 8 f.a.length :: entryBytes f.a ++ BitVec.ofNat 8 f.b.length :: entryBytes f.b

/-- The bytes of a lane frame with its check (R40, R47, R176). -/
def laneFrameBytes (f : LaneFrame) : List Byte := withCheck (laneFrameBody f)

/-- The fields of a frame from the body its check covers: none where the length is not the length the two counts give
(R48). -/
def readLaneFields (body : List Byte) : Option LaneFrame :=
  match body with
  | head :: tag :: o0 :: o1 :: o2 :: o3 :: o4 :: o5 :: o6 :: o7 :: aCount :: rest =>
    match rest.drop (5 * aCount.toNat) with
    | bCount :: bRest =>
      if rest.length = 5 * aCount.toNat + 1 + 5 * bCount.toNat then
        some ⟨(head.extractLsb' 4 4).toFin, ClockState.ofBits (head.extractLsb' 2 2), tag,
          readSet [o0, o1, o2, o3, o4, o5, o6, o7], readEntries (rest.take (5 * aCount.toNat)), readEntries bRest⟩
      else none
    | [] => none
  | _ => none

/-- Whether a section's entries are within the capacity, ascending, and on the section's buses (R48). -/
def sectionOk (capacity lo hi : Nat) (entries : BusList) : Bool :=
  decide (entries.length ≤ capacity) && ascending (entries.map Prod.fst) &&
    entries.all fun e => decide (lo ≤ e.1 ∧ e.1 < hi)

/-- Reads a frame from the bytes of a lane: the frame when it is well-formed, none when it is malformed (R48). -/
def readLaneFrame (rate : Rate) (lane : Fin 16) (bytes : List Byte) : Option LaneFrame :=
  match checkedBody bytes with
  | none => none
  | some body =>
    match readLaneFields body with
    | none => none
    | some f =>
      if f.slot = lane ∧ sectionOk rate.capacity 0 64 f.a ∧ sectionOk rate.capacity 64 128 f.b then some f else none

/-! ### Position record (R178) -/

/-- The byte of a transport state (R178). -/
def Transport.code : Transport → Nat
  | .stopped => 0
  | .playing => 1
  | .shuttling => 2

/-- The bytes of a position record with its check (R178). -/
def positionBytes (position : Nat) (transport : Transport) : List Byte :=
  withCheck (beBytes 6 position ++ [BitVec.ofNat 8 transport.code])

/-- Reads a position record: none when it is bad (R137, R178). -/
def readPositionRecord (bytes : List Byte) : Option (Nat × Transport) :=
  match checkedBody bytes with
  | some [p5, p4, p3, p2, p1, p0, state] =>
    let position := ofBytes [p5, p4, p3, p2, p1, p0]
    match state.toNat with
    | 0 => some (position, .stopped)
    | 1 => some (position, .playing)
    | 2 => some (position, .shuttling)
    | _ => none
  | _ => none

/-! ### Surface scan and motor return (R179, R180) -/

/-- One reading of a scan (R121). -/
structure Reading where
  fader : Fin 64
  raw : Nat
  touch : Nat
  deriving DecidableEq, Repr

/-- The readings of a scan's bytes after its count; bits the format ignores are not read (R179). -/
def readReadings : List Byte → List Reading
  | fader :: r1 :: r0 :: t1 :: t0 :: rest =>
    ⟨(fader.extractLsb' 0 6).toFin, ((r1 ++ r0).extractLsb' 0 12).toNat, (t1 ++ t0).toNat⟩ :: readReadings rest
  | _ => []

/-- Reads a surface scan: none when it is bad, by its length, its count, its check, or a fader named twice (R121, R179). -/
def readScan (bytes : List Byte) : Option (List Reading) :=
  match checkedBody bytes with
  | some (count :: rest) =>
    let readings := readReadings rest
    if count.toNat ≤ 64 ∧ rest.length = 5 * count.toNat ∧ (readings.map Reading.fader).Nodup then some readings else none
  | _ => none

/-- The bytes of a motor return with its check (R180). -/
def motorReturnBytes (entries : List MotorEntry) : List Byte :=
  withCheck (BitVec.ofNat 8 entries.length :: entries.flatMap fun e =>
    BitVec.ofNat 8 ((if e.drive then 128 else 0) + e.fader.val) :: beSigned 2 e.target)

/-! ### Group message (R93, R177) -/

/-- The class of a kind (R93). -/
def MsgKind.cls : MsgKind → Nat
  | .passOpen => 0
  | .passClose => 0
  | .groupCut => 1
  | .groupLevel => 2

/-- The kind code of a kind (R93). -/
def MsgKind.code : MsgKind → Nat
  | .passOpen => 0
  | .passClose => 1
  | .groupCut => 2
  | .groupLevel => 3

/-- The kind of a kind code (R93). -/
def MsgKind.ofBits (code : BitVec 2) : MsgKind :=
  match code.toNat with
  | 0 => .passOpen
  | 1 => .passClose
  | 2 => .groupCut
  | _ => .groupLevel

/-- A message as its fields give it (R93). -/
structure Message where
  kind : MsgKind
  slot : Fin 16
  number : Nat
  value : Int
  deriving DecidableEq, Repr

/-- Bits 2 to 29 of a message: class, slot, kind, number and value (R93). -/
def messageCovered (m : Message) : BitVec 28 :=
  BitVec.ofNat 2 m.kind.cls ++ BitVec.ofNat 4 m.slot.val ++ BitVec.ofNat 2 m.kind.code ++ BitVec.ofNat 8 m.number ++
    BitVec.ofInt 12 m.value

/-- Bits 2 to 39 of a message as sent, bit 2 the most significant (R93, R94). -/
def messageBits (m : Message) : BitVec 38 := messageCovered m ++ crc8 (messageCovered m) ++ 3#2

/-- Judges bits 2 to 39 as read: the message when it is taken, none when it is a line error (R98). -/
def readMessage (bits : BitVec 38) : Option Message :=
  let covered := bits.extractLsb' 10 28
  let kind := MsgKind.ofBits (bits.extractLsb' 30 2)
  let number := (bits.extractLsb' 22 8).toNat
  let group := kind = .groupCut ∨ kind = .groupLevel
  if bits.extractLsb' 0 2 = 3#2 ∧ bits.extractLsb' 2 8 = crc8 covered ∧ (bits.extractLsb' 36 2).toNat = kind.cls ∧
      (group → number < 32) then
    some ⟨kind, (bits.extractLsb' 32 4).toFin, number, (bits.extractLsb' 10 12).toInt⟩
  else none

end Sys2Proof.Machine
end

