-- ==== Sys2Proof/Machine/Flags.lean ====
section
/-! DEFINITION. The updates of State, one for each field, and the flags of the part: the cause set and the attention line
(R171, R172), the listen-only condition (R50), the solo demand and the solo drive (R24, R105). -/

namespace Sys2Proof.Machine

/-! ### One update for each field of State -/

/-- The state with `pending` replaced. -/
def State.setPending (s : State) (v : List Instr) : State := { s with pending := v }

/-- The state with `resetPin` replaced. -/
def State.setResetPin (s : State) (v : Bool) : State := { s with resetPin := v }

/-- The state with `straps` replaced. -/
def State.setStraps (s : State) (v : Straps) : State := { s with straps := v }

/-- The state with `clock` replaced. -/
def State.setClock (s : State) (v : Clock) : State := { s with clock := v }

/-- The state with `strips` replaced. -/
def State.setStrips (s : State) (v : Vector Strip 64) : State := { s with strips := v }

/-- The state with `engine` replaced. -/
def State.setEngine (s : State) (v : Engine) : State := { s with engine := v }

/-- The state with `tx` replaced. -/
def State.setTx (s : State) (v : LaneTx) : State := { s with tx := v }

/-- The state with `peers` replaced. -/
def State.setPeers (s : State) (v : Vector Peer 16) : State := { s with peers := v }

/-- The state with `summer` replaced. -/
def State.setSummer (s : State) (v : Summer) : State := { s with summer := v }

/-- The state with `group` replaced. -/
def State.setGroup (s : State) (v : GroupLine) : State := { s with group := v }

/-- The state with `surface` replaced. -/
def State.setSurface (s : State) (v : Surface) : State := { s with surface := v }

/-- The state with `playback` replaced. -/
def State.setPlayback (s : State) (v : Playback) : State := { s with playback := v }

/-- The state with `pass` replaced. -/
def State.setPass (s : State) (v : Pass) : State := { s with pass := v }

/-- The state with `ports` replaced. -/
def State.setPorts (s : State) (v : Ports) : State := { s with ports := v }

/-- The state with `control` replaced. -/
def State.setControl (s : State) (v : Control) : State := { s with control := v }

/-! ### Causes and the attention line -/

/-- The position of a cause in the cause set (R171). -/
def Cause.position : Cause → Nat
  | .peerChange => 0
  | .slotConflict => 1
  | .premixConflict => 2
  | .groupConflict => 3
  | .clockChange => 4
  | .busOver => 5
  | .laneOverflow => 6
  | .windowOversubscribed => 7
  | .inputSilent => 8
  | .stuckTouch => 9
  | .journalFull => 10
  | .passMissed => 11
  | .mergeDone => 12
  | .mergeAborted => 13
  | .lineError => 14

/-- Whether a cause is set (R171). -/
def State.causeSet (s : State) (c : Cause) : Bool := s.control.causes.getLsbD c.position

/-- Raises a cause; raising a set cause changes nothing (R171). -/
def raise (c : Cause) (s : State) : State :=
  s.setControl { s.control with causes := s.control.causes ||| BitVec.ofNat 15 (2 ^ c.position) }

/-- Raises a cause where a condition holds. -/
def raiseIf (b : Bool) (c : Cause) (s : State) : State := if b then raise c s else s

/-- Clears every selected cause (R171). -/
def clearSelected (selection : BitVec 15) (s : State) : State :=
  s.setControl { s.control with causes := s.control.causes &&& ~~~selection }

/-- The attention line: asserted while some cause is both set and unmasked, released while RESET is asserted (R172). -/
def State.attentionLine (s : State) : Bool := !s.resetPin && s.control.causes &&& s.control.mask != 0

/-! ### Conditions read by several blocks -/

/-- The station is listen-only: strapped, or after a slot conflict (R50). -/
def State.listenOnly (s : State) : Bool := s.tx.drive != .driving

/-- The rate strap (R39). -/
def State.rate (s : State) : Rate := s.straps.rate

/-- Whether a strip, or its fader, exists at the strap rate (R19, R123). -/
def State.hasStrip (s : State) (i : Fin 64) : Bool := decide (i.val < s.rate.strips)

/-- The strip engine's solo demand: some existing AUDIO strip has solo on (R24). -/
def State.soloDemand (s : State) : Bool :=
  (List.finRange 64).any fun i => s.hasStrip i && s.strips[i].solo && s.strips[i].role == .audio

/-- Whether the controller drives the solo line (R105, R106); nothing is driven while RESET is asserted (R173). -/
def State.soloDrive (s : State) : Bool := s.soloDemand && !s.listenOnly && !s.resetPin

/-- The store count: the moves of all lists together (R138). -/
def State.storeCount (s : State) : Nat :=
  ((List.finRange 64).map fun i => s.playback.strips[i].levelMoves.length + s.playback.strips[i].cutMoves.length).sum

end Sys2Proof.Machine
end

