-- ==== Sys2Proof/Machine/Ops.lean ====
section
/-! DEFINITION. The operations every command is built from: the RESET pin's hold, access to the records of one strip, the walk
over the existing strips, and the reply of a control transaction. -/

namespace Sys2Proof.Machine

/-- The outcome of a command: always a next state. -/
abbrev Result := Host.Outcome State Fault Refusal

/-! ### The hold of RESET -/

/-- An event outside a control transaction: while RESET is asserted the part takes no arrival (R173), and its own timers stand
still (log entry 8). -/
def onEvent (s : State) (f : State → State) : Result := .next (if s.resetPin then s else f s)

/-! ### One strip -/

/-- Changes one strip record. -/
def modStrip (i : Fin 64) (f : Strip → Strip) (s : State) : State :=
  s.setStrips (s.strips.set i (f s.strips[i]))

/-- Changes the automation engine's record of one strip. -/
def modAuto (i : Fin 64) (f : AutoStrip → AutoStrip) (s : State) : State :=
  s.setPlayback { s.playback with strips := s.playback.strips.set i (f s.playback.strips[i]) }

/-- Changes one fader record. -/
def modFader (i : Fin 64) (f : Fader → Fader) (s : State) : State :=
  s.setSurface { s.surface with faders := s.surface.faders.set i (f s.surface.faders[i]) }

/-- Changes the open punches of one strip. -/
def modPunches (i : Fin 64) (f : Punches → Punches) (s : State) : State :=
  s.setPass { s.pass with punches := s.pass.punches.set i (f s.pass.punches[i]) }

/-- Changes one premix master. -/
def modPremix (p : Fin 64) (f : PremixMaster → PremixMaster) (s : State) : State :=
  s.setSummer { s.summer with premix := s.summer.premix.set p (f s.summer.premix[p]) }

/-- Changes one peer record. -/
def modPeer (slot : Fin 16) (f : Peer → Peer) (s : State) : State :=
  s.setPeers (s.peers.set slot (f s.peers[slot]))

/-- Does something for every existing strip, in ascending strip order. Where strips that master groups are handed new cuts, this orders the
enqueues of their GROUP CUTs, which is the model's choice (log entry 50; in a scan 18, at the silence expiry 49). -/
def forStrips (f : Fin 64 → State → State) (s : State) : State :=
  (List.finRange 64).foldl (fun t i => if t.hasStrip i then f i t else t) s

/-- The existing strip a command names, if there is one (R19). -/
def existing (s : State) (n : Nat) : Option (Fin 64) :=
  if h : n < 64 then if s.hasStrip ⟨n, h⟩ then some ⟨n, h⟩ else none else none

/-! ### Replies (R169, R181) -/

/-- Sends a reply. -/
def respond (status : Status) (data : List Byte) (s : State) : State :=
  s.setControl { s.control with reply := some ⟨status, data⟩ }

/-- Replies OK with no reply data. -/
def ok (s : State) : State := respond .ok [] s

/-- Refuses a command: the status and no reply data, and nothing else changes (R170). -/
def refuse (status : Status) (s : State) : State := respond status [] s

/-- A complete control request. While RESET is asserted no transaction is taken (R169). -/
def onCommand (s : State) (f : State → State) : Result :=
  .next (if s.resetPin then s.setControl { s.control with reply := none } else f s)

/-- A command that carries no data and whose object address must be 0 (R170, R182). -/
def onBare (address : BitVec 16) (data : List Byte) (s : State) (f : State → State) : Result :=
  onCommand s fun s => if data = [] ∧ address = 0 then f s else refuse .range s

end Sys2Proof.Machine
end

