-- ==== Sys2Proof/Machine/Strips.lean ====
section
/-! DEFINITION. What a strip's fields give: the fader code and the mode cut in force, the effective level and cut of an AUDIO
strip (R22 to R27), the offset and cut of a GROUP MASTER (R33), and the audio values of a frame (R8, R28 to R32). -/

namespace Sys2Proof.Machine

/-! ### Level and cut -/

/-- The fader code the desk offers: live while the fader is present, otherwise static (R25). -/
def Strip.deskCode (st : Strip) : Nat := if st.present then st.liveCode else st.staticCode

/-- The fader code in force (R25). -/
def Strip.faderCode (st : Strip) : Nat :=
  match st.levelSource with
  | .store => st.storeLevel
  | .desk => st.deskCode

/-- The mode cut (R22). -/
def Strip.modeCut (st : Strip) : Bool :=
  match st.cutSource with
  | .store => st.storeCut
  | .desk => st.manualCut

/-- The effective level of an AUDIO strip under a group table (R26). -/
def Strip.levelUnder (table : Vector TableEntry 32) (st : Strip) : Nat :=
  if st.faderCode = 0 then 0
  else clampCode (st.faderCode + (st.groups.map fun g => table[g].offset).sum)

/-- The effective cut of an AUDIO strip under a group table and a solo active level (R23). -/
def Strip.cutUnder (table : Vector TableEntry 32) (soloActive : Bool) (st : Strip) : Bool :=
  st.modeCut || st.groups.any (fun g => table[g].cut) || (soloActive && !st.solo && !st.soloSafe)

/-- An AUDIO strip re-evaluates its effective level and cut; a changed level gives the level ramp a new target and a changed
cut sets the cut ramp's direction (R23, R26, R11, R14). -/
def Strip.retune (table : Vector TableEntry 32) (soloActive : Bool) (st : Strip) : Strip :=
  let level := st.levelUnder table
  let cut := st.cutUnder table soloActive
  { st with
    effLevel := level
    effCut := cut
    levelRamp := if level = st.effLevel then st.levelRamp else st.levelRamp.retarget (coefficient level)
    cutRamp := if cut = st.effCut then st.cutRamp else st.cutRamp.take cut }

/-- The group offset a GROUP MASTER forms from a fader code (R33). -/
def masterOffset (code : Nat) : Int := if code = 0 then -1020 else (code : Int) - 900

/-- Every existing AUDIO strip that a test selects re-evaluates (R23, R24, R26). -/
def retuneWhere (p : Strip → Bool) (s : State) : State :=
  s.setStrips (mapFin s.strips fun i st =>
    if s.hasStrip i && st.role == .audio && p st then st.retune s.group.table s.group.soloLevel else st)

/-! ### Audio (R8) -/

/-- The input sample x of a strip for the frame whose samples are handed (R21); at 96 kHz channels 32 to 63 lie on no port and
read 0. -/
def Strip.inputSample (rate : Rate) (samples : Vector Int 64) (st : Strip) : Int :=
  match st.input with
  | none => 0
  | some c => if c.val < rate.strips then samples[c] else 0

/-- The cut sample u of a strip (R8). -/
def Strip.cutSample (rate : Rate) (samples : Vector Int 64) (st : Strip) : Int :=
  product (product (st.inputSample rate samples) (coefficient st.trim)) st.cutRamp.current

/-- The fader output z of a strip (R8). -/
def Strip.faderOutput (rate : Rate) (samples : Vector Int 64) (st : Strip) : Int :=
  product (st.cutSample rate samples) st.levelRamp.current

/-- The term of a send (R8, R28). -/
def Send.term (send : Send) (u z : Int) : Int :=
  match send.tap with
  | .post => product z (coefficient send.code)
  | .pre => product u (coefficient send.code)

/-- The terms of a strip's sends that are on, each with its target bus (R28). -/
def Strip.terms (rate : Rate) (samples : Vector Int 64) (st : Strip) : BusList :=
  (st.sends.toList.filter Send.on).map fun send =>
    (send.bus.val, send.term (st.cutSample rate samples) (st.faderOutput rate samples))

/-- Whether a strip is processed for audio: it exists and its role is AUDIO (R21). -/
def State.isAudio (s : State) (i : Fin 64) : Bool := s.hasStrip i && s.strips[i].role == .audio

/-- Every send term of the station's strips for a frame (R28). -/
def State.sendTerms (s : State) (samples : Vector Int 64) : BusList :=
  (List.finRange 64).flatMap fun i => if s.isAudio i then s.strips[i].terms s.rate samples else []

/-- The own premix contributions of a frame: one pair for each bus of the premix target set, ascending (R29, R30). -/
def premixContributions (terms : BusList) : BusList :=
  (busesFrom 0 (targets terms)).map fun b => (b, satWide (sumAt terms b))

/-- The held stem-bound sums of a frame, unsaturated, one pair for each bus of the stem target set (R29, R31). -/
def stemSums (terms : BusList) : BusList :=
  (busesFrom 64 (targets terms)).map fun b => (b, sumAt terms b)

/-- The completed own stem contributions: held sums and premix-to-stem terms, one pair for each bus of the union of their
targets (R31). -/
def completedStems (held premixTerms : BusList) : BusList :=
  (busesFrom 64 fun b => targets held b || targets premixTerms b).map fun b =>
    (b, satWide (sumAt held b + sumAt premixTerms b))

/-- The DIRECT values of a frame: z of every existing AUDIO strip, 0 for the others (R32). -/
def State.directValues (s : State) (samples : Vector Int 64) : Vector Int 64 :=
  Vector.ofFn fun i => if s.isAudio i then s.strips[i].faderOutput s.rate samples else 0

end Sys2Proof.Machine
end

