-- ==== Sys2Proof/Machine/GroupLine.lean ====
section
/-! DEFINITION. The group line controller: the group table (R100), the send queue and its messages (R95 to R97, R101), the
mastered set (R102) and its refresh (R103), and what a strip hands to it (R33, R34). -/

namespace Sys2Proof.Machine

/-! ### The mastered set -/

/-- The group line controller's record of a mastered group, if the station masters it (R102). -/
def GroupLine.master (g : GroupLine) (group : Fin 32) : Option Master := g.mastered.find? fun m => m.group == group

/-- Whether the station masters a group (R102). -/
def GroupLine.masters (g : GroupLine) (group : Fin 32) : Bool := g.mastered.any fun m => m.group == group

/-- Puts a master into the mastered set at its place in group order, replacing one of the same group. -/
def insertMaster (m : Master) : List Master → List Master
  | [] => [m]
  | x :: rest =>
    if m.group < x.group then m :: x :: rest
    else if m.group = x.group then m :: rest
    else x :: insertMaster m rest

/-- Changes the record of a mastered group. -/
def modMaster (group : Fin 32) (f : Master → Master) (s : State) : State :=
  s.setGroup { s.group with mastered := s.group.mastered.map fun m => if m.group = group then f m else m }

/-! ### The group table -/

/-- A GROUP LEVEL or GROUP CUT message in the table entry (R100). -/
def TableEntry.take (e : TableEntry) (kind : Kind) (value : Int) (slot : Fin 16) : TableEntry :=
  match kind with
  | .level => { e with offset := max (-1020) (min 120 value), sender := some slot, heard := true }
  | .cut => { e with cut := value != 0, sender := some slot, heard := true }

/-- The group table takes a GROUP LEVEL or GROUP CUT; member strips re-evaluate when the stored value changed, and a foreign
sender of a group the station masters raises GROUP CONFLICT (R100). -/
def takeGroup (kind : Kind) (g : Fin 32) (value : Int) (slot : Fin 16) (s : State) : State :=
  let before := s.group.table[g]
  let after := before.take kind value slot
  let s := s.setGroup { s.group with table := s.group.table.set g after }
  let changed := before.offset != after.offset || before.cut != after.cut
  let s := if changed then retuneWhere (fun st => st.groups.contains g) s else s
  raiseIf (slot != s.straps.slot && s.group.masters g) .groupConflict s

/-! ### The send queue -/

/-- Whether an entry has a key (R101). -/
def QueueEntry.hasKey (kind : MsgKind) (number : Nat) (e : QueueEntry) : Bool := e.kind == kind && e.number == number

/-- Whether a kind is a pass kind (R101). -/
def MsgKind.isPass : MsgKind → Bool
  | .passOpen => true
  | .passClose => true
  | .groupCut => false
  | .groupLevel => false

/-- The entries that may be queued when a new entry of a kind joins (R101): two places are left for the pass kinds. -/
def MsgKind.room : MsgKind → Nat
  | .passOpen => 40
  | .passClose => 40
  | .groupCut => 38
  | .groupLevel => 38

/-- Whether an enqueue finds no place: no entry has its key, and the queue is full for its kind (R101). -/
def GroupLine.noRoom (g : GroupLine) (kind : MsgKind) (number : Nat) : Bool :=
  !g.queue.any (QueueEntry.hasKey kind number) && decide (kind.room ≤ g.queue.length)

/-- An enqueue: it coalesces with the entry of its key, is dropped where there is no room, or joins at the tail, which is the
latest enqueue order (R101). -/
def GroupLine.enqueue (g : GroupLine) (kind : MsgKind) (number : Nat) (value : Int) : GroupLine :=
  if g.queue.any (QueueEntry.hasKey kind number) then
    { g with queue := g.queue.map fun e => if e.hasKey kind number then { e with value := value } else e }
  else if kind.room ≤ g.queue.length then { g with drops := count16 g.drops 1 }
  else { g with queue := g.queue ++ [⟨kind, number, value, none⟩] }

/-- The entry to send: the lowest class first, within a class the entry enqueued earliest, none in flight (R95, R101). -/
def chooseEntry (queue : List QueueEntry) : Option QueueEntry :=
  let waiting := queue.filter fun e => e.inFlight.isNone
  let ofClass (c : Nat) := waiting.find? fun e => e.kind.cls == c
  (ofClass 0).or ((ofClass 1).or (ofClass 2))

/-- The entry whose message the station is sending, if any (R95). -/
def GroupLine.sending (g : GroupLine) : Option QueueEntry := g.queue.find? fun e => e.inFlight.isSome

/-- Starts or joins a message: the chosen entry is marked in flight with the value it sends (R95). -/
def markInFlight (s : State) : State :=
  if s.listenOnly then s
  else match chooseEntry s.group.queue with
    | none => s
    | some c =>
      s.setGroup { s.group with
        line := .message
        queue := s.group.queue.map fun e => if e.hasKey c.kind c.number then { e with inFlight := some e.value } else e }

/-- A station whose line state is IDLE starts a message when it has an entry to send; its start bit takes the receive side to
MESSAGE (R92, R95). -/
def startIfIdle (s : State) : State :=
  match s.group.line with
  | .idle => markInFlight s
  | .seeking => s
  | .message => s

/-- The message kind of a group value. -/
def Kind.message : Kind → MsgKind
  | .level => .groupLevel
  | .cut => .groupCut

/-- An enqueue of a group's level or cut; on a listen-only station it is taken at once as the message it stands for, with the
own slot as sender (R101, R106). -/
def enqueueGroup (kind : Kind) (g : Fin 32) (value : Int) (s : State) : State :=
  if s.listenOnly then takeGroup kind g value s.straps.slot s
  else startIfIdle (s.setGroup (s.group.enqueue kind.message g.val value))

/-- The value of a cut as sent (R93). -/
def cutValue (cut : Bool) : Int := if cut then 1 else 0

/-- Enqueues the GROUP LEVEL and GROUP CUT of a mastered group with the held values; the offset is recorded as last enqueued
(R102, R103, R107). LEVEL joins first, and in IDLE starts its message before CUT joins, which is the model's choice (log entry 44). -/
def refreshGroup (g : Fin 32) (s : State) : State :=
  match s.group.master g with
  | none => s
  | some m =>
    let s := modMaster g (fun m => { m with enqueued := m.offset }) s
    enqueueGroup .cut g (cutValue m.cut) (enqueueGroup .level g m.offset s)

/-- At an automation step, GROUP LEVEL is enqueued for each mastered group whose held offset differs from the offset last
enqueued (R102); of several groups in ascending group order, which is the model's choice (log entry 45). -/
def enqueueOffsets (s : State) : State :=
  s.group.mastered.foldl (fun t m =>
    if m.offset = m.enqueued then t
    else enqueueGroup .level m.group m.offset (modMaster m.group (fun m => { m with enqueued := m.offset }) t)) s

/-! ### What a strip hands on -/

/-- A group master hands its offset and cut: a new cut is enqueued at once, a new offset is held for the next automation step
(R33, R102). -/
def handMaster (g : Fin 32) (offset : Int) (cut : Bool) (s : State) : State :=
  match s.group.master g with
  | none => s
  | some m =>
    let s := modMaster g (fun m => { m with offset := offset, cut := cut }) s
    if m.cut = cut then s else enqueueGroup .cut g (cutValue cut) s

/-- A strip re-evaluates after an input change: an AUDIO strip its effective level and cut, a GROUP MASTER its offset and cut
(R23, R26, R33). -/
def evalStrip (i : Fin 64) (s : State) : State :=
  match s.strips[i].role with
  | .audio => modStrip i (Strip.retune s.group.table s.group.soloLevel) s
  | .groupMaster g => handMaster g (masterOffset s.strips[i].faderCode) s.strips[i].modeCut s

/-- A strip takes the GROUP MASTER role of a group: the group joins the mastered set and its level and cut are enqueued at once
(R34, R102). -/
def becomeMaster (i : Fin 64) (g : Fin 32) (s : State) : State :=
  let offset := masterOffset s.strips[i].faderCode
  refreshGroup g (s.setGroup { s.group with
    mastered := insertMaster ⟨g, offset, s.strips[i].modeCut, offset⟩ s.group.mastered })

/-- A strip gives up the GROUP MASTER role of a group: the group leaves the mastered set, and its entries that are not in flight
leave the queue (R34, R102). -/
def ceaseMaster (g : Fin 32) (s : State) : State :=
  s.setGroup { s.group with
    mastered := s.group.mastered.filter fun m => m.group != g
    queue := s.group.queue.filter fun e => e.kind.isPass || e.number != g.val || e.inFlight.isSome }

/-- A role write that changed strip i's role from `before` (R34). The record already holds the new role. A strip that leaves the
GROUP MASTER role is evaluated as AUDIO, also on its way to another group. -/
def changeRole (i : Fin 64) (before : Role) (s : State) : State :=
  let s := match before with
    | .audio => s
    | .groupMaster g =>
      let s := ceaseMaster g s
      modStrip i (Strip.retune s.group.table s.group.soloLevel) s
  match s.strips[i].role with
  | .audio => s
  | .groupMaster h => becomeMaster i h s

/-! ### The end of a message at its sender -/

/-- Whether an entry may stay queued: a pass entry, or a group entry whose group the station masters (R96, R97). -/
def GroupLine.keeps (g : GroupLine) (e : QueueEntry) : Bool :=
  e.kind.isPass || g.mastered.any fun m => m.group.val == e.number

/-- The sender lost arbitration or met a line fault: the in-flight mark is cleared and the entry keeps its place, unless its
group is no longer mastered (R96). -/
def GroupLine.withdraw (g : GroupLine) : GroupLine :=
  { g with queue := (g.queue.filter fun e => e.inFlight.isNone || g.keeps e).map fun e => { e with inFlight := none } }

/-- The sender completed its message: the entry is removed when its value is the value sent or its group is no longer mastered,
and otherwise stays with the mark cleared (R97). -/
def GroupLine.settle (g : GroupLine) : GroupLine :=
  { g with
    queue := (g.queue.filter fun e => e.inFlight.isNone || (g.keeps e && e.inFlight != some e.value)).map
      fun e => { e with inFlight := none }
    sent := count16 g.sent 1 }

/-- A line error: counted, and LINE ERROR raised (R96, R98, R104). -/
def lineError (s : State) : State :=
  raise .lineError (s.setGroup { s.group with lineErrors := count16 s.group.lineErrors 1 })

/-- The receive side returns to SEEKING, with no recessive bit time counted (R92). -/
def seek (s : State) : State := s.setGroup { s.group with line := .seeking, recessiveRun := 0 }

/-- The sender loses arbitration (R96). -/
def loseArbitration (s : State) : State :=
  let g := s.group.withdraw
  s.setGroup { g with losses := count16 g.losses 1 }

/-- The sender meets a line fault (R96). -/
def meetFault (s : State) : State := seek (lineError (s.setGroup s.group.withdraw))

/-- The message an entry in flight sends (R93, R95). -/
def State.ownMessage (s : State) (e : QueueEntry) : Message :=
  ⟨e.kind, s.straps.slot, e.number, e.inFlight.getD e.value⟩

/-- On becoming listen-only the controller cuts short its message in flight and empties its send queue (R106); the solo drive
is released with the condition. -/
def groupSilenced (s : State) : State := s.setGroup { s.group with queue := [] }

end Sys2Proof.Machine
end

