-- ==== Sys2Proof/Machine/Journal.lean ====
section
/-! DEFINITION. The journal and its punches: what a record needs to be accepted (R156), when a strip and kind is live for
recording (R157), and the records of a punch-in, a step, a closing and a glide (R157 to R159). -/

namespace Sys2Proof.Machine

/-! ### Acceptance (R156) -/

/-- The number of open punches of a strip. -/
def Punches.count (p : Punches) : Nat := (if p.level.isSome then 1 else 0) + (if p.cut.isSome then 1 else 0)

/-- The number of open punches (R156). -/
def Pass.openPunches (p : Pass) : Nat := (p.punches.toList.map Punches.count).sum

/-- The free count (R156). -/
def Pass.free (p : Pass) : Nat := 2048 - p.journal.length - p.openPunches

/-- A refused record: the incomplete mark is set and JOURNAL FULL raised (R156). -/
def refuseRecord (s : State) : State := raise .journalFull (s.setPass { s.pass with incomplete := true })

/-- A record joins the journal. -/
def appendRecord (r : Record) (s : State) : State := s.setPass { s.pass with journal := s.pass.journal ++ [r] }

/-- Whether a strip and kind has a punch open (R152). -/
def Pass.isOpen (p : Pass) (i : Fin 64) : Kind → Bool
  | .level => p.punches[i].level.isSome
  | .cut => p.punches[i].cut.isSome

/-- Opens a punch with no value recorded. -/
def Punches.start (kind : Kind) (p : Punches) : Punches :=
  match kind with
  | .level => { p with level := some none }
  | .cut => { p with cut := some none }

/-- Closes a punch. -/
def Punches.stop (kind : Kind) (p : Punches) : Punches :=
  match kind with
  | .level => { p with level := none }
  | .cut => { p with cut := none }

/-- Records the last recorded value of an open punch. -/
def Punches.note (v : MoveValue) (p : Punches) : Punches :=
  match v with
  | .level code _ => { p with level := some (some code) }
  | .cut on => { p with cut := some (some on) }

/-- Whether a value differs from the last recorded value of its punch, or none is recorded (R158, R159). -/
def Punches.differs (v : MoveValue) (p : Punches) : Bool :=
  match v with
  | .level code _ => p.level != some (some code)
  | .cut on => p.cut != some (some on)

/-- Offers a MOVE of a strip with an open punch: accepted when the free count is 1 or more, and then its value is the last
recorded value (R156). -/
def offerMove (i : Fin 64) (position : Nat) (v : MoveValue) (s : State) : State :=
  if 1 ≤ s.pass.free then modPunches i (Punches.note v) (appendRecord (.move i position v) s) else refuseRecord s

/-- Offers a PUNCH IN and, when it is accepted, the opening move at the same position (R156, R157). -/
def offerPunchIn (i : Fin 64) (kind : Kind) (position : Nat) (opening : MoveValue) (s : State) : State :=
  if 2 ≤ s.pass.free then
    offerMove i position opening (modPunches i (Punches.start kind) (appendRecord (.punchIn i kind position) s))
  else refuseRecord s

/-- Records a PUNCH OUT in the place its punch reserved, and closes the punch (R156). -/
def punchOut (i : Fin 64) (kind : Kind) (position : Nat) (s : State) : State :=
  modPunches i (Punches.stop kind) (appendRecord (.punchOut i kind position) s)

/-! ### Punching in and out (R157, R159) -/

/-- The value the desk offers for a strip and kind, glide flag clear (R157). -/
def State.deskValue (s : State) (i : Fin 64) : Kind → MoveValue
  | .level => .level s.strips[i].deskCode false
  | .cut => .cut s.strips[i].manualCut

/-- Whether a strip and kind is live for recording (R157). -/
def State.liveForRecording (s : State) (i : Fin 64) (kind : Kind) : Bool :=
  let a := s.playback.strips[i]
  match s.strips[i].mode, kind with
  | .write, _ => true
  | .touch, .level => a.phase == .live || a.phase == .latched
  | .latch, .level => a.phase == .live || a.phase == .latched
  | .touch, .cut => a.cutLive
  | .latch, .cut => a.cutLive
  | .off, _ => false
  | .read, _ => false

/-- The pass records: RECORDING while PLAYING (R157). -/
def State.recordingNow (s : State) : Bool := s.pass.state == .recording && s.playback.transport == .playing

/-- A strip and kind live for recording, with no punch open, punches in while the pass records (R157). -/
def punchIn (i : Fin 64) (kind : Kind) (position : Nat) (s : State) : State :=
  if s.recordingNow && s.liveForRecording i kind && !s.pass.isOpen i kind then
    offerPunchIn i kind position (s.deskValue i kind) s
  else s

/-- Every strip and kind live for recording punches in, in ascending strip order, LEVEL before CUT (R156, R157). -/
def punchInAll (position : Nat) (s : State) : State :=
  forStrips (fun i t => punchIn i .cut position (punchIn i .level position t)) s

/-- Closes a punch, if it is open: the closing move where the desk's value differs from the last recorded, then the PUNCH OUT
(R159). -/
def closePunch (i : Fin 64) (kind : Kind) (position : Nat) (s : State) : State :=
  if s.pass.isOpen i kind then
    let v := s.deskValue i kind
    punchOut i kind position (if s.pass.punches[i].differs v then offerMove i position v s else s)
  else s

/-- Closes both punches of a strip, LEVEL before CUT (R156, R159). -/
def closePunches (i : Fin 64) (position : Nat) (s : State) : State :=
  closePunch i .cut position (closePunch i .level position s)

/-- Closes every open punch, in ascending strip order (R156, R159). -/
def closeAllPunches (position : Nat) (s : State) : State := forStrips (fun i t => closePunches i position t) s

/-- A glide start handed for a strip: with its LEVEL punch open, a MOVE with the glide start code and the glide flag set,
whatever the last recorded value (R159). -/
def recordGlideStart (i : Fin 64) (position code : Nat) (s : State) : State :=
  if s.pass.isOpen i .level then offerMove i position (.level code true) s else s

/-- A glide end handed for a strip: its LEVEL punch closes with the PUNCH OUT only (R159). -/
def recordGlideEnd (i : Fin 64) (position : Nat) (s : State) : State :=
  if s.pass.isOpen i .level then punchOut i .level position s else s

/-- The move of an automation step for a strip and kind: its punch is open, it is live for recording, and the desk's value
differs from the last recorded (R158). -/
def recordStep (i : Fin 64) (kind : Kind) (s : State) : State :=
  let v := s.deskValue i kind
  if s.recordingNow && s.pass.isOpen i kind && s.liveForRecording i kind && s.pass.punches[i].differs v then
    offerMove i s.playback.position v s
  else s

end Sys2Proof.Machine
end

