-- ==== Sys2Proof/Machine/Automation.lean ====
section
/-! DEFINITION. The automation engine: the reading of a strip (R141), the values handed to it (R144), glides (R145), touches,
releases, cuts and modes (R146 to R148), the transport and pass events (R149, R154, R155, R157), the automation step (R142,
R158) and the merge (R161, R162). -/

namespace Sys2Proof.Machine

/-! ### Reading (R141) -/

/-- The automation level at a position and whether it was interpolated; none where the list is empty (R141). -/
def readLevelAt (moves : List LevelMove) (position : Nat) : Option (Nat × Bool) :=
  match moves with
  | [] => none
  | first :: _ =>
    match (moves.filter fun m => m.position ≤ position).getLast? with
    | none => some (first.code, false)
    | some m =>
      match moves.find? fun x => decide (position < x.position) with
      | none => some (m.code, false)
      | some next =>
        if m.glide then
          some (interpolate m.code next.code (position - m.position) (next.position - m.position), true)
        else some (m.code, false)

/-- The automation cut at a position; none where the list is empty (R141). -/
def readCutAt (moves : List CutMove) (position : Nat) : Option Bool :=
  match moves with
  | [] => none
  | first :: _ => some (((moves.filter fun m => m.position ≤ position).getLast?).getD first).on

/-- Reads a strip at a position: its read level and read cut are set (R141). -/
def AutoStrip.readAt (position : Nat) (a : AutoStrip) : AutoStrip :=
  { a with
    readLevel := (readLevelAt a.levelMoves position).map Prod.fst
    readCut := readCutAt a.cutMoves position }

/-- Reads a strip at the position held (R141). -/
def readStrip (i : Fin 64) (s : State) : State := modAuto i (AutoStrip.readAt s.playback.position) s

/-! ### Values handed to a strip (R144) -/

/-- The level of a strip that follows the store: the read level, or the desk where there is none (R144). Where there is none the store level
code stays as last handed, which is the model's choice (log entry 48). -/
def Strip.followLevel (a : AutoStrip) (st : Strip) : Strip :=
  match a.readLevel with
  | some code => { st with levelSource := .store, storeLevel := code }
  | none => { st with levelSource := .desk }

/-- The cut of a strip that follows the store (R144). Where there is no read cut the store cut stays as last handed, which is the model's
choice (log entry 48). -/
def Strip.followCut (a : AutoStrip) (st : Strip) : Strip :=
  match a.readCut with
  | some cut => { st with cutSource := .store, storeCut := cut }
  | none => { st with cutSource := .desk }

/-- The level source and store level code that the mode and the level phase give; in GLIDE the store level code is the glide
code already handed (R144). -/
def Strip.takeLevel (a : AutoStrip) (st : Strip) : Strip :=
  match st.mode, a.phase with
  | .off, _ => { st with levelSource := .desk }
  | .write, _ => { st with levelSource := .desk }
  | .read, _ => st.followLevel a
  | .touch, .follow => st.followLevel a
  | .latch, .follow => st.followLevel a
  | .touch, .glide => { st with levelSource := .store }
  | .latch, .glide => { st with levelSource := .store }
  | .touch, .live => { st with levelSource := .desk }
  | .touch, .latched => { st with levelSource := .desk }
  | .latch, .live => { st with levelSource := .desk }
  | .latch, .latched => { st with levelSource := .desk }

/-- The cut source and store cut that the mode and the record give (R144). -/
def Strip.takeCut (a : AutoStrip) (st : Strip) : Strip :=
  let heldByDesk (st : Strip) : Strip := if a.cutLive then { st with cutSource := .desk } else st
  match st.mode with
  | .off => { st with cutSource := .desk }
  | .write => { st with cutSource := .desk }
  | .read => st.followCut a
  | .touch => heldByDesk (st.followCut a)
  | .latch => heldByDesk (st.followCut a)

/-- Hands a strip its level values (R144); the strip takes them as an input change (R26, R33). -/
def handLevel (i : Fin 64) (s : State) : State :=
  evalStrip i (modStrip i (Strip.takeLevel s.playback.strips[i]) s)

/-- Hands a strip its cut values (R144); the strip takes them as an input change (R22, R23). -/
def handCut (i : Fin 64) (s : State) : State :=
  evalStrip i (modStrip i (Strip.takeCut s.playback.strips[i]) s)

/-- Hands a strip its level and cut values (R144). -/
def handValues (i : Fin 64) (s : State) : State := handCut i (handLevel i s)

/-- Hands a strip a store level code, its level source being STORE (R145). -/
def handGlideCode (i : Fin 64) (code : Nat) (s : State) : State :=
  evalStrip i (modStrip i (fun st => { st with levelSource := .store, storeLevel := code }) s)

/-! ### Glides (R145) -/

/-- A strip's level returns from the desk to the store: by a glide where it has a read level and its glide steps are above 0,
otherwise at once (R145). -/
def returnLevel (i : Fin 64) (s : State) : State :=
  let st := s.strips[i]
  if s.playback.strips[i].readLevel.isSome && decide (0 < st.glideSteps) then
    handGlideCode i st.deskCode (modAuto i (fun a =>
      { a with phase := .glide, glideStart := st.deskCode, glideLength := st.glideSteps, glideStep := 0 }) s)
  else handLevel i (modAuto i (fun a => { a with phase := .follow }) s)

/-- The glide code at a step i of a glide (R145, R18): b exactly at the last step. -/
def glideCode (a : AutoStrip) (b step : Nat) : Nat :=
  if a.glideLength ≤ step then b else interpolate a.glideStart b step a.glideLength

/-- A strip in GLIDE advances one step toward the read level held; the glide ends at its last step, or where a reading found no
LEVEL list (R145). The step i does not rise at an end for want of a LEVEL list, which is the model's choice (log entry 52). -/
def advanceGlide (i : Fin 64) (s : State) : State :=
  let a := s.playback.strips[i]
  if a.phase != .glide then s
  else match a.readLevel with
    | none => handLevel i (modAuto i (fun a => { a with phase := .follow }) s)
    | some b =>
      let step := a.glideStep + 1
      handGlideCode i (glideCode a b step) (modAuto i (fun a =>
        { a with glideStep := step, phase := if a.glideLength ≤ step then .follow else .glide }) s)

/-! ### Touches, releases, cuts and modes -/

/-- Whether a mode lets the level phase leave FOLLOW (R143, R147). -/
def Mode.ridden : Mode → Bool
  | .touch => true
  | .latch => true
  | .off => false
  | .read => false
  | .write => false

/-- Whether a mode has the engine read its strip (R142, R146). -/
def Mode.reads : Mode → Bool
  | .read => true
  | .touch => true
  | .latch => true
  | .off => false
  | .write => false

/-- A strip's level becomes LIVE on the desk (R147). -/
def goLive (i : Fin 64) (s : State) : State := handLevel i (modAuto i (fun a => { a with phase := .live }) s)

/-- A touch of a strip's fader (R147). -/
def touchStrip (i : Fin 64) (s : State) : State :=
  let s := modAuto i (fun a => { a with touched := true }) s
  if s.strips[i].mode.ridden then punchIn i .level s.playback.position (goLive i s) else s

/-- A release of a strip's fader (R147, R159). A strip already LATCHED stays LATCHED. -/
def releaseStrip (i : Fin 64) (s : State) : State :=
  let s := modAuto i (fun a => { a with touched := false }) s
  let position := s.playback.position
  if !s.strips[i].mode.ridden || s.playback.strips[i].phase == .latched then s
  else if s.strips[i].mode == .latch && s.recordingNow then
    handLevel i (modAuto i (fun a => { a with phase := .latched }) s)
  else
    let s := handCut i (returnLevel i (readStrip i s))
    if s.playback.strips[i].phase == .glide then
      if s.playback.transport == .playing then recordGlideStart i position s.playback.strips[i].glideStart s else s
    else closePunch i .level position s

/-- A cut change of a strip: in TOUCH and LATCH it sets cut live, and the first that does may punch the cut in (R148). -/
def changeCut (i : Fin 64) (s : State) : State :=
  if s.strips[i].mode.ridden then
    let first := !s.playback.strips[i].cutLive
    let s := handCut i (modAuto i (fun a => { a with cutLive := true }) s)
    if first then punchIn i .cut s.playback.position s else s
  else evalStrip i s

/-- A write that changed a strip's automation mode; the record already holds the new mode (R146, R159, R157). -/
def changeMode (i : Fin 64) (s : State) : State :=
  let position := s.playback.position
  let s := closePunches i position s
  let s := modAuto i (fun a => { a with phase := .follow, cutLive := false }) s
  let s := if s.strips[i].mode.reads then readStrip i s else s
  let s := if s.strips[i].mode.ridden && s.playback.strips[i].touched then
      modAuto i (fun a => { a with phase := .live }) s else s
  let s := handValues i s
  punchIn i .cut position (punchIn i .level position s)

/-! ### Transport and pass events (R149) -/

/-- Latches and live cuts of a strip end: a LATCHED strip is read and returns to the store, and a live cut returns to the read
cut (R149). -/
def endLive (i : Fin 64) (s : State) : State :=
  let s := if s.playback.strips[i].phase == .latched then handCut i (returnLevel i (readStrip i s)) else s
  if s.playback.strips[i].cutLive then handCut i (modAuto i (fun a => { a with cutLive := false }) s) else s

/-- The transport leaves PLAYING, at the local position (R149, R159). -/
def stopPlay (s : State) : State := closeAllPunches s.playback.position (forStrips endLive s)

/-- A jump while PLAYING to a new position: glides end in FOLLOW with the code last handed, every open punch closes at the
position before, and strips still live punch in again at the new one (R137, R149, R157, R159). -/
def jumpTo (position : Nat) (s : State) : State :=
  let before := s.playback.position
  let s := s.setPlayback { s.playback with
    position := position
    jumps := count16 s.playback.jumps 1
    strips := mapFin s.playback.strips fun i a =>
      if s.hasStrip i && a.phase == .glide then { a with phase := .follow } else a }
  punchInAll position (closeAllPunches before s)

/-- Adopts a position and a transport state with no event. -/
def adopt (position : Nat) (transport : Transport) (s : State) : State :=
  s.setPlayback { s.playback with position := position, transport := transport }

/-- A good position record (R137). Positions are compared without wrap (log entry 16). -/
def takePosition (position : Nat) (transport : Transport) (s : State) : State :=
  match s.playback.transport, transport with
  | .playing, .playing =>
    let apart := (position : Int) - s.playback.position
    if apart.natAbs ≤ s.rate.quietWindow then adopt position .playing s else jumpTo position s
  | .playing, t => adopt position t (stopPlay s)
  | _, .playing => punchInAll position (adopt position .playing s)
  | _, t => adopt position t s

/-- A PASS OPEN message with pass number n (R154). -/
def takePassOpen (n : Nat) (s : State) : State :=
  match s.pass.state with
  | .idle =>
    punchInAll s.playback.position (s.setPass { s.pass with state := .recording, number := some n, incomplete := false })
  | .recording =>
    if s.pass.number = some n then s else raise .passMissed (s.setPass { s.pass with missed := some n })
  | .review => raise .passMissed (s.setPass { s.pass with missed := some n })
  | .merging => raise .passMissed (s.setPass { s.pass with missed := some n })

/-- A PASS CLOSE message with pass number n: in RECORDING of pass n every open punch is punched out, the state becomes REVIEW, and
latches and live cuts end (R155, R149). -/
def takePassClose (n : Nat) (s : State) : State :=
  if s.pass.state = .recording ∧ s.pass.number = some n then
    let s := closeAllPunches s.playback.position s
    forStrips endLive (s.setPass { s.pass with state := .review })
  else s

/-- A taken message is handed on by its kind (R99). -/
def handMessage (m : Message) (s : State) : State :=
  match m.kind with
  | .passOpen => takePassOpen m.number s
  | .passClose => takePassClose m.number s
  | .groupCut => if h : m.number < 32 then takeGroup .cut ⟨m.number, h⟩ m.value m.slot s else s
  | .groupLevel => if h : m.number < 32 then takeGroup .level ⟨m.number, h⟩ m.value m.slot s else s

/-- The receive side ends a message: it is taken and handed on, or counted as a line error; the line state becomes SEEKING
(R98). -/
def judgeMessage (bits : BitVec 38) (s : State) : State :=
  let s := seek s
  match readMessage bits with
  | none => lineError s
  | some m => handMessage m (s.setGroup { s.group with taken := count16 s.group.taken 1 })

/-! ### The automation step (R142, R145, R158, R102) -/

/-- Whether the merge holds a strip: its steps do not read it (R160). -/
def State.heldByMerge (s : State) (i : Fin 64) : Bool := s.pass.mergeList.contains i

/-- A step reads a strip and hands it its values (R142). -/
def stepRead (i : Fin 64) (s : State) : State :=
  if s.playback.transport == .playing && s.strips[i].mode.reads && !s.heldByMerge i then handValues i (readStrip i s)
  else s

/-- A step's records for a strip, given its state before the glides advanced: a glide end, then its LEVEL move and its CUT move
(R156, R158, R159). -/
def stepRecord (before : State) (i : Fin 64) (s : State) : State :=
  let ended := before.playback.strips[i].phase == .glide && s.playback.strips[i].phase != .glide
  let s := if ended && s.playback.transport == .playing then recordGlideEnd i s.playback.position s else s
  recordStep i .cut (recordStep i .level s)

/-- The automation step: readings, glides, records, and the group line controller's level enqueues (R136, R142, R102). The strips are read in
ascending order, which orders the GROUP CUTs of masters that are handed new cuts (log entry 50). -/
def automationStepWork (s : State) : State :=
  let before := forStrips stepRead s
  enqueueOffsets (forStrips (stepRecord before) (forStrips advanceGlide before))

/-! ### The merge (R161, R162) -/

/-- Puts a move into a LEVEL list at its place, replacing one at the same position (R139, R161). -/
def insertLevel (m : LevelMove) : List LevelMove → List LevelMove
  | [] => [m]
  | x :: rest =>
    if m.position < x.position then m :: x :: rest
    else if m.position = x.position then m :: rest
    else x :: insertLevel m rest

/-- Puts a move into a CUT list at its place, replacing one at the same position (R139, R161). -/
def insertCut (m : CutMove) : List CutMove → List CutMove
  | [] => [m]
  | x :: rest =>
    if m.position < x.position then m :: x :: rest
    else if m.position = x.position then m :: rest
    else x :: insertCut m rest

/-- One range of the journal: the positions of its records and its moves, in recording order (R161). -/
structure Range (α : Type) where
  positions : List Nat
  moves : List α
  deriving Repr

/-- The least position among a range's records (R161). -/
def Range.lo {α : Type} (r : Range α) : Nat := r.positions.foldl min (r.positions.headD 0)

/-- The greatest position among a range's records (R161). -/
def Range.hi {α : Type} (r : Range α) : Nat := r.positions.foldl max 0

/-- The ranges of one strip and kind in journal order, from the records that remain and the range being built (R161). `pick` gives
the move of a MOVE record of the kind. -/
def rangesFrom {α : Type} (i : Fin 64) (kind : Kind) (pick : Nat → MoveValue → Option α) :
    Option (Range α) → List Record → List (Range α)
  | _, [] => []
  | current, .punchIn j k p :: rest =>
    if j = i ∧ k = kind then rangesFrom i kind pick (some ⟨[p], []⟩) rest else rangesFrom i kind pick current rest
  | current, .move j p v :: rest =>
    match current, pick p v with
    | some r, some m =>
      if j = i then rangesFrom i kind pick (some ⟨r.positions ++ [p], r.moves ++ [m]⟩) rest
      else rangesFrom i kind pick current rest
    | _, _ => rangesFrom i kind pick current rest
  | current, .punchOut j k p :: rest =>
    match current with
    | some r =>
      if j = i ∧ k = kind then { r with positions := r.positions ++ [p] } :: rangesFrom i kind pick none rest
      else rangesFrom i kind pick current rest
    | none => rangesFrom i kind pick none rest

/-- The LEVEL move of a MOVE record. -/
def pickLevel (position : Nat) : MoveValue → Option LevelMove
  | .level code glide => some ⟨position, code, glide⟩
  | .cut _ => none

/-- The CUT move of a MOVE record. -/
def pickCut (position : Nat) : MoveValue → Option CutMove
  | .cut on => some ⟨position, on⟩
  | .level _ _ => none

/-- Whether a position lies outside a range. -/
def Range.outside {α : Type} (r : Range α) (position : Nat) : Bool := decide (position < r.lo) || decide (r.hi < position)

/-- Applies a LEVEL range to a list, with the fader code the desk offers (R161). -/
def mergeLevelRange (desk : Nat) (moves : List LevelMove) (r : Range LevelMove) : List LevelMove :=
  let restore := (readLevelAt moves r.hi).getD (desk, false)
  let merged := r.moves.foldl (fun l m => insertLevel m l) (moves.filter fun m => r.outside m.position)
  if r.moves.any fun m => m.position == r.hi then merged else insertLevel ⟨r.hi, restore.1, restore.2⟩ merged

/-- Applies a CUT range to a list, with the manual cut (R161). -/
def mergeCutRange (desk : Bool) (moves : List CutMove) (r : Range CutMove) : List CutMove :=
  let restore := (readCutAt moves r.hi).getD desk
  let merged := r.moves.foldl (fun l m => insertCut m l) (moves.filter fun m => r.outside m.position)
  if r.moves.any fun m => m.position == r.hi then merged else insertCut ⟨r.hi, restore⟩ merged

/-- The merge rebuilds a strip's two lists from the journal (R161). -/
def AutoStrip.merge (i : Fin 64) (st : Strip) (journal : List Record) (a : AutoStrip) : AutoStrip :=
  { a with
    levelMoves := (rangesFrom i .level pickLevel none journal).foldl (mergeLevelRange st.deskCode) a.levelMoves
    cutMoves := (rangesFrom i .cut pickCut none journal).foldl (mergeCutRange st.manualCut) a.cutMoves }

/-- The pass ends in IDLE: the journal is emptied and the pass number becomes none (R152). -/
def endPass (s : State) : State := s.setPass { s.pass with state := .idle, number := none, journal := [] }

/-- At a frame boundary while MERGING the first strip of the merge list is merged; after the last, the pass ends and MERGE DONE is
raised (R162). -/
def mergeBoundary (s : State) : State :=
  match s.pass.state, s.pass.mergeList with
  | .merging, i :: rest =>
    let s := modAuto i (AutoStrip.merge i s.strips[i] s.pass.journal) s
    let s := s.setPass { s.pass with mergeList := rest, stripsDone := s.pass.stripsDone + 1 }
    if rest = [] then raise .mergeDone (endPass s) else s
  | _, _ => s

end Sys2Proof.Machine
end

