-- ==== Sys2Proof/Machine/Lanes.lean ====
section
/-! DEFINITION. The lane transmitter (R42 to R54) and the lane receiver (R55 to R71). -/

namespace Sys2Proof.Machine

/-! ### The lane transmitter -/

/-- The entries of a section that are sent: those with the lowest buses, up to the capacity (R46). The list is ascending. -/
def sectionEntries (rate : Rate) (l : BusList) : BusList := l.take rate.capacity

/-- The frame assembled from a list of own premix contributions (R40, R42, R44, R45, R49). -/
def State.assembled (s : State) (a : BusList) : LaneFrame where
  slot := s.straps.slot
  clock := s.clock.state
  tag := s.clock.tag
  owned := s.summer.config.owned
  a := sectionEntries s.rate a
  b := sectionEntries s.rate s.tx.pendingB

/-- The hand-over of own premix contributions: the frame is assembled and starts, or waits while another is in flight, replacing a
frame that waits (R42, R43, R46). A listen-only station discards the hand-over (R50). -/
def handOverA (a : BusList) (s : State) : State :=
  if s.listenOnly then s
  else
    let overflow := decide (s.rate.capacity < a.length) || decide (s.rate.capacity < s.tx.pendingB.length)
    let f := s.assembled a
    let tx := match s.tx.inFlight with
      | none => { s.tx with inFlight := some f, pendingB := [] }
      | some _ => { s.tx with waiting := some f, pendingB := [] }
    raiseIf overflow .laneOverflow (s.setTx tx)

/-- The hand-over of completed own stem contributions: the pending B section, replaced by a later one (R42); discarded on a
listen-only station (R50). -/
def handOverB (b : BusList) (s : State) : State :=
  if s.listenOnly then s else s.setTx { s.tx with pendingB := b }

/-- A slot conflict is declared (R52): the transmitter falls silent and the group line controller is told (R106). A pending B section stays as
it is through CONFLICT SILENT, in which no frame is assembled; that is the model's choice (log entry 51). -/
def declareConflict (s : State) : State :=
  groupSilenced (raise .slotConflict (s.setTx
    { s.tx with drive := .conflictSilent, inFlight := none, waiting := none, mismatches := 0 }))

/-- Whether a completed frame is a match: the bytes read back are the bytes driven, and the interval before was clean (R51). -/
def isMatch (f : LaneFrame) (readBack : List Byte) (intervalClean : Bool) : Bool :=
  readBack == laneFrameBytes f && intervalClean

/-- The completion of the own frame in flight (R43, R51, R52). -/
def completeLaneFrame (readBack : List Byte) (intervalClean : Bool) (s : State) : State :=
  match s.tx.inFlight with
  | none => s
  | some f =>
    let count := if isMatch f readBack intervalClean then 0 else s.tx.mismatches + 1
    if 2 ≤ count then declareConflict s
    else s.setTx { s.tx with inFlight := s.tx.waiting, waiting := none, mismatches := count }

/-! ### Frame arrival at a peer queue (R58, R59) -/

/-- A malformed arrival (R58). -/
def Peer.garbled (p : Peer) : Peer := { p with malformed := count16 p.malformed 1 }

/-- A well-formed arrival: late, a jump, or appended (R59). -/
def Peer.arrive (due : Tag) (f : LaneFrame) (p : Peer) : Peer :=
  if tagDiff f.tag due < 0 then { p with stale := count16 p.stale 1 }
  else
    let jumped := match p.queue.getLast? with
      | none => false
      | some newest => decide (tagDiff f.tag newest.tag ≤ 0)
    if jumped then { p with queue := [f], realign := count16 p.realign 1 }
    else if 4 ≤ p.queue.length then { p with queue := p.queue.tail ++ [f], overrun := count16 p.overrun 1 }
    else { p with queue := p.queue ++ [f] }

/-- A frame ends on a lane: the own lane goes to the read-back and is not taken here (R38, R55). -/
def takeLaneFrame (lane : Fin 16) (bytes : List Byte) (s : State) : State :=
  if lane = s.straps.slot then s
  else match readLaneFrame s.rate lane bytes with
    | none => modPeer lane Peer.garbled s
    | some f => modPeer lane (Peer.arrive s.clock.tag f) s

/-! ### Due requests (R60 to R66) -/

/-- Whether a queued frame is older than the tag requested (R60). -/
def olderThan (tag : Tag) (f : LaneFrame) : Bool := decide (tagDiff f.tag tag < 0)

/-- Puts a frame in its place among frames that ascend by their difference from the requested tag (R57). Where one of its tag stands
there, which arrived after it, the frame is discarded: the model's choice (log entry 42). -/
def placeQueued (tag : Tag) (f : LaneFrame) : List LaneFrame → List LaneFrame
  | [] => [f]
  | g :: rest =>
    if tagDiff f.tag tag < tagDiff g.tag tag then f :: g :: rest
    else if f.tag = g.tag then g :: rest
    else g :: placeQueued tag f rest

/-- The queue after every frame older than the requested tag is discarded (R60, R70), oldest at the head (R57). The frames left keep the
order they had, except where a realign let them stand out of tag order; R57 then puts them in it (log entry 42). -/
def Peer.dueQueue (tag : Tag) (p : Peer) : List LaneFrame :=
  (p.queue.filter fun f => !olderThan tag f).foldr (placeQueued tag) []

/-- The frame that answers a due request on time: the head left, where it has the tag (R60). -/
def Peer.onTime (tag : Tag) (p : Peer) : Option LaneFrame :=
  match p.dueQueue tag with
  | [] => none
  | f :: _ => if f.tag = tag then some f else none

/-- The state after an on-time answer that brought the good count to `good` (R63). -/
def PeerState.afterOnTime (good : Nat) : PeerState → PeerState
  | .absent => .acquiring
  | .acquiring => if 16 ≤ good then .live else .acquiring
  | .live => .live
  | .hold => .live
  | .gap => .live

/-- The state after a missed answer that brought the miss count to `miss` (R63). -/
def PeerState.afterMiss (miss : Nat) : PeerState → PeerState
  | .absent => .absent
  | .acquiring => if 8 ≤ miss then .absent else .acquiring
  | .live => .hold
  | .hold => if 3 ≤ miss then .gap else .hold
  | .gap => if 8 ≤ miss then .absent else .gap

/-- A due request answered on time with a frame: counts, state, fade position and last used frame (R60, R62, R63, R65, R66). -/
def Peer.answered (f : LaneFrame) (rest : List LaneFrame) (p : Peer) : Peer :=
  let good := min 16 (p.good + 1)
  let state := p.state.afterOnTime good
  { p with
    state := state
    good := good
    miss := 0
    fade := if p.state = .acquiring ∧ state = .live then 0 else p.fade
    last := some f
    queue := rest
    used := count16 p.used 1 }

/-- A due request missed: counts and state; entering ABSENT sets the fade position to 0 and empties the last used frame (R60, R62,
R63). -/
def Peer.unanswered (rest : List LaneFrame) (p : Peer) : Peer :=
  let miss := min 8 (p.miss + 1)
  let state := p.state.afterMiss miss
  let entered := p.state ≠ .absent ∧ state = .absent
  { p with
    state := state
    good := 0
    miss := miss
    fade := if entered then 0 else p.fade
    last := if entered then none else p.last
    queue := rest
    missed := count16 p.missed 1 }

/-- A due request of a peer queue for a tag (R60, R62, R63); the fade position has not risen yet. -/
def Peer.request (tag : Tag) (p : Peer) : Peer :=
  let queue := p.dueQueue tag
  let q := { p with stale := count16 p.stale (p.queue.length - queue.length) }
  match p.onTime tag with
  | some f => q.answered f queue.tail
  | none => q.unanswered queue

/-- Whether a due request raises PEER CHANGE: a transition into or out of ABSENT, or into LIVE from ACQUIRING (R67). -/
def peerChanged (before after : PeerState) : Bool :=
  (before == .absent) != (after == .absent) || (before == .acquiring && after == .live)

/-- The frame a peer gives the summer after its request, with the fade position in force (R64, R66). -/
def Peer.contribution (p : Peer) : Option (LaneFrame × Nat) :=
  match p.state with
  | .live => p.last.map fun f => (f, p.fade)
  | .hold => p.last.map fun f => (f, p.fade)
  | .absent => none
  | .acquiring => none
  | .gap => none

/-- After the summer has scaled a LIVE or HOLD peer's frame, its fade position rises by 1 up to 256 (R66). -/
def Peer.rise (p : Peer) : Peer :=
  match p.state with
  | .live => { p with fade := min 256 (p.fade + 1) }
  | .hold => { p with fade := min 256 (p.fade + 1) }
  | .absent => p
  | .acquiring => p
  | .gap => p

/-- Changes every peer record, the own slot's place apart (R55). -/
def eachPeer (f : Peer → Peer) (s : State) : State :=
  s.setPeers (mapFin s.peers fun slot p => if slot = s.straps.slot then p else f p)

/-- The due requests of a boundary for the tag it ends (R60). -/
def requestPeers (tag : Tag) (s : State) : State :=
  let after := eachPeer (Peer.request tag) s
  raiseIf ((List.finRange 16).any fun j => peerChanged s.peers[j].state after.peers[j].state) .peerChange after

/-- What each peer gives the summer at a boundary, in ascending slot order: slot, frame and fade position (R64). -/
def State.given (s : State) : List (Fin 16 × LaneFrame × Nat) :=
  (List.finRange 16).filterMap fun j =>
    if j = s.straps.slot then none else s.peers[j].contribution.map fun (f, k) => (j, f, k)

end Sys2Proof.Machine
end

