-- ==== Sys2Proof/Machine/Summer.lean ====
section
/-! DEFINITION. The bus summer (chapter 5): listen windows and the accumulation set, totals, premix masters, suspension, meters,
and its work at a frame boundary. -/

namespace Sys2Proof.Machine

/-! ### The configuration (R73 to R77) -/

/-- Whether an enabled window selects a bus (R73). -/
def Window.selects (w : Window) (bus : Nat) : Bool :=
  w.enabled && (BitVec.ofNat 7 bus ^^^ w.base) &&& ~~~w.mask == 0

/-- The owned channels, then the window-selected buses not already listed, each ascending, before the cut at the capacity (R75). -/
def wantedBuses (owned : List Nat) (windows : Vector Window 4) : List Nat :=
  owned ++ (List.range 128).filter fun b => !owned.contains b && windows.toList.any fun w => w.selects b

/-- Builds a configuration from its owned set and its windows (R75). -/
def buildConfig (rate : Rate) (owned : List Nat) (windows : Vector Window 4) : SumConfig where
  owned := owned
  windows := windows
  buses := (wantedBuses owned windows).take rate.capacity
  oversubscribed := decide (rate.capacity < (wantedBuses owned windows).length)

/-- Marks a premix channel owned or not in a set kept ascending (R74). -/
def markOwned (p : Fin 64) (owned : Bool) (set : List Nat) : List Nat :=
  busesFrom 0 fun b => if b = p.val then owned else set.contains b

/-- The meters under a new accumulation set: a bus that stays keeps its meter, the others stand at 0 and 0 (R77). -/
def keepMeters (before after : List Nat) (meters : Vector Meter 128) : Vector Meter 128 :=
  mapFin meters fun b m => if before.contains b.val && after.contains b.val then m else ⟨0, 0⟩

/-- Step 1 of R79: the pending configuration is put in force if it differs, and WINDOW OVERSUBSCRIBED raised for an oversubscribed
set so put in force (R76). A copy that differs in owned set or windows alone, and builds the same oversubscribed set, is put in force and
raises it too, which is the model's choice (log entry 43). Decisions of channels that left the owned set are discarded (R86). -/
def putInForce (s : State) : State :=
  let m := s.summer
  if m.pending = m.config then s
  else raiseIf m.pending.oversubscribed .windowOversubscribed (s.setSummer { m with
    config := m.pending
    meters := keepMeters m.config.buses m.pending.buses m.meters
    suspended := m.suspended.filter fun p => m.pending.owned.contains p })

/-! ### Totals (R78 to R82) -/

/-- The list held for a sample; empty where none is held (R78). -/
def ownList (held : List (Nat × BusList)) (sample : Nat) : BusList := (held.lookup sample).getD []

/-- A list joins the held lists of its kind: at most two, the older sample discarded (R78). -/
def holdList (sample : Nat) (l : BusList) (held : List (Nat × BusList)) : List (Nat × BusList) :=
  (held ++ [(sample, l)]).drop (held.length - 1)

/-- The total of a bus: the own contribution and the fade-scaled term of each peer's entry, saturated (R79, R17, R6). -/
def busTotal (own : BusList) (peers : List (BusList × Nat)) (bus : Nat) : Int :=
  satWide (own.value bus + (peers.map fun (entries, k) => fadeTerm (entries.value bus) k).sum)

/-- The totals of the buses of the accumulation set that satisfy a test. -/
def totalsOf (buses : List Nat) (p : Nat → Bool) (own : BusList) (peers : List (BusList × Nat)) : BusList :=
  (buses.filter p).map fun b => (b, busTotal own peers b)

/-- The own list that enters the totals: left out while the station is listen-only (R81), and at the first boundary after ENGINE RESTART,
where own contributions are 0 (R91). -/
def State.ownShare (s : State) (l : BusList) : BusList := if s.listenOnly || s.engine.restarted then [] else l

/-! ### Suspension (R85, R86) -/

/-- Whether a lower-slot peer heard as LIVE or HOLD announces a channel (R85). -/
def announcedBelow (slot : Fin 16) (given : List (Fin 16 × LaneFrame × Nat)) (p : Nat) : Bool :=
  given.any fun (j, f, _) => decide (j < slot) && f.owned.contains p

/-- Step 3 of R79: each owned channel is judged; a channel newly found suspended raises PREMIX CONFLICT (R85). -/
def decideSuspensions (given : List (Fin 16 × LaneFrame × Nat)) (s : State) : State :=
  let now := s.summer.config.owned.filter (announcedBelow s.straps.slot given)
  raiseIf (now.any fun p => !s.summer.suspended.contains p) .premixConflict (s.setSummer { s.summer with suspended := now })

/-! ### Premix masters (R84) -/

/-- Step 4 of R79: every premix master's ramps advance (R9, R12, R14). -/
def advancePremix (s : State) : State :=
  s.setSummer { s.summer with premix := mapFin s.summer.premix fun _ m =>
    { m with levelRamp := m.levelRamp.advance, cutRamp := m.cutRamp.advance } }

/-- The master output m of a premix total (R9). -/
def PremixMaster.output (m : PremixMaster) (total : Int) : Int :=
  product (product total m.cutRamp.current) m.levelRamp.current

/-- The term of a premix-to-stem send: aimed at bus 64 + s, none where the target is none (R84). -/
def PremixSend.term (send : PremixSend) (m : Int) : BusList :=
  match send.target with
  | none => []
  | some stem => [(64 + stem.val, product m (coefficient send.code))]

/-- The premix-to-stem terms of a channel, given its total (R84). -/
def PremixMaster.terms (m : PremixMaster) (total : Int) : BusList :=
  m.send0.term (m.output total) ++ m.send1.term (m.output total)

/-- Step 6 of R79: the premix-to-stem terms of every owned channel that is not suspended (R84). -/
def State.premixTerms (s : State) (totals : BusList) : BusList :=
  (List.finRange 64).flatMap fun p =>
    if s.summer.config.owned.contains p.val && !s.summer.suspended.contains p.val then
      s.summer.premix[p].terms (totals.value p.val)
    else []

/-! ### Meters (R87) -/

/-- A total updates its bus's meter (R87). -/
def Meter.update (m : Meter) (total : Int) : Meter :=
  ⟨max m.peak total.natAbs, if 8388607 < total.natAbs then count16 m.overCount 1 else m.overCount⟩

/-- Step 8 of R79: every total updates its meter, and an over count leaving 0 raises OVER (R87). -/
def updateMeters (totals : BusList) (s : State) : State :=
  let after := mapFin s.summer.meters fun b m =>
    match totals.lookup b.val with
    | none => m
    | some total => m.update total
  raiseIf ((List.finRange 128).any fun b => s.summer.meters[b].overCount == 0 && after[b].overCount != 0) .busOver
    (s.setSummer { s.summer with meters := after })

/-! ### The boundary (R79) -/

/-- The held stem-bound sums that the completion at a boundary takes: none at the first boundary after ENGINE RESTART, which completes
premix-to-stem terms alone (R31). -/
def Engine.completing (e : Engine) : BusList := if e.restarted then [] else e.heldStems

/-- The strip engine completes the own stem contributions of a sample and hands them to the lane transmitter and the summer; the held
sums are released (R31). -/
def completeStems (sample : Nat) (premixTerms : BusList) (s : State) : State :=
  let l := completedStems s.engine.completing premixTerms
  let s := handOverB l (s.setEngine { s.engine with heldStems := [], restarted := false })
  s.setSummer { s.summer with ownStem := holdList sample l s.summer.ownStem }

/-- The summer's work at the boundary that ends the frame of a tag and a sample, steps 1 to 8 of R79, and the stem completion it
feeds (R31, R82). -/
def summerBoundary (tag : Tag) (sample : Nat) (s : State) : State :=
  let s := requestPeers tag (putInForce s)
  let given := s.given
  let s := advancePremix (decideSuspensions given (eachPeer Peer.rise s))
  let own := s.ownShare (ownList s.summer.ownPremix sample)
  let premixTotals := totalsOf s.summer.config.buses (fun b => decide (b < 64)) own
    (given.map fun (_, f, k) => (f.a, k))
  let terms := s.premixTerms premixTotals
  let ownStem := s.ownShare (if sample = 0 then [] else ownList s.summer.ownStem (sample - 1))
  let stemTotals := totalsOf s.summer.config.buses (fun b => decide (64 ≤ b)) ownStem
    (given.map fun (_, f, k) => (f.b, k))
  let totals := premixTotals ++ stemTotals
  let s := updateMeters totals s
  completeStems sample terms (s.setPorts { s.ports with totals := totals, totalsHanded := true })

end Sys2Proof.Machine
end

