-- ==== Sys2Proof/Machine/Boundary.lean ====
section
/-! DEFINITION. A frame boundary (R117) and what each block does at it: tag and its realign (R118), strip ramps (R12, R14), input
hand-over (R166), the summer (R79), position and step count (R136), refresh count (R103), silence count (R133) and the merge
(R162). -/

namespace Sys2Proof.Machine

/-- The clock unit at a boundary made at a time; `realign` says that a marked edge made it in LOCKED (R117, R118, R119). -/
def Clock.boundary (time : Nat) (realign : Bool) (c : Clock) : Clock :=
  let next := c.tag + 1
  { c with
    tag := if realign then 0 else next
    serial := c.serial + 1
    realigns := if realign && next != 0 then count16 c.realigns 1 else c.realigns
    frameLength := time - c.latestBoundary
    latestBoundary := time }

/-- Every strip's level ramp and cut ramp advance (R12, R14). -/
def advanceRamps (s : State) : State :=
  s.setStrips (mapFin s.strips fun _ st => { st with levelRamp := st.levelRamp.advance, cutRamp := st.cutRamp.advance })

/-- The sample an input channel gives for the frame begun: that of its place in the port frame held by its port, 0 where the port
holds none or the channel lies on no port (R166, R21). -/
def inputSampleOf (rate : Rate) (inputs : Vector InputPort 8) (c : Fin 64) : Int :=
  if h : c.val / rate.channels < 8 then
    match (inputs[c.val / rate.channels]).held with
    | none => 0
    | some samples => ((samples.toList.getD (c.val % rate.channels) 0)).toInt
  else 0

/-- The audio ports hand the strip engine the input samples of the frame begun; a port that holds none turns SILENT, and INPUT SILENT
is raised if it was RUNNING (R166). The DIRECT values held are those of the frame ended, and are no longer offered (R168). -/
def handInputs (s : State) : State :=
  let before := s.ports.inputs
  let s := s.setEngine { s.engine with handed := some (Vector.ofFn (inputSampleOf s.rate before)) }
  let s := s.setPorts { s.ports with inputs := mapFin before fun _ p => ⟨p.held.isSome, none⟩, direct := none }
  raiseIf ((List.finRange 8).any fun j => before[j].running && before[j].held.isNone) .inputSilent s

/-- The automation engine at a boundary: the position advances while PLAYING, and the step count advances; when it wraps, an
automation step is due (R136). -/
def Playback.boundary (rate : Rate) (p : Playback) : Playback :=
  let wraps := decide (rate.stepFrames ≤ p.stepCount + 1)
  { p with
    position := if p.transport = .playing then (p.position + 1) % 2 ^ 48 else p.position
    stepCount := if wraps then 0 else p.stepCount + 1
    stepDue := p.stepDue || wraps }

/-- The group line controller at a boundary: the refresh count advances, and the refresh of the group whose place it reaches is due
(R103). -/
def GroupLine.boundary (rate : Rate) (g : GroupLine) : GroupLine :=
  let next := (g.refreshCount + 1) % (32 * rate.refreshSpacing)
  { g with
    refreshCount := next
    refreshDue := if next % rate.refreshSpacing = 0 then some (Fin.ofNat 32 (next / rate.refreshSpacing)) else g.refreshDue }

/-- The surface port at a boundary: the silence count rises until its window is reached (R133). -/
def Surface.boundary (rate : Rate) (f : Surface) : Surface := { f with silence := min rate.silenceWindow (f.silence + 1) }

/-- The work of every block at a boundary that ends the frame of a tag and a sample (R117). -/
def boundaryWork (tag : Tag) (sample : Nat) (s : State) : State :=
  let s := summerBoundary tag sample (handInputs (advanceRamps s))
  let s := s.setPlayback (s.playback.boundary s.rate)
  let s := s.setGroup (s.group.boundary s.rate)
  mergeBoundary (s.setSurface (s.surface.boundary s.rate))

/-- A frame boundary made at a time, by a marked edge or not (R117, R118). -/
def frameBoundary (time : Nat) (marked : Bool) (s : State) : State :=
  let realign := marked && s.clock.state == .locked
  boundaryWork s.clock.tag s.clock.serial (s.setClock (s.clock.boundary time realign))

end Sys2Proof.Machine
end

