-- ==== Sys2Proof/Machine/Arrivals.lean ====
section
/-! DEFINITION. Arrivals and line events: lane frames (R59), port frames (R166), position records (R137), the group line (R92, R96,
R98) and the solo line (R105). -/

namespace Sys2Proof.Machine

/-- FRAME ARRIVAL (R55, R58, R59). -/
def execFrameArrival (lane : Fin 16) (bytes : List Byte) (s : State) : Result := onEvent s (takeLaneFrame lane bytes)

/-- PORT FRAME ARRIVAL: the frame becomes the port's held frame, replacing one already held (R166). -/
def execPortFrameArrival (port : Fin 8) (samples : Vector (BitVec 24) 8) (s : State) : Result :=
  onEvent s fun s =>
    s.setPorts { s.ports with
      inputs := s.ports.inputs.set port ⟨(s.ports.inputs[port]).running, some samples⟩ }

/-- A position record: a bad one is counted and discarded, a good one taken (R137). -/
def positionWork (bytes : List Byte) (s : State) : State :=
  match readPositionRecord bytes with
  | none => s.setPlayback { s.playback with positionErrors := count16 s.playback.positionErrors 1 }
  | some (position, transport) => takePosition position transport s

/-- POSITION RECORD ARRIVAL (R137). -/
def execPositionRecordArrival (bytes : List Byte) (s : State) : Result := onEvent s (positionWork bytes)

/-- LINE REST: ten consecutive recessive bit times take SEEKING to IDLE, and a station with an entry starts its message (R92, R95). -/
def execLineRest (s : State) : Result :=
  onEvent s fun s =>
    match s.group.line with
    | .seeking => startIfIdle (s.setGroup { s.group with line := .idle, recessiveRun := 10 })
    | .idle => s
    | .message => s

/-- DOMINANT BIT SEEN: in SEEKING the run of recessive bit times restarts; in IDLE it is a start bit, and a station with an entry joins
the message (R92, R95); in MESSAGE it is a bit of the message. -/
def execDominantBitSeen (s : State) : Result :=
  onEvent s fun s =>
    match s.group.line with
    | .seeking => s.setGroup { s.group with recessiveRun := 0 }
    | .idle => markInFlight (s.setGroup { s.group with line := .message })
    | .message => s

/-- ARBITRATION LOSS (R96); no effect where the station is not sending. -/
def execArbitrationLoss (s : State) : Result :=
  onEvent s fun s => if s.group.sending.isSome then loseArbitration s else s

/-- LINE FAULT (R96); no effect where the station is not sending. -/
def execLineFault (s : State) : Result :=
  onEvent s fun s => if s.group.sending.isSome then meetFault s else s

/-- The 39th bit of a message is read (R97, R98). A sender whose own bits were all read back has completed its message. Where the bits
differ, the first difference is an arbitration loss (drove 1, read 0: the own bits are the greater number) or a line fault (drove 0,
read 1), which R96 takes at that bit (log entry 11). The entry in flight is settled before the
message is handed on, which is the model's choice (log entry 46). -/
def messageEndWork (bits : BitVec 38) (s : State) : State :=
  match s.group.line with
  | .seeking => s
  | .idle => s
  | .message =>
    match s.group.sending with
    | none => judgeMessage bits s
    | some e =>
      let own := messageBits (s.ownMessage e)
      if own = bits then judgeMessage bits (s.setGroup s.group.settle)
      else if bits.toNat < own.toNat then judgeMessage bits (loseArbitration s)
      else meetFault s

/-- GROUP MESSAGE END (R97, R98). -/
def execGroupMessageEnd (bits : BitVec 38) (s : State) : Result := onEvent s (messageEndWork bits)

/-- SOLO LINE CHANGE: the level read is handed to the strip engine, and every AUDIO strip re-evaluates its effective cut (R105, R24,
R23). -/
def execSoloLineChange (active : Bool) (s : State) : Result :=
  onEvent s fun s =>
    if s.group.soloLevel = active then s
    else retuneWhere (fun _ => true) (s.setGroup { s.group with soloLevel := active })

end Sys2Proof.Machine
end

