-- ==== Sys2Proof/Machine/ClockUnit.lean ====
section
/-! DEFINITION. The clock commands (chapter 7): a reference edge, the divider of FREE, the loss window and the holdover spacing. -/

namespace Sys2Proof.Machine

/-- The measured period M (R108). -/
def Clock.measured (c : Clock) : Nat := c.window.sum

/-- Whether an interval is in tolerance (R109). -/
def inTolerance (rate : Rate) (interval : Nat) : Bool := decide (rate.nominal - 1 ≤ interval ∧ interval ≤ rate.nominal + 1)

/-- An interval joins the measurement window and the oldest leaves (R110). -/
def Clock.measure (interval : Nat) (c : Clock) : Clock := { c with window := c.window.tail ++ [interval] }

/-- The judgement of an edge at a time and the state it leads to (R109, R112, R113, R114). -/
def Clock.judge (rate : Rate) (time : Nat) (c : Clock) : Clock :=
  match c.state, c.latestEdge with
  | .free, _ => { c with state := .locking, acquisition := 0 }
  | .holdover, _ => { c with state := .locking, acquisition := 0 }
  | .locking, none => c
  | .locked, none => c
  | .locking, some e =>
    if inTolerance rate (time - e) then
      let n := min 256 (c.acquisition + 1)
      { c.measure (time - e) with acquisition := n, state := if n = 256 then .locked else .locking }
    else { c with acquisition := 0, edgeFaults := count16 c.edgeFaults 1 }
  | .locked, some e =>
    if inTolerance rate (time - e) then c.measure (time - e)
    else { c with state := .locking, acquisition := 0, edgeFaults := count16 c.edgeFaults 1 }

/-- Replaces the clock; CLOCK CHANGE is raised where the clock state changed (R119). -/
def setClockState (c : Clock) (s : State) : State :=
  raiseIf (s.clock.state != c.state) .clockChange (s.setClock c)

/-- Whether the loss window has run out at the time of an edge: the expiry comes with the edge, which is taken first (R115). -/
def Clock.meetsExpiry (rate : Rate) (time : Nat) (c : Clock) : Bool :=
  match c.latestEdge with
  | some e => decide (rate.lossWindow ≤ time - e)
  | none => false

/-- A reference edge: judged, then a frame boundary unless it is early (R109). -/
def referenceEdgeWork (marked : Bool) (time : Nat) (s : State) : State :=
  let early := decide (time - s.clock.latestBoundary < s.rate.half)
  let s := setClockState { s.clock.judge s.rate time with latestEdge := some time, expiryMet := s.clock.meetsExpiry s.rate time } s
  if early then s else frameBoundary time marked s

/-- The length of the next holdover frame is decided at a holdover boundary (R116). -/
def Clock.decideLength (c : Clock) : Clock :=
  let q := c.measured / 256
  let carried := c.remainder + c.measured % 256
  { c with holdoverLength := if 256 ≤ carried then q + 1 else q, remainder := carried % 256 }

/-- REFERENCE EDGE (R109). -/
def execReferenceEdge (marked : Bool) (time : Nat) (s : State) : Result := onEvent s (referenceEdgeWork marked time)

/-- DIVIDER BOUNDARY: in FREE a boundary N periods after the latest one (R111); in any other state the divider has stopped, and it is
not taken as a boundary (R112, R117). -/
def execDividerBoundary (s : State) : Result :=
  onEvent s fun s =>
    if s.clock.state = .free then frameBoundary (s.clock.latestBoundary + s.rate.nominal) false s else s

/-- The loss window runs out one window after an edge: the unit enters HOLDOVER, a boundary is made there, and the first holdover frame is
decided (R115, R116). -/
def loseReference (edge : Nat) (s : State) : State :=
  let s := frameBoundary (edge + s.rate.lossWindow) false (setClockState { s.clock with state := .holdover } s)
  s.setClock (Clock.decideLength { s.clock with latestEdge := none, expiryMet := false, acquisition := 0, remainder := 0 })

/-- Whether an expiry of the loss window is the one that came with the latest edge, which was taken first: the latest edge is marked so,
and the frame it began still waits to be processed (R115, log entry 3). -/
def State.expirySuperseded (s : State) : Bool := s.clock.expiryMet && s.engine.handed.isSome

/-- LOSS WINDOW EXPIRY: taken in LOCKING and LOCKED (R115). An edge that came with it and was taken first has renewed the latest edge, and
the window does not expire (R115, R117). In FREE and HOLDOVER no window runs. -/
def execLossWindowExpiry (s : State) : Result :=
  onEvent s fun s =>
    if s.expirySuperseded then s
    else
      match s.clock.state, s.clock.latestEdge with
      | .free, _ => s
      | .holdover, _ => s
      | _, none => s
      | _, some e => loseReference e s

/-- HOLDOVER BOUNDARY: in HOLDOVER a boundary when the decided length has passed since the latest one, and the next length is decided
(R116); in any other state it is not taken as a boundary (R112, R117). -/
def execHoldoverBoundary (s : State) : Result :=
  onEvent s fun s =>
    if s.clock.state = .holdover then
      let s := frameBoundary (s.clock.latestBoundary + s.clock.holdoverLength) false s
      s.setClock s.clock.decideLength
    else s

end Sys2Proof.Machine
end

