-- ==== Sys2Proof/Machine/Operands.lean ====
section
/-! DEFINITION. The data of each command (R182), read from its bytes: none where the length is not the command's or a coded field holds a
code the table does not list, which is refused with RANGE (R169, R182). -/

namespace Sys2Proof.Machine

/-- A number that names one of n things, if it is below n. -/
def index (n : Nat) (v : Nat) : Option (Fin n) := if h : v < n then some ⟨v, h⟩ else none

/-- A byte that is FFh for none and otherwise names one of 64 things (R182). -/
def optionalPlace (b : Byte) : Option (Option (Fin 64)) :=
  if b = 0xFF#8 then some none else (index 64 b.toNat).map some

/-- The automation mode of a byte (R182). -/
def Mode.ofByte (b : Byte) : Option Mode :=
  match b.toNat with
  | 0 => some .off
  | 1 => some .read
  | 2 => some .touch
  | 3 => some .latch
  | 4 => some .write
  | _ => none

/-- The kind of a byte (R182). -/
def Kind.ofByte (b : Byte) : Option Kind :=
  match b.toNat with
  | 0 => some .level
  | 1 => some .cut
  | _ => none

/-- The role of a byte: bit 7 says GROUP MASTER, bits 6 to 0 the group, ignored for AUDIO (R182). -/
def Role.ofByte (b : Byte) : Option Role :=
  if b.getLsbD 7 then (index 32 (b.extractLsb' 0 7).toNat).map .groupMaster else some .audio

/-- The member groups: the first `count` of four bytes, at most four, each below 32, no group twice (R35, R182). -/
def memberGroups (count : Byte) (bytes : List Byte) : Option (List (Fin 32)) :=
  if count.toNat ≤ 4 then
    match (bytes.take count.toNat).mapM fun b => index 32 b.toNat with
    | some groups => if groups.Nodup then some groups else none
    | none => none
  else none

/-- The data of WRITE STRIP as carried, before the clamps of R35. -/
structure StripData where
  role : Role
  input : Option (Fin 64)
  trim : Nat
  manualCut : Bool
  solo : Bool
  soloSafe : Bool
  groups : List (Fin 32)
  mode : Mode
  glideSteps : Nat
  staticCode : Nat
  deriving DecidableEq, Repr

/-- Reads the data of WRITE STRIP (R35, R182). -/
def readStripData : List Byte → Option StripData
  | [role, input, t1, t0, flags, count, g0, g1, g2, g3, mode, s1, s0, c1, c0] =>
    match Role.ofByte role, optionalPlace input, memberGroups count [g0, g1, g2, g3], Mode.ofByte mode with
    | some role, some input, some groups, some mode =>
      some {
        role := role
        input := input
        trim := ofBytes [t1, t0]
        manualCut := flags.getLsbD 0
        solo := flags.getLsbD 1
        soloSafe := flags.getLsbD 2
        groups := groups
        mode := mode
        glideSteps := ofBytes [s1, s0]
        staticCode := ofBytes [c1, c0] }
    | _, _, _, _ => none
  | _ => none

/-- Reads the data of WRITE SEND: send number and send; a code above 1020 is stored as 1020 (R36, R182). -/
def readSendData : List Byte → Option (Fin 4 × Send)
  | [number, bus, c1, c0, flags] =>
    match index 4 number.toNat, index 128 bus.toNat with
    | some n, some b =>
      some (n, ⟨b, storedCode (ofBytes [c1, c0]), if flags.getLsbD 1 then .pre else .post, flags.getLsbD 0⟩)
    | _, _ => none
  | _ => none

/-- The data of WRITE PREMIX; codes above 1020 are stored as 1020 (R83). -/
structure PremixData where
  owned : Bool
  cut : Bool
  code : Nat
  send0 : PremixSend
  send1 : PremixSend
  deriving DecidableEq, Repr

/-- Reads the data of WRITE PREMIX (R83, R182). -/
def readPremixData : List Byte → Option PremixData
  | [flags, l1, l0, t0, a1, a0, t1, b1, b0] =>
    match optionalPlace t0, optionalPlace t1 with
    | some x, some y =>
      some {
        owned := flags.getLsbD 0
        cut := flags.getLsbD 1
        code := storedCode (ofBytes [l1, l0])
        send0 := ⟨x, storedCode (ofBytes [a1, a0])⟩
        send1 := ⟨y, storedCode (ofBytes [b1, b0])⟩ }
    | _, _ => none
  | _ => none

/-- Reads the data of WRITE WINDOW (R73, R182). -/
def readWindowData : List Byte → Option Window
  | [base, mask, enable] =>
    if base.toNat ≤ 127 ∧ mask.toNat ≤ 127 ∧ enable.toNat ≤ 1 then
      some ⟨base.extractLsb' 0 7, mask.extractLsb' 0 7, enable.getLsbD 0⟩
    else none
  | _ => none

/-- Reads the data of WRITE OUTPUT; whether a strip exists is judged by the port (R167, R182). -/
def readOutputData : List Byte → Option OutputSource
  | [kind, number] =>
    match kind.toNat with
    | 0 => some .silence
    | 1 => (index 128 number.toNat).map .bus
    | 2 => (index 64 number.toNat).map .direct
    | _ => none
  | _ => none

/-- Reads two 16-bit values (R182). -/
def readPair : List Byte → Option (Nat × Nat)
  | [a1, a0, b1, b0] => some (ofBytes [a1, a0], ofBytes [b1, b0])
  | _ => none

/-- Reads the 15 marks of a selection or a mask; bit 15 is ignored (R181). -/
def readCauseMarks : List Byte → Option (BitVec 15)
  | [high, low] => some ((high ++ low).extractLsb' 0 15)
  | _ => none

/-- Reads one count (R182). -/
def readCount : List Byte → Option Nat
  | [n] => some n.toNat
  | _ => none

/-- The fields of INSERT MOVE: kind byte, position, value, glide flag (R182). -/
def readInsertData : List Byte → Option (Byte × Nat × Nat × Bool)
  | [kind, p5, p4, p3, p2, p1, p0, v1, v0, flags] =>
    some (kind, ofBytes [p5, p4, p3, p2, p1, p0], ofBytes [v1, v0], flags.getLsbD 0)
  | _ => none

/-- The fields of DELETE MOVES: kind byte, first and last position (R182). -/
def readDeleteData : List Byte → Option (Byte × Nat × Nat)
  | [kind, a5, a4, a3, a2, a1, a0, b5, b4, b3, b2, b1, b0] =>
    some (kind, ofBytes [a5, a4, a3, a2, a1, a0], ofBytes [b5, b4, b3, b2, b1, b0])
  | _ => none

/-- The fields of READ MOVES: kind byte and starting position (R182). -/
def readMovesData : List Byte → Option (Byte × Nat)
  | [kind, p5, p4, p3, p2, p1, p0] => some (kind, ofBytes [p5, p4, p3, p2, p1, p0])
  | _ => none

end Sys2Proof.Machine
end

