-- ==== Sys2Proof/Machine/Surface.lean ====
section
/-! DEFINITION. The fader surface port (chapter 8): a reading taken by its fader record, presence, code acceptance, touch sensing,
the motor return and the silence of the link. -/

namespace Sys2Proof.Machine

/-! ### Codes (R124, R125) -/

/-- The calibrated code of a raw position (R124). -/
def Fader.codeOf (f : Fader) (raw : Nat) : Nat :=
  clampCode (roundHalfUp (((raw : Int) - f.low) * 1020) ((f.high : Int) - f.low))

/-- Whether a code is accepted (R125). -/
def Fader.accepts (f : Fader) (code : Nat) : Bool :=
  f.acceptNext || decide (2 ≤ ((code : Int) - f.lastCode).natAbs) || code == 0 || code == 1020

/-- The code of a reading is judged, and an accepted code handed to the strip as its live fader code (R125, R26). -/
def takeCode (i : Fin 64) (raw : Nat) (s : State) : State :=
  let f := s.surface.faders[i]
  let code := f.codeOf raw
  if f.accepts code then
    evalStrip i (modStrip i (fun st => { st with liveCode := code })
      (modFader i (fun f => { f with lastCode := code, acceptNext := false }) s))
  else s

/-! ### Touch sensing (R127, R128, R130) -/

/-- What a reading hands to the automation engine. -/
inductive TouchEvent
  | none
  | touch
  | release
  | stuck
  deriving DecidableEq, Repr

/-- The touch state with every count at 0 (R128, R130). -/
def Fader.settle (touched : Bool) (f : Fader) : Fader :=
  { f with touched := touched, debounce := 0, untouchedScans := 0, touchedScans := 0 }

/-- The judgement of a reading by the touch state held, given its delta (R128). -/
def Fader.judge (delta : Nat) (f : Fader) : Fader × TouchEvent :=
  match f.touched with
  | false =>
    if f.onThreshold ≤ delta then
      if 3 ≤ f.debounce + 1 then (f.settle true, .touch) else ({ f with debounce := f.debounce + 1 }, .none)
    else ({ f with debounce := 0 }, .none)
  | true =>
    let g := { f with touchedScans := f.touchedScans + 1 }
    if delta < f.offThreshold then
      if 3 ≤ f.debounce + 1 then (g.settle false, .release) else ({ g with debounce := f.debounce + 1 }, .none)
    else ({ g with debounce := 0 }, .none)

/-- The drift of the baseline after a judgement that left the fader UNTOUCHED: at the 16th untouched scan it moves 1 toward the count
(R127). The baseline is at or above the count here. -/
def Fader.drift (baseline count : Nat) (f : Fader) : Fader :=
  if f.touched then f
  else if 16 ≤ f.untouchedScans + 1 then
    { f with untouchedScans := 0, baseline := some (if count < baseline then baseline - 1 else baseline) }
  else { f with untouchedScans := f.untouchedScans + 1 }

/-- A reading's touch count taken by its fader record, and what it hands on (R127, R128, R130). A reading that sets the baseline is not
judged. -/
def Fader.sense (count : Nat) (f : Fader) : Fader × TouchEvent :=
  match f.baseline with
  | .none => ({ f with baseline := some count, debounce := 0, untouchedScans := 0 }, .none)
  | some held =>
    let baseline := max held count
    let (judged, event) := Fader.judge (baseline - count) { f with baseline := some baseline }
    let g := judged.drift baseline count
    if g.touched && decide (60000 ≤ g.touchedScans) then ({ g.settle false with baseline := some count }, .stuck)
    else (g, event)

/-- A touch event is handed to the automation engine (R129, R130). -/
def handTouch (i : Fin 64) (e : TouchEvent) (s : State) : State :=
  match e with
  | .none => s
  | .touch => touchStrip i s
  | .release => releaseStrip i s
  | .stuck => raise .stuckTouch (releaseStrip i s)

/-- The touch count of a reading is taken (R127 to R130). -/
def takeTouch (i : Fin 64) (count : Nat) (s : State) : State :=
  let r := s.surface.faders[i].sense count
  handTouch i r.2 (modFader i (fun _ => r.1) s)

/-! ### Presence (R123) -/

/-- The present flag of a fader is set or cleared and handed to the strip engine (R123, R25). -/
def setPresence (i : Fin 64) (present : Bool) (s : State) : State :=
  evalStrip i (modStrip i (fun st => { st with present := present })
    (modFader i (fun f => { f with present := present }) s))

/-- A present fader loses presence; a touched one is released (R123, R129). -/
def losePresence (i : Fin 64) (s : State) : State :=
  let wasTouched := s.surface.faders[i].touched
  let s := setPresence i false s
  let s := modFader i (fun f => { f.settle false with acceptNext := true, baseline := none }) s
  if wasTouched then releaseStrip i s else s

/-- A good scan is taken by one existing fader: carried or not (R123). Presence and code come before touch (log entry 18). -/
def takeFader (readings : List Reading) (i : Fin 64) (s : State) : State :=
  match readings.find? fun r => r.fader == i with
  | some r =>
    let s := if s.surface.faders[i].present then s else setPresence i true s
    takeTouch i r.touch (takeCode i r.raw s)
  | none => if s.surface.faders[i].present then losePresence i s else s

/-! ### Motor return (R132) -/

/-- The motor target of a fader for a code (R132). -/
def Fader.target (f : Fader) (code : Nat) : Int := f.low + roundHalfUp ((code : Int) * ((f.high : Int) - f.low)) 1020

/-- The entry of a fader in a motor return (R132). -/
def State.motorEntry (s : State) (i : Fin 64) : MotorEntry where
  fader := i
  drive := s.strips[i].levelSource == .store && !s.surface.faders[i].touched
  target := s.surface.faders[i].target s.strips[i].faderCode

/-- The motor return after a good scan: one entry for each existing fader it carried, ascending (R132). -/
def sendMotorReturn (readings : List Reading) (s : State) : State :=
  let carried := (List.finRange 64).filter fun i => s.hasStrip i && readings.any fun r => r.fader == i
  s.setSurface { s.surface with motorReturn := some (carried.map s.motorEntry) }

/-! ### Scans and silence (R121, R133) -/

/-- A good scan (R121). -/
def takeScan (readings : List Reading) (s : State) : State :=
  sendMotorReturn readings (forStrips (takeFader readings)
    (s.setSurface { s.surface with link := .active, silence := 0 }))

/-- A scan arrival: a bad scan is counted and discarded whole (R121). -/
def scanWork (bytes : List Byte) (s : State) : State :=
  match readScan bytes with
  | none => s.setSurface { s.surface with scanErrors := count16 s.surface.scanErrors 1 }
  | some readings => takeScan readings s

/-- SCAN ARRIVAL (R121). -/
def execScanArrival (bytes : List Byte) (s : State) : Result := onEvent s (scanWork bytes)

/-- The expiry of the silence window: an ACTIVE link becomes SILENT and every present fader loses presence (R133). That the faders are taken
in ascending strip order is the model's choice (log entry 49). -/
def silenceExpiry (s : State) : State :=
  match s.surface.link with
  | .silent => s.setSurface { s.surface with silence := 0 }
  | .active =>
    forStrips (fun i t => if t.surface.faders[i].present then losePresence i t else t)
      (s.setSurface { s.surface with link := .silent, silence := 0 })

end Sys2Proof.Machine
end

