-- ==== Sys2Proof/Machine/Reports.lean ====
section
/-! DEFINITION. Reply data: every value a read reports, in the order its rule lists it and in the size R182 gives it (log entry 23 names
the layouts that follow by inference). -/

namespace Sys2Proof.Machine

/-! ### Values (R182) -/

/-- One byte. -/
def byte (v : Nat) : List Byte := [BitVec.ofNat 8 v]

/-- A mark of on or off, yes or no, set or clear: 01h for the first, 00h for the second (R182). -/
def mark (b : Bool) : List Byte := byte (if b then 1 else 0)

/-- A two-byte value (R182). -/
def two (v : Int) : List Byte := beSigned 2 v

/-- A four-byte value (R182). -/
def four (v : Int) : List Byte := beSigned 4 v

/-- A position (R182). -/
def six (v : Nat) : List Byte := beBytes 6 v

/-- A value that may be none: a mark byte, then the value, sent as 0 when it is none; `zero` has the value's size (R182). -/
def optional {α : Type} (f : α → List Byte) (zero : List Byte) : Option α → List Byte
  | some v => mark true ++ f v
  | none => mark false ++ zero

/-- A list whose length varies: its count, then its elements (R182). -/
def counted {α : Type} (f : α → List Byte) (l : List α) : List Byte := byte l.length ++ l.flatMap f

/-! ### Coded values, by their place in the list of values (R182) -/

/-- The code of a rate, 48 kHz before 96 kHz (R182). -/
def rateCode : Rate → Nat
  | .khz48 => 0
  | .khz96 => 1

/-- The code of an automation mode, as in WRITE STRIP (R182). -/
def Mode.code : Mode → Nat
  | .off => 0
  | .read => 1
  | .touch => 2
  | .latch => 3
  | .write => 4

/-- The code of a level or cut source (2.1, R182). -/
def Source.code : Source → Nat
  | .desk => 0
  | .store => 1

/-- The code of a tap (2.1, R182). -/
def Tap.code : Tap → Nat
  | .pre => 0
  | .post => 1

/-- The code of a cut ramp direction (1.6, R182). -/
def Direction.code : Direction → Nat
  | .cutting => 0
  | .opening => 1

/-- The code of a drive state (R50, R182). -/
def Drive.code : Drive → Nat
  | .driving => 0
  | .strapSilent => 1
  | .conflictSilent => 2

/-- The code of a peer state (R56, R182). -/
def PeerState.code : PeerState → Nat
  | .absent => 0
  | .acquiring => 1
  | .live => 2
  | .hold => 3
  | .gap => 4

/-- The code of a line state (R92, R182). -/
def LineState.code : LineState → Nat
  | .seeking => 0
  | .idle => 1
  | .message => 2

/-- The code of a link state (R122, R182). -/
def Link.code : Link → Nat
  | .silent => 0
  | .active => 1

/-- The code of a pass state (R152, R182). -/
def PassState.code : PassState → Nat
  | .idle => 0
  | .recording => 1
  | .review => 2
  | .merging => 3

/-! ### The reply of a transaction (R169, R181) -/

/-- The status byte (R181). -/
def Status.code : Status → Nat
  | .ok => 0
  | .range => 1
  | .busy => 2
  | .wrongState => 3
  | .storeFull => 4

/-- The bytes of a reply as sent: two turnaround bytes, the status byte and the reply data (R169, R181). -/
def Reply.bytes (r : Reply) : List Byte := [0, 0] ++ byte r.status.code ++ r.data

/-! ### READ STRIP (R37) -/

/-- The role, and the group a GROUP MASTER masters. -/
def Role.report : Role → List Byte
  | .audio => byte 0 ++ optional (fun g : Fin 32 => byte g.val) (byte 0) none
  | .groupMaster g => byte 1 ++ optional (fun g : Fin 32 => byte g.val) (byte 0) (some g)

/-- One send. -/
def Send.report (send : Send) : List Byte := byte send.bus.val ++ two send.code ++ byte send.tap.code ++ mark send.on

/-- Every field of the strip record, in the order of 2.1. -/
def Strip.record (st : Strip) : List Byte :=
  st.role.report ++ optional (fun c : Fin 64 => byte c.val) (byte 0) st.input ++ two st.trim ++ mark st.manualCut ++
    mark st.solo ++ mark st.soloSafe ++ counted (fun g : Fin 32 => byte g.val) st.groups ++ byte st.mode.code ++
    two st.glideSteps ++ two st.staticCode ++ two st.liveCode ++ byte st.levelSource.code ++ two st.storeLevel ++
    byte st.cutSource.code ++ mark st.storeCut ++ st.sends.toList.flatMap Send.report ++
    four st.levelRamp.current ++ four st.levelRamp.target ++ four st.levelRamp.step ++ byte st.levelRamp.count ++
    four st.cutRamp.current ++ byte st.cutRamp.direction.code

/-- The effective level and cut of a strip, or the offset and cut of a group master (R37). -/
def State.effective (s : State) (i : Fin 64) : Int × Bool :=
  match s.strips[i].role with
  | .audio => (s.strips[i].effLevel, s.strips[i].effCut)
  | .groupMaster g =>
    match s.group.master g with
    | some m => (m.offset, m.cut)
    | none => (masterOffset s.strips[i].faderCode, s.strips[i].modeCut)

/-- The reply of READ STRIP (R37). -/
def State.stripReport (s : State) (i : Fin 64) : List Byte :=
  let st := s.strips[i]
  st.record ++ mark st.present ++ two (s.effective i).1 ++ mark (s.effective i).2 ++
    four st.levelRamp.current ++ four st.levelRamp.target ++ byte st.levelRamp.count ++
    four st.cutRamp.current ++ byte st.cutRamp.direction.code ++ mark s.group.soloLevel

/-! ### READ METERS (R88) and READ PEERS (R69) -/

/-- The entry of a bus (R88). -/
def State.meterReport (s : State) (b : Fin 128) : List Byte :=
  if s.summer.config.buses.contains b.val then
    mark true ++ four s.summer.meters[b].peak ++ two s.summer.meters[b].overCount
  else mark false ++ four 0 ++ two 0

/-- The entry of a peer slot (R69). One mark byte covers tag and clock state of the last used frame; the owned set of an empty one is sent
as zeros with no mark of its own, and its two bus lists with count 0 (log entry 23). -/
def Peer.report (p : Peer) : List Byte :=
  byte p.state.code ++ two p.good ++ two p.miss ++ two p.fade ++
    counted (fun f : LaneFrame => [f.tag]) p.queue ++
    optional (fun f : LaneFrame => [f.tag] ++ byte f.clock.code) (byte 0 ++ byte 0) p.last ++
    setBytes 8 ((p.last.map LaneFrame.owned).getD []) ++
    counted (fun e : Nat × Int => byte e.1) ((p.last.map LaneFrame.a).getD []) ++
    counted (fun e : Nat × Int => byte e.1) ((p.last.map LaneFrame.b).getD []) ++
    two p.used ++ two p.missed ++ two p.stale ++ two p.overrun ++ two p.malformed ++ two p.realign

/-- The entry of a slot; the own slot gives the state mark OWN, 05h, and zeros (R69, R182). -/
def State.slotReport (s : State) (slot : Fin 16) : List Byte :=
  if slot = s.straps.slot then byte 5 ++ (Peer.reset.report).tail else s.peers[slot].report

/-! ### READ MOVES (R140) -/

/-- A LEVEL move: position, value, glide mark (R182). -/
def LevelMove.report (m : LevelMove) : List Byte := six m.position ++ two m.code ++ mark m.glide

/-- A CUT move: position, value, glide mark clear (R182). -/
def CutMove.report (m : CutMove) : List Byte := six m.position ++ mark m.on ++ mark false

/-- The reply of READ MOVES: at most 24 moves from a position, the moves in the list, the store count, and whether more follow (R140). -/
def movesReport {α : Type} (position : α → Nat) (report : α → List Byte) (start storeCount : Nat) (moves : List α) : List Byte :=
  let wanted := moves.filter fun m => decide (start ≤ position m)
  counted report (wanted.take 24) ++ two moves.length ++ two storeCount ++ mark (decide (24 < wanted.length))

/-! ### READ STATUS (R173), in block order -/

/-- The straps. -/
def strapsReport (p : Straps) : List Byte := byte p.slot.val ++ byte (rateCode p.rate) ++ mark p.listenOnly

/-- The status of the input ports: RUNNING 00h, SILENT 01h (R166). -/
def Ports.report (p : Ports) : List Byte := p.inputs.toList.flatMap fun i => byte (if i.running then 0 else 1)

/-- The clock unit (R119). -/
def Clock.report (c : Clock) : List Byte :=
  byte c.state.code ++ [c.tag] ++ two c.acquisition ++ four c.measured ++ four c.frameLength ++ two c.realigns ++ two c.edgeFaults

/-- The bus summer (R89). -/
def State.summerReport (s : State) : List Byte :=
  let m := s.summer
  setBytes 8 m.config.owned ++ setBytes 16 m.config.buses ++ setBytes 8 m.suspended ++ mark (m.pending != m.config) ++
    mark s.listenOnly

/-- A group table entry (R104). -/
def TableEntry.report (e : TableEntry) : List Byte :=
  two e.offset ++ mark e.cut ++ optional (fun j : Fin 16 => byte j.val) (byte 0) e.sender ++ mark e.heard

/-- The group line controller (R104). One mark byte covers the kind, the number and the value of the entry in flight, which are none together;
that they have no mark byte each is the model's choice (log entry 23). -/
def State.groupReport (s : State) : List Byte :=
  let g := s.group
  two g.sent ++ two g.taken ++ two g.lineErrors ++ two g.losses ++ two g.drops ++ byte g.line.code ++ two g.queue.length ++
    optional (fun e : QueueEntry => byte e.kind.code ++ byte e.number ++ two e.value) (byte 0 ++ byte 0 ++ two 0) g.sending ++
    setBytes 4 (g.mastered.map fun m => m.group.val) ++ g.table.toList.flatMap TableEntry.report ++
    mark s.soloDrive ++ mark g.soloLevel

/-- A fader (R135). -/
def Fader.report (f : Fader) : List Byte :=
  mark f.present ++ byte (if f.touched then 1 else 0) ++ optional (fun v : Nat => two v) (two 0) f.baseline ++ two f.lastCode ++
    two f.low ++ two f.high ++ two f.onThreshold ++ two f.offThreshold

/-- The surface port (R135). -/
def State.surfaceReport (s : State) : List Byte :=
  byte s.surface.link.code ++ two s.surface.scanErrors ++ counted Fader.report (s.surface.faders.toList.take s.rate.strips)

/-- The automation engine (R151). -/
def State.playbackReport (s : State) : List Byte :=
  six s.playback.position ++ byte s.playback.transport.code ++ two s.storeCount ++ two s.playback.positionErrors ++
    two s.playback.jumps

/-- The number of MOVE records of a journal (R160, R165). -/
def moveRecords (journal : List Record) : Nat :=
  (journal.filter fun | .move _ _ _ => true | .punchIn _ _ _ => false | .punchOut _ _ _ => false).length

/-- The number of PUNCH IN records of a journal (R160, R165). -/
def punchInRecords (journal : List Record) : Nat :=
  (journal.filter fun | .punchIn _ _ _ => true | .move _ _ _ => false | .punchOut _ _ _ => false).length

/-- The pass record (R165). -/
def Pass.report (p : Pass) : List Byte :=
  byte p.state.code ++ optional (fun n : Nat => byte n) (byte 0) p.number ++ two p.journal.length ++ two (moveRecords p.journal) ++
    two (punchInRecords p.journal) ++ two p.openPunches ++ two p.free ++ mark p.incomplete ++
    optional (fun n : Nat => byte n) (byte 0) p.missed ++ two p.mergeList.length ++ two p.stripsDone

/-- The reply of READ STATUS: the blocks in the order of R173. -/
def State.statusReport (s : State) : List Byte :=
  strapsReport s.straps ++ s.ports.report ++ s.clock.report ++ byte s.tx.drive.code ++ s.summerReport ++ s.groupReport ++
    s.surfaceReport ++ s.playbackReport ++ s.pass.report

/-- The counters READ STATUS clears as it reports them (R119, R104, R135, R151). -/
def clearStatusCounters (s : State) : State :=
  let s := s.setClock { s.clock with realigns := 0, edgeFaults := 0 }
  let s := s.setGroup { s.group with sent := 0, taken := 0, lineErrors := 0, losses := 0, drops := 0 }
  let s := s.setSurface { s.surface with scanErrors := 0 }
  s.setPlayback { s.playback with positionErrors := 0, jumps := 0 }

/-- A peer record with its six counters cleared (R68, R69). -/
def Peer.cleared (p : Peer) : Peer :=
  { p with used := 0, missed := 0, stale := 0, overrun := 0, malformed := 0, realign := 0 }

end Sys2Proof.Machine
end

