-- ==== Sys2Proof/Machine/Control.lean ====
section
/-! DEFINITION. The commands of the control port (R169 to R173 and the rule R170 names for each), ENGINE RESTART apart. -/

namespace Sys2Proof.Machine

/-! ### What the port sends (R169, R181) -/

/-- The bytes the port sends in a transaction, one for each byte received from chip select going active to inactive, given the state after
the command: 00h during the request, then the turnaround bytes, the status byte and the reply data, as far as the clock runs, and 00h past
the end of the reply. With no reply, an incomplete request or a part held in RESET, every byte is 00h (R169, R181). -/
def State.sentBytes (received : List Byte) (s : State) : List Byte :=
  let sent := match (decodeRequest received).request, s.control.reply with
    | some (_, _, data), some r => List.replicate (4 + data.length) 0 ++ r.bytes
    | none, _ => []
    | some _, none => []
  (sent ++ List.replicate received.length 0).take received.length

/-! ### Requests that carry no command (R169) -/

/-- CONTROL REQUEST ABANDONED: the request is discarded with no effect (R169). -/
def execControlRequestAbandoned (s : State) : Result := .next s

/-- COMMAND BYTE NAMES NO COMMAND: no command is taken, and the status is RANGE with no reply data (R169). -/
def execCommandByteNamesNoCommand (_command : Byte) (_address : BitVec 16) (_data : List Byte) (s : State) : Result :=
  onCommand s (refuse .range)

/-! ### Status and causes -/

/-- READ STATUS (R173). -/
def execReadStatus (address : BitVec 16) (data : List Byte) (s : State) : Result :=
  onBare address data s fun s => respond .ok s.statusReport (clearStatusCounters s)

/-- READ CAUSES: the cause set in 16 bits (R171, R181). -/
def execReadCauses (address : BitVec 16) (data : List Byte) (s : State) : Result :=
  onBare address data s fun s => respond .ok (beBytes 2 s.control.causes.toNat) s

/-- A command whose object address must be 0 and whose data is read by a reader; RANGE where it is not (R170, R182). -/
def onGlobal {α : Type} (address : BitVec 16) (d : Option α) (s : State) (f : α → State → State) : Result :=
  onCommand s fun s =>
    match d with
    | some v => if address = 0 then f v s else refuse .range s
    | none => refuse .range s

/-- CLEAR CAUSES (R171). -/
def execClearCauses (address : BitVec 16) (data : List Byte) (s : State) : Result :=
  onGlobal address (readCauseMarks data) s fun selection s => ok (clearSelected selection s)

/-- WRITE ATTENTION MASK (R172). -/
def execWriteAttentionMask (address : BitVec 16) (data : List Byte) (s : State) : Result :=
  onGlobal address (readCauseMarks data) s fun mask s => ok (s.setControl { s.control with mask := mask })

/-! ### Strips -/

/-- A command that names an existing strip (or its fader) and carries data a reader reads; RANGE where either fails (R19, R170). -/
def onStrip {α : Type} (address : BitVec 16) (d : Option α) (s : State) (f : Fin 64 → α → State → State) : Result :=
  onCommand s fun s =>
    match existing s address.toNat, d with
    | some i, some v => f i v s
    | _, _ => refuse .range s

/-- The data of a command that carries none (R182). -/
def readNone (data : List Byte) : Option Unit := if data = [] then some () else none

/-- READ STRIP (R37). -/
def execReadStrip (address : BitVec 16) (data : List Byte) (s : State) : Result :=
  onStrip address (readNone data) s fun i _ s => respond .ok (s.stripReport i) s

/-- The fields of a WRITE STRIP as stored, with the clamps of R35. -/
def Strip.store (d : StripData) (st : Strip) : Strip :=
  { st with
    role := d.role
    input := d.input
    trim := storedTrim d.trim
    manualCut := d.manualCut
    solo := d.solo
    soloSafe := d.soloSafe
    groups := d.groups
    mode := d.mode
    glideSteps := min 3000 d.glideSteps
    staticCode := storedCode d.staticCode }

/-- Whether a role would make a second master of one group on the station (R34, R35). -/
def State.secondMaster (s : State) (i : Fin 64) : Role → Bool
  | .audio => false
  | .groupMaster g => (List.finRange 64).any fun j => j != i && s.hasStrip j && s.strips[j].role == .groupMaster g

/-- Whether two records differ in solo, solo safe, member groups or static fader code, the written inputs of the effective cut and level
(R23, R26). -/
def Strip.inputsDiffer (before after : Strip) : Bool :=
  before.solo != after.solo || before.soloSafe != after.soloSafe || before.groups != after.groups ||
    before.staticCode != after.staticCode

/-- A taken WRITE STRIP: every field is stored, and then each field whose stored value changed is handed on in the order R35 lists: role,
manual cut, the inputs of the effective cut and level, and mode (log entry 14). -/
def writeStripWork (i : Fin 64) (d : StripData) (s : State) : State :=
  let before := s.strips[i]
  let s := modStrip i (Strip.store d) s
  let after := s.strips[i]
  let s := if before.role = after.role then s else changeRole i before.role s
  let s := if before.manualCut = after.manualCut then s else changeCut i s
  let s := if before.inputsDiffer after then evalStrip i s else s
  if before.mode = after.mode then s else changeMode i s

/-- WRITE STRIP (R35). -/
def execWriteStrip (address : BitVec 16) (data : List Byte) (s : State) : Result :=
  onStrip address (readStripData data) s fun i d s =>
    if s.secondMaster i d.role then refuse .range s else ok (writeStripWork i d s)

/-- WRITE SEND (R36). -/
def execWriteSend (address : BitVec 16) (data : List Byte) (s : State) : Result :=
  onStrip address (readSendData data) s fun i d s =>
    ok (modStrip i (fun st => { st with sends := st.sends.set d.1 d.2 }) s)

/-! ### Premixes, windows and meters -/

/-- Puts a new owned set and windows into the pending copy, and rebuilds its accumulation set (R75). -/
def setPendingConfig (owned : List Nat) (windows : Vector Window 4) (s : State) : State :=
  s.setSummer { s.summer with pending := buildConfig s.rate owned windows }

/-- Whether a write would break the ownership limit: the channel is not yet owned and the pending owned set is full (R74). -/
def State.ownershipFull (s : State) (p : Fin 64) : Bool :=
  !s.summer.pending.owned.contains p.val && decide (s.rate.capacity ≤ s.summer.pending.owned.length)

/-- The fields of a WRITE PREMIX in the master record: a changed level code gives the level ramp a target, a changed cut sets the cut
ramp's direction (R83, R11, R14). -/
def PremixMaster.store (d : PremixData) (m : PremixMaster) : PremixMaster where
  code := d.code
  cut := d.cut
  levelRamp := if d.code = m.code then m.levelRamp else m.levelRamp.take (coefficient d.code)
  cutRamp := if d.cut = m.cut then m.cutRamp else m.cutRamp.take d.cut
  send0 := d.send0
  send1 := d.send1

/-- WRITE PREMIX (R83, R74, R75). -/
def execWritePremix (address : BitVec 16) (data : List Byte) (s : State) : Result :=
  onCommand s fun s =>
    match index 64 address.toNat, readPremixData data with
    | some p, some d =>
      if d.owned && s.ownershipFull p then refuse .range s
      else ok (setPendingConfig (markOwned p d.owned s.summer.pending.owned) s.summer.pending.windows
        (modPremix p (PremixMaster.store d) s))
    | _, _ => refuse .range s

/-- WRITE WINDOW (R73, R75). -/
def execWriteWindow (address : BitVec 16) (data : List Byte) (s : State) : Result :=
  onCommand s fun s =>
    match index 4 address.toNat, readWindowData data with
    | some n, some w => ok (setPendingConfig s.summer.pending.owned (s.summer.pending.windows.set n w) s)
    | _, _ => refuse .range s

/-- The bus at a place from a first bus. -/
def busAt (n : Nat) : Fin 128 := Fin.ofNat 128 n

/-- READ METERS (R88): the meters read are set to 0 as they are read; a bus outside the set has a meter of 0 and 0. The run of entries is
preceded by its count (log entry 23). -/
def execReadMeters (address : BitVec 16) (data : List Byte) (s : State) : Result :=
  onCommand s fun s =>
    match readCount data with
    | some n =>
      let first := address.toNat
      if n = 0 ∨ 128 < first + n then refuse .range s
      else respond .ok (counted (fun j => s.meterReport (busAt (first + j))) (List.range n))
        (s.setSummer { s.summer with meters := mapFin s.summer.meters fun b m =>
          if first ≤ b.val ∧ b.val < first + n then ⟨0, 0⟩ else m })
    | none => refuse .range s

/-- READ PEERS (R69): the counters of each peer slot read are cleared. The run of entries is preceded by its count (log entry 23). -/
def execReadPeers (address : BitVec 16) (data : List Byte) (s : State) : Result :=
  onCommand s fun s =>
    match readCount data with
    | some n =>
      let first := address.toNat
      if n = 0 ∨ 16 < first + n then refuse .range s
      else respond .ok (counted (fun j => s.slotReport (Fin.ofNat 16 (first + j))) (List.range n))
        (s.setPeers (mapFin s.peers fun slot p =>
          if slot ≠ s.straps.slot ∧ first ≤ slot.val ∧ slot.val < first + n then p.cleared else p))
    | none => refuse .range s

/-! ### Outputs and faders -/

/-- Whether a source names a strip that does not exist (R167). -/
def State.sourceMissing (s : State) : OutputSource → Bool
  | .bus _ => false
  | .direct i => !s.hasStrip i
  | .silence => false

/-- WRITE OUTPUT (R167); the entries that exist are as many as the strips. -/
def execWriteOutput (address : BitVec 16) (data : List Byte) (s : State) : Result :=
  onStrip address (readOutputData data) s fun c source s =>
    if s.sourceMissing source then refuse .range s
    else ok (s.setPorts { s.ports with map := s.ports.map.set c source })

/-- WRITE CALIBRATION (R126). -/
def execWriteCalibration (address : BitVec 16) (data : List Byte) (s : State) : Result :=
  onStrip address (readPair data) s fun i d s =>
    if d.1 ≤ 4095 ∧ d.2 ≤ 4095 ∧ d.1 + 512 ≤ d.2 then
      ok (modFader i (fun f => { f with low := d.1, high := d.2, acceptNext := true }) s)
    else refuse .range s

/-- WRITE TOUCH (R131). -/
def execWriteTouch (address : BitVec 16) (data : List Byte) (s : State) : Result :=
  onStrip address (readPair data) s fun i d s =>
    if 1 ≤ d.1 ∧ 1 ≤ d.2 ∧ d.2 ≤ d.1 then
      ok (modFader i (fun f => { f with onThreshold := d.1, offThreshold := d.2, debounce := 0 }) s)
    else refuse .range s

/-! ### The automation store (R138 to R140) -/

/-- A store edit: refused with BUSY while MERGING, once its data has the command's length; then with RANGE where the strip or kind is
none (R138, R169; log entry 15). -/
def onEdit {α : Type} (address : BitVec 16) (d : Option α) (s : State) (f : Fin 64 → α → State → State) : Result :=
  onCommand s fun s =>
    match d with
    | none => refuse .range s
    | some v =>
      if s.pass.state = .merging then refuse .busy s
      else match existing s address.toNat with
        | some i => f i v s
        | none => refuse .range s

/-- Puts a LEVEL move into a strip's list, or a CUT move (R139). -/
def AutoStrip.insert (kind : Kind) (position value : Nat) (glide : Bool) (a : AutoStrip) : AutoStrip :=
  match kind with
  | .level => { a with levelMoves := insertLevel ⟨position, storedCode value, glide⟩ a.levelMoves }
  | .cut => { a with cutMoves := insertCut ⟨position, value != 0⟩ a.cutMoves }

/-- Whether a list of a strip holds a move at a position (R139). -/
def AutoStrip.hasMove (kind : Kind) (position : Nat) (a : AutoStrip) : Bool :=
  match kind with
  | .level => a.levelMoves.any fun m => m.position == position
  | .cut => a.cutMoves.any fun m => m.position == position

/-- Removes the moves of a kind from a first to a last position (R140). -/
def AutoStrip.delete (kind : Kind) (first last : Nat) (a : AutoStrip) : AutoStrip :=
  match kind with
  | .level => { a with levelMoves := a.levelMoves.filter fun m => decide (m.position < first ∨ last < m.position) }
  | .cut => { a with cutMoves := a.cutMoves.filter fun m => decide (m.position < first ∨ last < m.position) }

/-- Empties both lists of a strip (R140). -/
def AutoStrip.clear (a : AutoStrip) : AutoStrip := { a with levelMoves := [], cutMoves := [] }

/-- INSERT MOVE (R139). -/
def execInsertMove (address : BitVec 16) (data : List Byte) (s : State) : Result :=
  onEdit address (readInsertData data) s fun i d s =>
    match Kind.ofByte d.1 with
    | none => refuse .range s
    | some kind =>
      if !s.playback.strips[i].hasMove kind d.2.1 && decide (8192 ≤ s.storeCount) then refuse .storeFull s
      else ok (modAuto i (AutoStrip.insert kind d.2.1 d.2.2.1 d.2.2.2) s)

/-- DELETE MOVES (R140). -/
def execDeleteMoves (address : BitVec 16) (data : List Byte) (s : State) : Result :=
  onEdit address (readDeleteData data) s fun i d s =>
    match Kind.ofByte d.1 with
    | none => refuse .range s
    | some kind => if d.2.2 < d.2.1 then refuse .range s else ok (modAuto i (AutoStrip.delete kind d.2.1 d.2.2) s)

/-- CLEAR STRIP (R140). -/
def execClearStrip (address : BitVec 16) (data : List Byte) (s : State) : Result :=
  onEdit address (readNone data) s fun i _ s => ok (modAuto i AutoStrip.clear s)

/-- CLEAR STORE (R140). -/
def execClearStore (address : BitVec 16) (data : List Byte) (s : State) : Result :=
  onBare address data s fun s =>
    if s.pass.state = .merging then refuse .busy s
    else ok (s.setPlayback { s.playback with strips := mapFin s.playback.strips fun _ a => a.clear })

/-- READ MOVES (R140). -/
def execReadMoves (address : BitVec 16) (data : List Byte) (s : State) : Result :=
  onStrip address (readMovesData data) s fun i d s =>
    let a := s.playback.strips[i]
    match Kind.ofByte d.1 with
    | none => refuse .range s
    | some .level => respond .ok (movesReport LevelMove.position LevelMove.report d.2 s.storeCount a.levelMoves) s
    | some .cut => respond .ok (movesReport CutMove.position CutMove.report d.2 s.storeCount a.cutMoves) s

/-! ### Passes (chapter 10) -/

/-- A pass command sends its message: on a listen-only station it is taken at once, otherwise it is enqueued, and a queue with no room
answers BUSY with the drop counted (R153, R155, R101, R106). -/
def sendPass (kind : MsgKind) (n : Nat) (atOnce : State → State) (s : State) : State :=
  if s.listenOnly then ok (atOnce s)
  else
    let asked := s.setGroup (s.group.enqueue kind n 0)
    if s.group.noRoom kind n then refuse .busy asked else ok (startIfIdle asked)

/-- PASS OPEN (R153). -/
def execPassOpen (address : BitVec 16) (data : List Byte) (s : State) : Result :=
  onCommand s fun s =>
    if data ≠ [] ∨ 255 < address.toNat then refuse .range s
    else match s.pass.state with
      | .idle => sendPass .passOpen address.toNat (takePassOpen address.toNat) s
      | .recording => refuse .wrongState s
      | .review => refuse .wrongState s
      | .merging => refuse .busy s

/-- PASS CLOSE (R155). -/
def execPassClose (address : BitVec 16) (data : List Byte) (s : State) : Result :=
  onCommand s fun s =>
    if data ≠ [] ∨ 255 < address.toNat then refuse .range s
    else match s.pass.state with
      | .recording =>
        if s.pass.number = some address.toNat then
          sendPass .passClose address.toNat (takePassClose address.toNat) s
        else refuse .wrongState s
      | .idle => refuse .wrongState s
      | .review => refuse .wrongState s
      | .merging => refuse .busy s

/-- Whether a journal holds a PUNCH IN of a strip (R160). -/
def punchedIn (journal : List Record) (i : Fin 64) : Bool :=
  journal.any fun
    | .punchIn j _ _ => j == i
    | .move _ _ _ => false
    | .punchOut _ _ _ => false

/-- A taken PASS KEEP: the merge list is formed; with nothing to merge the pass ends at once (R160). -/
def keepWork (s : State) : State :=
  let list := (List.finRange 64).filter (punchedIn s.pass.journal)
  let s := s.setPass { s.pass with mergeList := list, stripsDone := 0 }
  if list = [] then raise .mergeDone (endPass s) else s.setPass { s.pass with state := .merging }

/-- PASS KEEP (R160). -/
def execPassKeep (address : BitVec 16) (data : List Byte) (s : State) : Result :=
  onBare address data s fun s =>
    match s.pass.state with
    | .review =>
      if 8192 < s.storeCount + moveRecords s.pass.journal + punchInRecords s.pass.journal then refuse .storeFull s
      else ok (keepWork s)
    | .idle => refuse .wrongState s
    | .recording => refuse .wrongState s
    | .merging => refuse .busy s

/-- PASS DROP (R163). -/
def execPassDrop (address : BitVec 16) (data : List Byte) (s : State) : Result :=
  onBare address data s fun s =>
    match s.pass.state with
    | .review => ok (endPass s)
    | .idle => refuse .wrongState s
    | .recording => refuse .wrongState s
    | .merging => refuse .busy s

end Sys2Proof.Machine
end

