-- ==== Sys2Proof/Machine/Resets.lean ====
section
/-! DEFINITION. Power-on reset, the RESET pin (R173) and ENGINE RESTART (R174), block by block. -/

namespace Sys2Proof.Machine

/-- The part in its reset values with the straps read; the queue of commands is not the part's. -/
def resetTo (straps : Straps) (s : State) : State := (State.resetWith straps).setPending s.pending

/-- POWER ON RESET (R173). -/
def execPowerOnReset (straps : Straps) (s : State) : Result := .next (resetTo straps s)

/-- RESET PIN RELEASE (R173). -/
def execResetPinRelease (straps : Straps) (s : State) : Result := .next (resetTo straps s)

/-- RESET PIN ASSERT: a frame or message in flight is cut short, every drive stops, and from here the part takes no arrival and no
transaction (R173, R54, R169). -/
def execResetPinAssert (s : State) : Result :=
  let s := s.setTx { s.tx with inFlight := none, waiting := none }
  let s := s.setGroup { s.group with queue := s.group.queue.map fun e => { e with inFlight := none } }
  let s := s.setControl { s.control with reply := none }
  .next (s.setResetPin true)

/-! ### ENGINE RESTART, each block under its own rule (R174) -/

/-- Strip engine and ramps: every ramp snaps to its end, and the held stem-bound sums are discarded, with those of a frame whose
samples are handed and not yet processed (R16, R20, R31; that this frame is still processed is log entry 27). -/
def restartStrips (s : State) : State :=
  let s := s.setStrips (mapFin s.strips fun _ st => { st with levelRamp := st.levelRamp.snap, cutRamp := st.cutRamp.snap })
  s.setEngine { s.engine with heldStems := [], restarted := true }

/-- Lane transmitter: in flight and waiting frames are cut short or discarded, and a slot conflict is lifted (R53, R54). -/
def restartTx (s : State) : State :=
  s.setTx {
    drive := if s.tx.drive = .strapSilent then .strapSilent else .driving
    inFlight := none
    waiting := none
    pendingB := []
    mismatches := 0 }

/-- Lane receiver: every record and queue takes its reset values; PEER CHANGE is raised if any peer was not ABSENT (R71). -/
def restartPeers (s : State) : State :=
  raiseIf ((List.finRange 16).any fun j => j != s.straps.slot && s.peers[j].state != .absent) .peerChange
    (eachPeer (fun _ => Peer.reset) s)

/-- Bus summer: master ramps snap, decisions and held own lists are discarded, meters of the set start at 0 (R91, R16). -/
def restartSummer (s : State) : State :=
  s.setSummer { s.summer with
    premix := mapFin s.summer.premix fun _ m => { m with levelRamp := m.levelRamp.snap, cutRamp := m.cutRamp.snap }
    suspended := []
    meters := Vector.replicate 128 ⟨0, 0⟩
    ownPremix := []
    ownStem := [] }

/-- Group line controller: message cut short, queue emptied, table cleared and handed to the strips as a change, refresh count 0, and
every mastered group refreshed in ascending order (R107, R20). -/
def restartGroup (s : State) : State :=
  let s := seek (s.setGroup { s.group with
    queue := []
    table := Vector.replicate 32 TableEntry.reset
    refreshCount := 0
    refreshDue := none })
  let s := retuneWhere (fun _ => true) s
  s.group.mastered.foldl (fun t m => refreshGroup m.group t) s

/-- Surface port: touch states, baselines and touch counts (R134). -/
def restartSurface (s : State) : State :=
  s.setSurface { s.surface with faders := mapFin s.surface.faders fun _ f => { f.settle false with baseline := none } }

/-- One strip at the automation engine: touched no, FOLLOW, cut live no, read at the position held in READ, TOUCH and LATCH, and handed
its values (R150). -/
def restartAutoStrip (i : Fin 64) (s : State) : State :=
  let s := modAuto i (fun a => { a with touched := false, phase := .follow, cutLive := false }) s
  handValues i (if s.strips[i].mode.reads then readStrip i s else s)

/-- Pass record: punches and journal discarded, a merge stopped with MERGE ABORTED (R164). -/
def restartPass (s : State) : State :=
  let ended := endPass (s.setPass { s.pass with punches := Vector.replicate 64 ⟨none, none⟩, mergeList := [] })
  match s.pass.state with
  | .idle => s
  | .recording => ended
  | .review => ended
  | .merging => raise .mergeAborted ended

/-- Audio ports: status, held frames and map are kept; a bus has no total until the summer forms one (R166, R167, R168). -/
def restartPorts (s : State) : State := s.setPorts { s.ports with totals := [] }

/-- Every block takes the restart, in the order of R174 (log entry 22); clock unit and control port are kept (R120, R171, R172). -/
def restartWork (s : State) : State :=
  let s := restartSummer (restartPeers (restartTx (restartStrips s)))
  let s := forStrips restartAutoStrip (restartSurface (restartGroup s))
  restartPorts (restartPass s)

/-- ENGINE RESTART (R174, R170). -/
def execEngineRestart (address : BitVec 16) (data : List Byte) (s : State) : Result :=
  onBare address data s fun s => ok (restartWork s)

end Sys2Proof.Machine
end

