-- ==== Sys2Proof/Machine/Timers.lean ====
section
/-! DEFINITION. The part's own steps between boundaries: automation step (R136), group refresh (R103), silence window expiry (R133),
strip frame process (R21), lane frame completion (R51) and output port frame start (R168). Each acts when it is due, and when it is
not due it has not come about (log entry 4). -/

namespace Sys2Proof.Machine

/-- AUTOMATION STEP (R136, R142, R145, R158, R102). -/
def execAutomationStep (s : State) : Result :=
  onEvent s fun s =>
    if s.playback.stepDue then automationStepWork (s.setPlayback { s.playback with stepDue := false }) else s

/-- GROUP REFRESH (R103). -/
def execGroupRefresh (s : State) : Result :=
  onEvent s fun s =>
    match s.group.refreshDue with
    | none => s
    | some g => refreshGroup g (s.setGroup { s.group with refreshDue := none })

/-- SILENCE WINDOW EXPIRY (R133). -/
def execSilenceWindowExpiry (s : State) : Result :=
  onEvent s fun s => if s.rate.silenceWindow ≤ s.surface.silence then silenceExpiry s else s

/-- The strip engine processes the frame whose samples are handed (R21, R28 to R32). -/
def processFrame (samples : Vector Int 64) (s : State) : State :=
  let terms := s.sendTerms samples
  let own := premixContributions terms
  let s := s.setPorts { s.ports with direct := some (s.directValues samples) }
  let s := s.setEngine { s.engine with handed := none, heldStems := stemSums terms }
  handOverA own (s.setSummer { s.summer with ownPremix := holdList s.clock.serial own s.summer.ownPremix })

/-- STRIP FRAME PROCESS (R21). -/
def execStripFrameProcess (s : State) : Result :=
  onEvent s fun s =>
    match s.engine.handed with
    | none => s
    | some samples => processFrame samples s

/-- LANE FRAME COMPLETION (R51, R52, R43). -/
def execLaneFrameCompletion (readBack : List Byte) (intervalClean : Bool) (s : State) : Result :=
  onEvent s (completeLaneFrame readBack intervalClean)

/-- The value an output map entry names, before the clamp (R168). -/
def Ports.value (p : Ports) (direct : Vector Int 64) : OutputSource → Int
  | .bus b => p.totals.value b.val
  | .direct i => direct[i]
  | .silence => 0

/-- The samples of the port frame an output port starts, in place order (R167, R168, R7). -/
def Ports.frameOf (rate : Rate) (p : Ports) (direct : Vector Int 64) (port : Fin 8) : List Int :=
  (List.range rate.channels).map fun place =>
    clampPort (p.value direct (p.map.toList.getD (port.val * rate.channels + place) .silence))

/-- OUTPUT PORT FRAME START: once the totals of the boundary and the DIRECT values of the frame have both been handed (R168). -/
def execOutputPortFrameStart (s : State) : Result :=
  onEvent s fun s =>
    match s.ports.totalsHanded, s.ports.direct with
    | true, some direct =>
      s.setPorts { s.ports with
        emitted := Vector.ofFn (s.ports.frameOf s.rate direct)
        totalsHanded := false }
    | _, _ => s

end Sys2Proof.Machine
end

