-- ==== Sys2Proof/Machine/Dispatch.lean ====
section
/-! DEFINITION. The meaning of every command: one arm for each constructor of Instr. -/

namespace Sys2Proof.Machine

def exec (i : Instr) (s : State) : Host.Outcome State Fault Refusal :=
  match i with
  | .powerOnReset straps => Sys2Proof.Machine.execPowerOnReset straps s
  | .resetPinAssert => Sys2Proof.Machine.execResetPinAssert s
  | .resetPinRelease straps => Sys2Proof.Machine.execResetPinRelease straps s
  | .referenceEdge marked time => Sys2Proof.Machine.execReferenceEdge marked time s
  | .dividerBoundary => Sys2Proof.Machine.execDividerBoundary s
  | .lossWindowExpiry => Sys2Proof.Machine.execLossWindowExpiry s
  | .holdoverBoundary => Sys2Proof.Machine.execHoldoverBoundary s
  | .automationStep => Sys2Proof.Machine.execAutomationStep s
  | .groupRefresh => Sys2Proof.Machine.execGroupRefresh s
  | .silenceWindowExpiry => Sys2Proof.Machine.execSilenceWindowExpiry s
  | .stripFrameProcess => Sys2Proof.Machine.execStripFrameProcess s
  | .laneFrameCompletion readBack intervalClean => Sys2Proof.Machine.execLaneFrameCompletion readBack intervalClean s
  | .outputPortFrameStart => Sys2Proof.Machine.execOutputPortFrameStart s
  | .frameArrival lane bytes => Sys2Proof.Machine.execFrameArrival lane bytes s
  | .portFrameArrival port samples => Sys2Proof.Machine.execPortFrameArrival port samples s
  | .scanArrival bytes => Sys2Proof.Machine.execScanArrival bytes s
  | .positionRecordArrival bytes => Sys2Proof.Machine.execPositionRecordArrival bytes s
  | .lineRest => Sys2Proof.Machine.execLineRest s
  | .arbitrationLoss => Sys2Proof.Machine.execArbitrationLoss s
  | .lineFault => Sys2Proof.Machine.execLineFault s
  | .groupMessageEnd bits => Sys2Proof.Machine.execGroupMessageEnd bits s
  | .soloLineChange active => Sys2Proof.Machine.execSoloLineChange active s
  | .controlRequestAbandoned => Sys2Proof.Machine.execControlRequestAbandoned s
  | .readStatus address data => Sys2Proof.Machine.execReadStatus address data s
  | .readCauses address data => Sys2Proof.Machine.execReadCauses address data s
  | .clearCauses address data => Sys2Proof.Machine.execClearCauses address data s
  | .writeAttentionMask address data => Sys2Proof.Machine.execWriteAttentionMask address data s
  | .readStrip address data => Sys2Proof.Machine.execReadStrip address data s
  | .writeStrip address data => Sys2Proof.Machine.execWriteStrip address data s
  | .writeSend address data => Sys2Proof.Machine.execWriteSend address data s
  | .writePremix address data => Sys2Proof.Machine.execWritePremix address data s
  | .writeWindow address data => Sys2Proof.Machine.execWriteWindow address data s
  | .writeOutput address data => Sys2Proof.Machine.execWriteOutput address data s
  | .writeCalibration address data => Sys2Proof.Machine.execWriteCalibration address data s
  | .writeTouch address data => Sys2Proof.Machine.execWriteTouch address data s
  | .readMeters address data => Sys2Proof.Machine.execReadMeters address data s
  | .readPeers address data => Sys2Proof.Machine.execReadPeers address data s
  | .insertMove address data => Sys2Proof.Machine.execInsertMove address data s
  | .deleteMoves address data => Sys2Proof.Machine.execDeleteMoves address data s
  | .clearStrip address data => Sys2Proof.Machine.execClearStrip address data s
  | .clearStore address data => Sys2Proof.Machine.execClearStore address data s
  | .readMoves address data => Sys2Proof.Machine.execReadMoves address data s
  | .passOpen address data => Sys2Proof.Machine.execPassOpen address data s
  | .passClose address data => Sys2Proof.Machine.execPassClose address data s
  | .passKeep address data => Sys2Proof.Machine.execPassKeep address data s
  | .passDrop address data => Sys2Proof.Machine.execPassDrop address data s
  | .engineRestart address data => Sys2Proof.Machine.execEngineRestart address data s
  | .dominantBitSeen => Sys2Proof.Machine.execDominantBitSeen s
  | .commandByteNamesNoCommand command address data => Sys2Proof.Machine.execCommandByteNamesNoCommand command address data s

end Sys2Proof.Machine
end

