-- ==== Sys2Proof/Safety.lean ====
section
/-! DEFINITION. What counts as a safe run: the invariants of the part that every step keeps, one for each block, and the commands
that make a frame boundary. A run is safe when every state it passes has them. -/

namespace Sys2Proof.Machine

/-! ### Frame boundaries (R117) -/

/-- Whether a command makes a frame boundary in a state: an edge that is not early (R109), the divider in FREE (R111), the loss
window in LOCKING or LOCKED (R115), and the holdover spacing in HOLDOVER (R116). -/
def makesBoundary (s : State) (c : Instr) : Prop :=
  match c with
  | .referenceEdge _ time => s.rate.half ≤ time - s.clock.latestBoundary
  | .dividerBoundary => s.clock.state = .free
  | .lossWindowExpiry => (s.clock.state = .locking ∨ s.clock.state = .locked) ∧ s.clock.latestEdge ≠ none ∧ s.expirySuperseded = false
  | .holdoverBoundary => s.clock.state = .holdover
  | _ => False

/-- Whether a command is a reset: power-on reset, or a change of the RESET pin (R173). -/
def isReset (c : Instr) : Prop :=
  match c with
  | .powerOnReset _ => True
  | .resetPinAssert => True
  | .resetPinRelease _ => True
  | _ => False

/-- Runs commands one after another; none where one of them gives no next state. -/
def runAll : List Instr → State → Option State
  | [], s => some s
  | c :: rest, s =>
    match exec c s with
    | .next t => runAll rest t
    | .fault _ => none
    | .refused _ => none

/-- Two strip records agree in every field the card processor writes with WRITE STRIP (2.1, R35). -/
def Strip.sameWritten (a b : Strip) : Prop :=
  a.role = b.role ∧ a.input = b.input ∧ a.trim = b.trim ∧ a.manualCut = b.manualCut ∧ a.solo = b.solo ∧ a.soloSafe = b.soloSafe ∧
  a.groups = b.groups ∧ a.mode = b.mode ∧ a.glideSteps = b.glideSteps ∧ a.staticCode = b.staticCode

/-- Two premix masters agree in every field WRITE PREMIX writes (R83). -/
def PremixMaster.sameWritten (a b : PremixMaster) : Prop :=
  a.code = b.code ∧ a.cut = b.cut ∧ a.send0 = b.send0 ∧ a.send1 = b.send1

/-- Two fader records agree in calibration and touch thresholds (R126, R131). -/
def Fader.sameWritten (a b : Fader) : Prop :=
  a.low = b.low ∧ a.high = b.high ∧ a.onThreshold = b.onThreshold ∧ a.offThreshold = b.offThreshold

/-! ### Gains (chapter 1) -/

/-- A course from a gain: its target lies in range, it is at rest exactly when its count is 0, and the steps left never carry the gain
past the target (R12, R15). -/
def Course.wf (current : Int) (c : Course) : Prop :=
  (0 ≤ c.target ∧ c.target ≤ 16697825) ∧ c.count ≤ 64 ∧ (c.count = 0 → current = c.target ∧ c.step = 0) ∧
  (current ≤ c.target → 0 ≤ c.step ∧ c.step * c.count ≤ c.target - current) ∧
  (c.target ≤ current → c.step ≤ 0 ∧ c.target - current ≤ c.step * c.count)

/-- A level ramp: its gain lies in range, and its course and the course the latest boundary left are well-formed from that gain (R12,
R15, R27). -/
def LevelRamp.wf (r : LevelRamp) : Prop :=
  (0 ≤ r.current ∧ r.current ≤ 16697825) ∧ r.course.wf r.current ∧ r.base.wf r.current

/-- A cut ramp: its gain is a multiple of 65,536 within 0 to 4,194,304 (R15). -/
def CutRamp.wf (r : CutRamp) : Prop := (0 ≤ r.current ∧ r.current ≤ 4194304) ∧ r.current % 65536 = 0

/-- The ramps of a level code and a cut: well-formed, aimed at the code's coefficient and in the cut's direction (R11, R14). -/
def rampsFor (code : Nat) (cut : Bool) (level : LevelRamp) (gate : CutRamp) : Prop :=
  code ≤ 1020 ∧ level.wf ∧ level.target = coefficient code ∧ gate.wf ∧ gate.direction = Direction.ofCut cut

/-- Every ramp of the part is well-formed and aims at the level and cut in force (R11, R12, R14, R15). -/
def RampsSafe (s : State) : Prop :=
  (∀ i : Fin 64, rampsFor s.strips[i].effLevel s.strips[i].effCut s.strips[i].levelRamp s.strips[i].cutRamp) ∧
  (∀ p : Fin 64, rampsFor s.summer.premix[p].code s.summer.premix[p].cut s.summer.premix[p].levelRamp
    s.summer.premix[p].cutRamp)

/-! ### Strips and groups (chapters 2 and 6) -/

/-- What the part holds of a strip's level and cut is what its inputs give at this moment: an AUDIO strip's effective level and cut
(R23, R26), a GROUP MASTER's offset and cut in the mastered set (R33, R102). -/
def State.tuned (s : State) (i : Fin 64) : Prop :=
  match s.strips[i].role with
  | .audio => s.strips[i].effLevel = s.strips[i].levelUnder s.group.table ∧
      s.strips[i].effCut = s.strips[i].cutUnder s.group.table s.group.soloLevel
  | .groupMaster g => ∃ m, s.group.master g = some m ∧ m.offset = masterOffset s.strips[i].faderCode ∧
      m.cut = s.strips[i].modeCut

/-- Every existing strip's level and cut are current; no two existing strips master one group (R34), and the mastered set holds
exactly the groups they master, ascending (R102). -/
def StripsTuned (s : State) : Prop :=
  (∀ i : Fin 64, s.hasStrip i → s.tuned i) ∧
  (∀ i j : Fin 64, ∀ g : Fin 32, s.hasStrip i → s.hasStrip j → s.strips[i].role = .groupMaster g →
    s.strips[j].role = .groupMaster g → i = j) ∧
  (∀ m ∈ s.group.mastered, ∃ i : Fin 64, s.hasStrip i ∧ s.strips[i].role = .groupMaster m.group) ∧
  (s.group.mastered.map fun m => m.group.val).Pairwise (· < ·)

/-- The output z of a strip for a frame, in the order of R8: trim, cut, fader; 0 for a strip that is no existing AUDIO strip (R32). -/
def State.stripOutput (s : State) (samples : Vector Int 64) (i : Fin 64) : Int :=
  if s.hasStrip i = true ∧ s.strips[i].role = .audio then
    product (product (product (s.strips[i].inputSample s.rate samples) (coefficient s.strips[i].trim)) s.strips[i].cutRamp.current)
      s.strips[i].levelRamp.current
  else 0

/-- Whether a send of an existing AUDIO strip that is on aims at a bus (R28, R29). -/
def State.aimsAt (s : State) (b : Nat) : Prop :=
  ∃ (i : Fin 64) (n : Fin 4), s.hasStrip i = true ∧ s.strips[i].role = .audio ∧ s.strips[i].sends[n].on = true ∧
    s.strips[i].sends[n].bus.val = b

/-- The sum of the terms that the sends of the existing AUDIO strips aim at a bus: a POST send takes z, a PRE send the cut sample u
(R8, R28, R30). -/
def State.sendSum (s : State) (samples : Vector Int 64) (b : Nat) : Int :=
  ∑ i : Fin 64, ∑ n : Fin 4,
    if s.hasStrip i = true ∧ s.strips[i].role = .audio ∧ s.strips[i].sends[n].on = true ∧ s.strips[i].sends[n].bus.val = b then
      match s.strips[i].sends[n].tap with
      | .post => product (s.stripOutput samples i) (coefficient s.strips[i].sends[n].code)
      | .pre => product
          (product (product (s.strips[i].inputSample s.rate samples) (coefficient s.strips[i].trim)) s.strips[i].cutRamp.current)
          (coefficient s.strips[i].sends[n].code)
    else 0

/-- A move's value as a level code, 0 for a cut. -/
def MoveValue.code : MoveValue → Nat
  | .level code _ => code
  | .cut _ => 0

/-- The kind of a move's value. -/
def MoveValue.kind : MoveValue → Kind
  | .level _ _ => .level
  | .cut _ => .cut

/-- The level code a record carries, 0 where it carries none. -/
def Record.code : Record → Nat
  | .punchIn _ _ _ => 0
  | .move _ _ v => v.code
  | .punchOut _ _ _ => 0

/-- Every code and count a strip record holds lies in its range (2.1, R3, R35). -/
def Strip.inRange (st : Strip) : Prop :=
  (780 ≤ st.trim ∧ st.trim ≤ 1020) ∧ st.glideSteps ≤ 3000 ∧ st.staticCode ≤ 1020 ∧ st.liveCode ≤ 1020 ∧ st.storeLevel ≤ 1020 ∧
  (st.groups.length ≤ 4 ∧ st.groups.Nodup) ∧ ∀ n : Fin 4, st.sends[n].code ≤ 1020

/-- Every level code of the automation engine's record and lists lies within 0 to 1020 (R138, R141, R143, R145). -/
def AutoStrip.inRange (a : AutoStrip) : Prop :=
  (∀ code, a.readLevel = some code → code ≤ 1020) ∧ a.glideStart ≤ 1020 ∧ a.glideLength ≤ 3000 ∧ a.glideStep ≤ a.glideLength ∧
  (a.phase = .glide → a.glideStep < a.glideLength) ∧
  ∀ m ∈ a.levelMoves, m.code ≤ 1020

/-- Every level code of the strips, the automation engine, the journal and the fader records lies within 0 to 1020 (R3). -/
def CodesInRange (s : State) : Prop :=
  (∀ i : Fin 64, s.strips[i].inRange) ∧ (∀ i : Fin 64, s.playback.strips[i].inRange) ∧
  (∀ r ∈ s.pass.journal, r.code ≤ 1020) ∧ ∀ i : Fin 64, s.surface.faders[i].lastCode ≤ 1020

/-! ### Causes (R171) -/

/-- Whether a peer's due request finds a frame of the tag the boundary ends. -/
def State.dueFrameQueued (s : State) (j : Fin 16) : Prop := ∃ f ∈ s.peers[j].queue, f.tag = s.clock.tag

/-- Whether a peer's next due request can carry it over a transition that R67 names. -/
def State.peerAtEdge (s : State) (j : Fin 16) : Prop :=
  match s.peers[j].state with
  | .absent => s.dueFrameQueued j
  | .acquiring => (15 ≤ s.peers[j].good ∧ s.dueFrameQueued j) ∨ 7 ≤ s.peers[j].miss
  | .live => False
  | .hold => False
  | .gap => 7 ≤ s.peers[j].miss

/-- Whether a peer's next due request can leave it LIVE or HOLD with a frame that announces a channel (R64, R85). -/
def State.mayAnnounce (s : State) (j : Fin 16) (p : Nat) : Prop :=
  (s.peers[j].state ≠ .absent ∧ ∃ f ∈ s.peers[j].queue, f.tag = s.clock.tag ∧ p ∈ f.owned) ∨
  ((s.peers[j].state = .live ∨ s.peers[j].state = .hold) ∧ ∃ f, s.peers[j].last = some f ∧ p ∈ f.owned)

/-- Whether a command offers records to the journal: a pass message, PASS OPEN and PASS CLOSE on a listen-only station, an automation step,
a scan, the silence of the link, WRITE STRIP and a position record (R154 to R159). -/
def offersRecords (s : State) (c : Instr) : Prop :=
  (∃ bits, c = .groupMessageEnd bits) ∨ (s.listenOnly = true ∧ ∃ address data, c = .passOpen address data ∨ c = .passClose address data) ∨
  c = .automationStep ∨ (∃ bytes, c = .scanArrival bytes) ∨ c = .silenceWindowExpiry ∨ (∃ address data, c = .writeStrip address data) ∨
  ∃ bytes, c = .positionRecordArrival bytes

/-- Whether a command can raise a cause between two states: it is one of the commands whose rule raises the cause, and the state has what
that rule asks for (the rules that R171 names). -/
def mayRaise (s t : State) (c : Instr) : Cause → Prop
  | .peerChange =>
    (makesBoundary s c ∧ ∃ j : Fin 16, j ≠ s.straps.slot ∧ s.peerAtEdge j) ∨
      (c = .engineRestart 0 [] ∧ ∃ j : Fin 16, j ≠ s.straps.slot ∧ s.peers[j].state ≠ .absent)
  | .slotConflict => ∃ readBack clean f, c = .laneFrameCompletion readBack clean ∧ s.tx.inFlight = some f ∧ 1 ≤ s.tx.mismatches ∧
      (readBack ≠ laneFrameBytes f ∨ clean = false)
  | .premixConflict => makesBoundary s c ∧ ∃ (p : Nat) (j : Fin 16), p ∈ s.summer.pending.owned ∧ p ∉ s.summer.suspended ∧
      j < s.straps.slot ∧ s.mayAnnounce j p
  | .groupConflict => ∃ bits m, c = .groupMessageEnd bits ∧ s.group.line = .message ∧ readMessage bits = some m ∧
      (m.kind = .groupLevel ∨ m.kind = .groupCut) ∧ m.slot ≠ s.straps.slot ∧ ∃ x ∈ s.group.mastered, x.group.val = m.number
  | .clockChange =>
    (∃ marked time, c = .referenceEdge marked time ∧
      (s.clock.state = .free ∨ s.clock.state = .holdover ∨
        (s.clock.state = .locking ∧ 255 ≤ s.clock.acquisition ∧ ∃ e, s.clock.latestEdge = some e ∧
          s.rate.nominal - 1 ≤ time - e ∧ time - e ≤ s.rate.nominal + 1) ∨
        (s.clock.state = .locked ∧ ∃ e, s.clock.latestEdge = some e ∧
          (time - e < s.rate.nominal - 1 ∨ s.rate.nominal + 1 < time - e)))) ∨
      (c = .lossWindowExpiry ∧ (s.clock.state = .locking ∨ s.clock.state = .locked) ∧ s.clock.latestEdge ≠ none ∧ s.expirySuperseded = false)
  | .busOver => makesBoundary s c ∧ ∃ (b : Fin 128) (v : Int), b.val ∈ s.summer.pending.buses ∧
      (s.summer.meters[b].overCount = 0 ∨ b.val ∉ s.summer.config.buses) ∧ t.ports.totals.lookup b.val = some v ∧ 8388607 < v.natAbs
  | .laneOverflow => c = .stripFrameProcess ∧ s.listenOnly = false ∧ s.engine.handed ≠ none ∧
      (s.rate.capacity < s.tx.pendingB.length ∨
        ∃ l : List Nat, l.Nodup ∧ (∀ b ∈ l, b < 64 ∧ s.aimsAt b) ∧ s.rate.capacity < l.length)
  | .windowOversubscribed => makesBoundary s c ∧ s.summer.pending ≠ s.summer.config ∧ s.summer.pending.oversubscribed = true
  | .inputSilent => makesBoundary s c ∧ ∃ j : Fin 8, s.ports.inputs[j].running = true ∧ s.ports.inputs[j].held = none
  | .stuckTouch => ∃ bytes readings r, c = .scanArrival bytes ∧ readScan bytes = some readings ∧ r ∈ readings ∧
      s.hasStrip r.fader = true ∧ s.surface.faders[r.fader].touched = true ∧ s.surface.faders[r.fader].baseline ≠ none ∧
      59999 ≤ s.surface.faders[r.fader].touchedScans
  | .journalFull => (s.pass.state = .recording ∨ (s.pass.state = .idle ∧ s.playback.transport = .playing)) ∧ offersRecords s c ∧
      t.pass.incomplete = true ∧ t.pass.free ≤ 1
  | .passMissed => ∃ bits m, c = .groupMessageEnd bits ∧ s.group.line = .message ∧ readMessage bits = some m ∧ m.kind = .passOpen ∧
      (s.pass.state = .review ∨ s.pass.state = .merging ∨ (s.pass.state = .recording ∧ s.pass.number ≠ some m.number))
  | .mergeDone =>
    (makesBoundary s c ∧ s.pass.state = .merging ∧ s.pass.mergeList.length = 1) ∨
      (c = .passKeep 0 [] ∧ s.pass.state = .review ∧ ∀ i k p, .punchIn i k p ∉ s.pass.journal)
  | .mergeAborted => c = .engineRestart 0 [] ∧ s.pass.state = .merging
  | .lineError =>
    (c = .lineFault ∧ ∃ e ∈ s.group.queue, e.inFlight ≠ none) ∨
      ∃ bits, c = .groupMessageEnd bits ∧ s.group.line = .message ∧
        (readMessage bits = none ∨ ∃ e ∈ s.group.queue, e.inFlight ≠ none ∧ messageBits (s.ownMessage e) ≠ bits)

/-! ### Clock unit (chapter 7) -/

/-- The clock unit: its window holds 256 in-tolerance intervals, FREE and HOLDOVER have no latest edge and LOCKING and LOCKED have
one, LOCKED stands at 256 acquired edges and no other state does (R108 to R115). -/
def ClockSafe (s : State) : Prop :=
  s.clock.window.length = 256 ∧ (∀ n ∈ s.clock.window, inTolerance s.rate n = true) ∧ s.clock.acquisition ≤ 256 ∧
  s.clock.remainder ≤ 255 ∧ s.clock.realigns ≤ 65535 ∧ s.clock.edgeFaults ≤ 65535 ∧
  (s.clock.latestEdge = none ↔ s.clock.state = .free ∨ s.clock.state = .holdover) ∧
  (s.clock.acquisition = 256 ↔ s.clock.state = .locked)

/-! ### Lanes and peers (chapters 3 and 4) -/

/-- A queue of at most 4 frames, each newer than the one before it (R57). -/
def queueSafe (queue : List LaneFrame) : Prop :=
  queue.length ≤ 4 ∧ queue.IsChain fun f g => 0 < tagDiff g.tag f.tag

/-- A peer record: the state, the counts, the fade position and the last used frame agree as R62 to R66 move them. -/
def Peer.safe (p : Peer) : Prop :=
  queueSafe p.queue ∧ p.good ≤ 16 ∧ p.miss ≤ 8 ∧ p.fade ≤ 256 ∧ (p.good = 0 ∨ p.miss = 0) ∧
  (p.used ≤ 65535 ∧ p.missed ≤ 65535 ∧ p.stale ≤ 65535 ∧ p.overrun ≤ 65535 ∧ p.malformed ≤ 65535 ∧ p.realign ≤ 65535) ∧
  match p.state with
  | .absent => p.good = 0 ∧ p.fade = 0 ∧ p.last = none
  | .acquiring => p.good ≤ 15 ∧ p.miss ≤ 7 ∧ p.fade = 0 ∧ p.last ≠ none
  | .live => 1 ≤ p.good ∧ p.miss = 0 ∧ p.last ≠ none
  | .hold => (p.miss = 1 ∨ p.miss = 2) ∧ p.last ≠ none
  | .gap => 3 ≤ p.miss ∧ p.miss ≤ 7 ∧ p.last ≠ none

/-- Every peer record is safe, and the transmitter holds a waiting frame only behind one in flight, at most one mismatch, and nothing
to send while listen-only (R43, R50 to R52). -/
def LanesSafe (s : State) : Prop :=
  (∀ j : Fin 16, s.peers[j].safe) ∧ (s.tx.waiting ≠ none → s.tx.inFlight ≠ none) ∧ s.tx.mismatches ≤ 1 ∧
  (s.listenOnly = true → s.tx.inFlight = none ∧ s.tx.mismatches = 0)

/-! ### Bus summer (chapter 5) -/

/-- A configuration is the one R75 builds from its owned set and windows, and its owned set is ascending, of premix channels and
within the capacity (R74). -/
def SumConfig.safe (rate : Rate) (c : SumConfig) : Prop :=
  c = buildConfig rate c.owned c.windows ∧ c.owned.Pairwise (· < ·) ∧ (∀ p ∈ c.owned, p < 64) ∧ c.owned.length ≤ rate.capacity

/-- Both configurations are safe, only owned channels are suspended (R86), a bus outside the set has no meter (R77), meters lie in their
ranges (R87), and at most two own lists of a kind are held (R78). -/
def SummerSafe (s : State) : Prop :=
  s.summer.config.safe s.rate ∧ s.summer.pending.safe s.rate ∧ (∀ p ∈ s.summer.suspended, p ∈ s.summer.config.owned) ∧
  (∀ b : Fin 128, b.val ∉ s.summer.config.buses → s.summer.meters[b] = ⟨0, 0⟩) ∧
  (∀ b : Fin 128, s.summer.meters[b].peak ≤ 2147483648 ∧ s.summer.meters[b].overCount ≤ 65535) ∧
  s.summer.ownPremix.length ≤ 2 ∧ s.summer.ownStem.length ≤ 2

/-- The own contribution to a bus at a boundary: from the premix list of the sample ended, or from the stem list of the sample before;
0 where no such list is held, and at the first boundary after ENGINE RESTART (R78, R79, R91). -/
def State.ownContribution (s : State) (b : Nat) : Int :=
  if s.engine.restarted then 0
  else if b < 64 then ((s.summer.ownPremix.lookup s.clock.serial).getD []).value b
  else if s.clock.serial = 0 then 0
  else ((s.summer.ownStem.lookup (s.clock.serial - 1)).getD []).value b

/-- The term of a slot's peer for a bus at the boundary from `s` to `t`: the entry of the frame held after the due request, scaled by the
fade position in force, 0 on the entry into LIVE from ACQUIRING; nothing unless the peer is LIVE or HOLD (R17, R64, R66, R79). -/
def peerTerm (s t : State) (b : Nat) (j : Fin 16) : Int :=
  if j = s.straps.slot then 0
  else if t.peers[j].state = .live ∨ t.peers[j].state = .hold then
    match t.peers[j].last with
    | none => 0
    | some f =>
      fadeTerm (BusList.value (if b < 64 then f.a else f.b) b) (if s.peers[j].state = .acquiring then 0 else s.peers[j].fade)
  else 0

/-- Send k of a premix channel's master. -/
def PremixMaster.send (m : PremixMaster) (k : Fin 2) : PremixSend := if k = 0 then m.send0 else m.send1

/-- Whether send k of premix channel p gives a term aimed at a bus after a boundary: the channel is owned in force and not suspended,
and the send targets the bus (R84). -/
def State.masterAims (t : State) (b : Nat) (p : Fin 64) (k : Fin 2) : Prop :=
  p.val ∈ t.summer.config.owned ∧ p.val ∉ t.summer.suspended ∧
    (t.summer.premix[p].send k).target.map (fun stem => 64 + stem.val) = some b

/-- The term that send k of premix channel p aims at a bus: cut, level and send code applied to the premix total in the order of R9; 0
where it aims at another (R9, R84). -/
def State.masterTerm (t : State) (b : Nat) (p : Fin 64) (k : Fin 2) : Int :=
  if p.val ∈ t.summer.config.owned ∧ p.val ∉ t.summer.suspended ∧
      (t.summer.premix[p].send k).target.map (fun stem => 64 + stem.val) = some b then
    product (product (product (t.ports.totals.value p.val) t.summer.premix[p].cutRamp.current) t.summer.premix[p].levelRamp.current)
      (coefficient (t.summer.premix[p].send k).code)
  else 0

/-! ### Group line (chapter 6) -/

/-- The key of a queue entry (R101). -/
def QueueEntry.key (e : QueueEntry) : MsgKind × Nat := (e.kind, e.number)

/-- The send queue holds at most 40 entries with distinct keys, at most one of them in flight and then only in MESSAGE; a listen-only
station's queue is empty; the table's offsets lie in range (R95, R100, R101, R106). -/
def GroupSafe (s : State) : Prop :=
  s.group.queue.length ≤ 40 ∧ (s.group.queue.map QueueEntry.key).Nodup ∧
  (s.group.queue.filter fun e => e.inFlight.isSome).length ≤ 1 ∧
  ((∃ e ∈ s.group.queue, e.inFlight ≠ none) → s.group.line = .message) ∧
  (s.listenOnly = true → s.group.queue = []) ∧
  ∀ g : Fin 32, -1020 ≤ s.group.table[g].offset ∧ s.group.table[g].offset ≤ 120

/-- The GROUP CUTs enqueued where the mode cut of a group's master takes further values in turn: one at each change (R33, R102). -/
def changedCuts (g : Fin 32) : Bool → List Bool → List (MsgKind × Nat × Int)
  | _, [] => []
  | held, cut :: rest => (if held = cut then [] else [(.groupCut, g.val, cutValue cut)]) ++ changedCuts g cut rest

/-- The GROUP CUTs enqueued where the existing GROUP MASTER strips are handed the mode cuts given, ascending (R33, R102, log entry 50). -/
def State.masterCuts (s : State) (handed : Fin 64 → List Bool) : List (MsgKind × Nat × Int) :=
  (List.finRange 64).flatMap fun i =>
    match s.strips[i].role with
    | .audio => []
    | .groupMaster g => if s.hasStrip i then changedCuts g s.strips[i].modeCut (handed i) else []

/-- What the strips enqueue where each is handed one cut at most between two states (R33, R102). -/
def State.cutEnqueues (s t : State) : List (MsgKind × Nat × Int) := s.masterCuts fun i => [t.strips[i].modeCut]

/-- What the end of latches and live cuts enqueues (R149, R33, R102): a LATCHED strip with a live cut is handed the desk's cut and then the
read cut. -/
def State.endEnqueues (s t : State) : List (MsgKind × Nat × Int) :=
  s.masterCuts fun i =>
    [if s.strips[i].mode.ridden && s.playback.strips[i].phase == .latched && s.playback.strips[i].cutLive then s.strips[i].manualCut
      else t.strips[i].modeCut, t.strips[i].modeCut]

/-- What an automation step from `s` to `t` enqueues, in order (R102): a GROUP CUT for each GROUP MASTER strip whose cut its reading changed,
then a GROUP LEVEL for each mastered group whose offset differs from the one last enqueued (log entry 45). -/
def State.stepEnqueues (s t : State) : List (MsgKind × Nat × Int) :=
  s.cutEnqueues t ++ (s.group.mastered.zip t.group.mastered).flatMap fun (m, now) =>
    if now.offset = m.enqueued then [] else [(MsgKind.groupLevel, now.group.val, now.offset)]

/-- The send queue once a group is given up: the entries of the group that are not in flight have left it (R34, R102). -/
def GroupLine.givenUp (g : GroupLine) (h : Fin 32) : GroupLine :=
  { g with
    queue := g.queue.filter fun e => e.inFlight.isSome || (e.key != (.groupLevel, h.val) && e.key != (.groupCut, h.val)) }

/-- Several enqueues, one after another (R101). -/
def GroupLine.enqueueAll (g : GroupLine) (values : List (MsgKind × Nat × Int)) : GroupLine :=
  values.foldl (fun g (kind, number, value) => g.enqueue kind number value) g

/-- A group's table entry after messages of the own slot taken in turn (R100, R106). -/
def TableEntry.takeAll (g : Fin 32) (slot : Fin 16) (values : List (MsgKind × Nat × Int)) (e : TableEntry) : TableEntry :=
  values.foldl (fun e (kind, number, value) =>
    if number ≠ g.val then e
    else match kind with
      | .groupLevel => ⟨max (-1020) (min 120 value), e.cut, some slot, true⟩
      | .groupCut => ⟨e.offset, decide (value ≠ 0), some slot, true⟩
      | .passOpen => e
      | .passClose => e) e

/-- The group line controller of a station in state `s` after enqueues made one after another from `g`, but for the mastered set: the send
queue takes them as far as it has room, and in IDLE of an empty queue the first of them starts its message at once; on a listen-only
station the own group table takes them (R95, R101, R106, log entry 12). -/
def State.enqueues (s : State) (g : GroupLine) (values : List (MsgKind × Nat × Int)) (after : GroupLine) : Prop :=
  let kept (x : GroupLine) : GroupLine := { x with mastered := after.mastered }
  (s.listenOnly = false → g.line ≠ .idle ∨ values = [] → after = kept (g.enqueueAll values)) ∧
  (s.listenOnly = false → g.line = .idle → g.queue = [] → ∀ kind number value rest, values = (kind, number, value) :: rest →
    after = kept (GroupLine.enqueueAll { g with line := .message, queue := [⟨kind, number, value, some value⟩] } rest)) ∧
  (s.listenOnly = true → after = kept { g with table := after.table } ∧
    ∀ h : Fin 32, after.table[h] = g.table[h].takeAll h s.straps.slot values)

/-- The number of data bytes of a control command, by its command byte (R182). -/
def commandLength (command : Byte) : Nat :=
  [0, 0, 2, 2, 0, 15, 5, 9, 3, 2, 4, 4, 1, 1, 10, 13, 0, 0, 7, 0, 0, 0, 0, 0].getD (command.toNat - 1) 0

/-- Whether the object address of a control command must be 0, by its command byte: READ STATUS, READ CAUSES, CLEAR CAUSES, WRITE ATTENTION
MASK, CLEAR STORE, PASS KEEP, PASS DROP and ENGINE RESTART (R170, R181). -/
def namesNoObject (command : Byte) : Bool := ([1, 2, 3, 4, 18, 22, 23, 24] : List Byte).contains command

/-! ### Surface port (chapter 8) -/

/-- The record of a fader that has lost presence: untouched, with no baseline, its counts at 0 and the accept next mark set (R123). -/
def Fader.absent (f : Fader) : Fader :=
  { f with
    present := false, acceptNext := true, baseline := none, touched := false, debounce := 0, untouchedScans := 0, touchedScans := 0 }

/-- A fader record: calibration and thresholds as R126 and R131 leave them, counts below the values at which they act, and no touch,
baseline or count while the fader is not present (R122, R123, R127, R128, R130). -/
def Fader.safe (f : Fader) : Prop :=
  (f.low + 512 ≤ f.high ∧ f.high ≤ 4095) ∧ (1 ≤ f.offThreshold ∧ f.offThreshold ≤ f.onThreshold ∧ f.onThreshold ≤ 65535) ∧
  f.debounce ≤ 2 ∧ f.untouchedScans ≤ 15 ∧ f.touchedScans < 60000 ∧
  (f.touched = false → f.touchedScans = 0) ∧ (f.touched = true → f.untouchedScans = 0 ∧ f.baseline ≠ none) ∧
  (f.present = false → f.touched = false ∧ f.baseline = none)

/-- Every fader record is safe, and no fader is present while the link is SILENT (R133). -/
def SurfaceSafe (s : State) : Prop :=
  (∀ i : Fin 64, s.surface.faders[i].safe) ∧ s.surface.scanErrors ≤ 65535 ∧ s.surface.silence ≤ s.rate.silenceWindow ∧
  (s.surface.link = .silent → ∀ i : Fin 64, s.hasStrip i → s.surface.faders[i].present = false)

/-! ### Automation store, journal and passes (chapters 9 and 10) -/

/-- The records of a strip in a journal that its merge can put into the store: its MOVE records and one restore move for each of its
PUNCH IN records (R160). -/
def Record.adds (i : Fin 64) : Record → Bool
  | .punchIn j _ _ => j == i
  | .move j _ _ => j == i
  | .punchOut _ _ _ => false

/-- The moves the merge of the strips of a list can still add. -/
def mergeRoom (journal : List Record) (strips : List (Fin 64)) : Nat :=
  (strips.map fun i => (journal.filter (Record.adds i)).length).sum

/-- The store: every list strictly ascending by position, at most 8,192 moves, and while MERGING room for all that the strips still to
be merged can add (R138, R160). -/
def StoreSafe (s : State) : Prop :=
  (∀ i : Fin 64, (s.playback.strips[i].levelMoves.map LevelMove.position).Pairwise (· < ·)) ∧
  (∀ i : Fin 64, (s.playback.strips[i].cutMoves.map CutMove.position).Pairwise (· < ·)) ∧
  s.storeCount ≤ 8192 ∧ s.pass.mergeList.Nodup ∧
  (s.pass.state = .merging → s.storeCount + mergeRoom s.pass.journal s.pass.mergeList ≤ 8192)

/-- The number of PUNCH OUT records of a journal (R156). -/
def punchOutRecords (journal : List Record) : Nat :=
  (journal.filter fun | .punchOut _ _ _ => true | .move _ _ _ => false | .punchIn _ _ _ => false).length

/-- A range of a merge whose moves lie at positions of its records, as a journal gives it (R161). -/
def Range.wf {α : Type} (position : α → Nat) (r : Range α) : Prop := ∀ m ∈ r.moves, position m ∈ r.positions

/-- The MOVE of the records of a strip and kind that a range holds, as (position, value). -/
def Record.moveOf (i : Fin 64) (kind : Kind) : Record → Option (Nat × MoveValue)
  | .punchIn _ _ _ => none
  | .punchOut _ _ _ => none
  | .move j p v =>
    match v, kind with
    | .level _ _, .level => if j = i then some (p, v) else none
    | .cut _, .cut => if j = i then some (p, v) else none
    | .level _ _, .cut => none
    | .cut _, .level => none

/-- Whether a record opens or closes a punch of a strip and kind. -/
def Record.bounds (i : Fin 64) (kind : Kind) : Record → Prop
  | .punchIn j k _ => j = i ∧ k = kind
  | .punchOut j k _ => j = i ∧ k = kind
  | .move _ _ _ => False

/-- Whether the journal refuses a record: a PUNCH IN needs a free count of 2, a MOVE of an open punch one of 1, and a PUNCH OUT is always
accepted (R156). -/
def Pass.refuses (p : Pass) : Record → Bool
  | .punchIn _ _ _ => decide (p.free ≤ 1)
  | .move i _ v => p.isOpen i v.kind && decide (p.free = 0)
  | .punchOut _ _ _ => false

/-- The pass record after one record is offered: an accepted record joins the journal and moves its punch, a refused one sets the
incomplete mark, and a MOVE or PUNCH OUT with no punch open is not offered (R156, R157). -/
def Pass.offer (p : Pass) (r : Record) : Pass :=
  if p.refuses r then { p with incomplete := true }
  else match r with
    | .punchIn i kind _ => { p with journal := p.journal ++ [r], punches := p.punches.set i (p.punches[i].start kind) }
    | .move i _ v =>
      if p.isOpen i v.kind then { p with journal := p.journal ++ [r], punches := p.punches.set i (p.punches[i].note v) } else p
    | .punchOut i kind _ =>
      if p.isOpen i kind then { p with journal := p.journal ++ [r], punches := p.punches.set i (p.punches[i].stop kind) } else p

/-- The pass record after records are offered in order (R156). -/
def Pass.offers (p : Pass) (records : List Record) : Pass := records.foldl Pass.offer p

/-- Whether some record of those offered in order is refused (R156). -/
def Pass.refusesSome : Pass → List Record → Bool
  | _, [] => false
  | p, r :: rest => p.refuses r || (p.offer r).refusesSome rest

/-- The records of several strips, ascending (R156). -/
def State.ofStrips (s : State) (records : Fin 64 → List Record) : List Record :=
  (List.finRange 64).flatMap fun i => if s.hasStrip i then records i else []

/-- The records of one strip's kinds, LEVEL before CUT (R156). -/
def bothKinds (records : Kind → List Record) : List Record := records .level ++ records .cut

/-- The records that punch a strip and kind in: PUNCH IN and the opening move (R157). -/
def opening (i : Fin 64) (kind : Kind) (position : Nat) (desk : MoveValue) : List Record :=
  [.punchIn i kind position, .move i position desk]

/-- The records that close a punch, where it is open: the closing move where the desk's value differs from the last recorded, then the
PUNCH OUT (R159). -/
def Pass.closing (p : Pass) (i : Fin 64) (kind : Kind) (position : Nat) (desk : MoveValue) : List Record :=
  if p.isOpen i kind then (if p.punches[i].differs desk then [.move i position desk] else []) ++ [.punchOut i kind position] else []

/-- The records that close every open punch of the existing strips at a position (R155, R159). -/
def State.closings (s : State) (position : Nat) : List Record :=
  s.ofStrips fun i => bothKinds fun kind => s.pass.closing i kind position (s.deskValue i kind)

/-- The records that punch in what is live for recording and has no punch open, at a position (R157). -/
def State.openings (s : State) (position : Nat) : List Record :=
  s.ofStrips fun i => bothKinds fun kind =>
    if s.liveForRecording i kind && !s.pass.isOpen i kind then opening i kind position (s.deskValue i kind) else []

/-- The pass record once RECORDING of a pass has begun (R154, R157). -/
def State.passOpened (s : State) (number : Nat) : Pass :=
  let begun : Pass := { s.pass with state := .recording, number := some number, incomplete := false }
  begun.offers (if s.playback.transport = .playing then s.openings s.playback.position else [])

/-- The pass record once its pass is closed: every open punch closed, the state REVIEW (R155, R159). -/
def State.passClosed (s : State) : Pass := { s.pass.offers (s.closings s.playback.position) with state := .review }

/-! ### Touches and releases (R144 to R147) -/

/-- The level source and store level code of a strip are those its mode and record give (R144); in GLIDE the store level code is the glide
code. -/
def Strip.levelHanded (a : AutoStrip) (st : Strip) : Prop :=
  (st.levelSource = .store ↔ (st.mode = .read ∧ a.readLevel ≠ none) ∨
    (st.mode.ridden = true ∧ ((a.phase = .follow ∧ a.readLevel ≠ none) ∨ a.phase = .glide))) ∧
  ∀ code, a.readLevel = some code → st.mode = .read ∨ (st.mode.ridden = true ∧ a.phase = .follow) → st.storeLevel = code

/-- The cut source and store cut of a strip are those its mode and record give (R144). -/
def Strip.cutHanded (a : AutoStrip) (st : Strip) : Prop :=
  (st.cutSource = .store ↔ a.readCut ≠ none ∧ (st.mode = .read ∨ (st.mode.ridden = true ∧ a.cutLive = false))) ∧
  ∀ cut, a.readCut = some cut → st.mode = .read ∨ st.mode.ridden = true → st.storeCut = cut

/-- Two strip records have the same level source and store level code. -/
def Strip.sameLevel (a b : Strip) : Prop := a.levelSource = b.levelSource ∧ a.storeLevel = b.storeLevel

/-- Two strip records have the same cut source and store cut. -/
def Strip.sameCut (a b : Strip) : Prop := a.cutSource = b.cutSource ∧ a.storeCut = b.storeCut

/-- Whether a release of a strip ends in LATCHED: in LATCH, while the pass records (R147). -/
def State.latches (s : State) (i : Fin 64) : Bool := s.strips[i].mode == .latch && s.recordingNow

/-- Whether a release of a strip returns its level to the store: in TOUCH and LATCH, not LATCHED and not about to be (R147). -/
def State.returns (s : State) (i : Fin 64) : Bool :=
  s.strips[i].mode.ridden && s.playback.strips[i].phase != .latched && !s.latches i

/-- The record of a strip read at the position held (R141). -/
def State.readingOf (s : State) (i : Fin 64) : AutoStrip :=
  { s.playback.strips[i] with
    readLevel := (readLevelAt s.playback.strips[i].levelMoves s.playback.position).map Prod.fst
    readCut := readCutAt s.playback.strips[i].cutMoves s.playback.position }

/-- The record of a strip read, its level returned from a desk that offers a code (R145): by a glide where it has a read level and glide
steps, and otherwise at once. -/
def State.returned (s : State) (i : Fin 64) (desk : Nat) : AutoStrip :=
  if (s.readingOf i).readLevel ≠ none ∧ 0 < s.strips[i].glideSteps then
    { s.readingOf i with phase := .glide, glideStart := desk, glideLength := s.strips[i].glideSteps, glideStep := 0 }
  else { s.readingOf i with phase := .follow }

/-- The record of a strip after a touch event, given the code the desk offers (R145, R147): a touch makes it LIVE in TOUCH and LATCH, a
release reads it and starts a glide or follows the store, or leaves it LATCHED. -/
def State.recordAfter (s : State) (i : Fin 64) (desk : Nat) : TouchEvent → AutoStrip
  | .none => s.playback.strips[i]
  | .touch =>
    { s.playback.strips[i] with
      touched := true, phase := if s.strips[i].mode.ridden then .live else s.playback.strips[i].phase }
  | .release => released
  | .stuck => released
where
  /-- The record after a release, or after a touch given up. -/
  released : AutoStrip :=
    if s.returns i then { s.returned i desk with touched := false }
    else
      { s.playback.strips[i] with
        touched := false
        phase := if s.strips[i].mode.ridden && s.latches i then .latched else s.playback.strips[i].phase }

/-- What a touch event leaves of a strip's sources, from strip record `before` to `after` (R144, R145, R147). -/
def State.sourcesAfter (s : State) (i : Fin 64) (before after : Strip) : TouchEvent → Prop
  | .none => before.sameLevel after ∧ before.sameCut after
  | .touch => (if s.strips[i].mode.ridden then after.levelSource = .desk ∧ after.storeLevel = before.storeLevel
      else before.sameLevel after) ∧ before.sameCut after
  | .release => released
  | .stuck => released
where
  /-- The sources after a release, or after a touch given up. -/
  released : Prop :=
    if s.returns i then
      let record := s.recordAfter i after.deskCode .release
      after.levelHanded record ∧ after.cutHanded record ∧ (record.phase = .glide → after.storeLevel = after.deskCode) ∧
        (after.levelSource = .desk → after.storeLevel = before.storeLevel)
    else
      (if s.strips[i].mode.ridden && s.playback.strips[i].phase != .latched
        then after.levelSource = .desk ∧ after.storeLevel = before.storeLevel else before.sameLevel after) ∧ before.sameCut after

/-- The record of a strip whose latch and live cut end: a LATCHED one is read and returned to the store, and no cut is live (R149). -/
def State.liveEndedRecord (s : State) (i : Fin 64) : AutoStrip :=
  { (if s.playback.strips[i].phase = .latched then s.returned i s.strips[i].deskCode else s.playback.strips[i]) with cutLive := false }

/-- What the end of a latch and a live cut leaves of a strip's sources (R149, R144): a LATCHED one takes its level from the read level, or
from the desk's code in a glide, and a LATCHED one and a live cut take the read cut. A store value with no reading is kept (log entry 48). -/
def State.liveEndedSources (s : State) (i : Fin 64) (after : Strip) : Prop :=
  let before := s.strips[i]
  let latched : Prop := s.playback.strips[i].phase = .latched
  let record := s.liveEndedRecord i
  (before.mode.ridden = true → latched → after.levelHanded record ∧ (record.phase = .glide → after.storeLevel = before.deskCode) ∧
    (after.levelSource = .desk → after.storeLevel = before.storeLevel)) ∧
  (¬ latched → before.sameLevel after) ∧
  (latched ∨ s.playback.strips[i].cutLive = true → after.cutHanded record ∧
    (after.cutSource = .desk → after.storeCut = before.storeCut)) ∧
  (¬ latched → s.playback.strips[i].cutLive = false → before.sameCut after)

/-- Latches and live cuts of every existing strip have ended between two states (R149). -/
def State.liveEnded (s t : State) : Prop :=
  ∀ i : Fin 64, s.hasStrip i = true → t.playback.strips[i] = s.liveEndedRecord i ∧ s.liveEndedSources i t.strips[i]

/-- The records a touch event of a strip offers, given the code the desk offers (R157, R159): a touch punches its level in, a release that
starts a glide while PLAYING records the glide start, and one that starts none closes the LEVEL punch. -/
def State.touchRecords (s : State) (i : Fin 64) (desk : Nat) : TouchEvent → List Record
  | .none => []
  | .touch =>
    if s.strips[i].mode.ridden && s.recordingNow && !s.pass.isOpen i .level then
      opening i .level s.playback.position (.level desk false) else []
  | .release => released
  | .stuck => released
where
  /-- The records of a release, or of a touch given up. -/
  released : List Record :=
    if s.returns i then
      if (s.recordAfter i desk .release).phase = .glide then
        if s.playback.transport = .playing then [.move i s.playback.position (.level desk true)] else []
      else s.pass.closing i .level s.playback.position (.level desk false)
    else []

/-- The touch event of a fader in a good scan: that of its reading, and a release where it was touched and is not carried (R128, R129,
R130). -/
def State.scanEvent (s : State) (readings : List Reading) (i : Fin 64) : TouchEvent :=
  match readings.find? fun r => r.fader == i with
  | some r => (s.surface.faders[i].sense r.touch).2
  | none => if s.surface.faders[i].present && s.surface.faders[i].touched then .release else .none

/-- The pass record: journal and open punches never exceed 2,048 together; punches are open only while RECORDING and PLAYING, on
existing strips; in IDLE there is no journal and no pass number (R152, R156, R159). -/
def PassSafe (s : State) : Prop :=
  s.pass.journal.length + s.pass.openPunches ≤ 2048 ∧
  (∀ (i : Fin 64) (k : Kind), s.pass.isOpen i k = true →
    s.pass.state = .recording ∧ s.playback.transport = .playing ∧ s.hasStrip i = true) ∧
  (s.pass.state = .idle → s.pass.journal = []) ∧ (s.pass.state = .idle ↔ s.pass.number = none) ∧
  (s.pass.state = .merging ↔ s.pass.mergeList ≠ [])

/-! ### Reply data (R182) -/

/-- A value coded by its place in a list of values (R182). -/
def placeOf {α : Type} [DecidableEq α] (values : List α) (v : α) : List Byte := [BitVec.ofNat 8 (values.idxOf v)]

/-- A mark: 01h or 00h (R182). -/
def flagByte (b : Bool) : List Byte := [if b then 1 else 0]

/-- A value that may be none, sent in so many bytes after its mark (R182). -/
def orNone (width : Nat) : Option (List Byte) → List Byte
  | some bytes => 1 :: bytes
  | none => 0 :: List.replicate width 0

/-- A list of elements after its count (R182). -/
def listed (elements : List (List Byte)) : List Byte := BitVec.ofNat 8 elements.length :: elements.flatten

/-- A run of bytes: its concatenated fields. -/
def fields (parts : List (List Byte)) : List Byte := parts.flatten

/-- A safe state: every block's invariant holds. -/
structure Safe (s : State) : Prop where
  ramps : RampsSafe s
  tuned : StripsTuned s
  codes : CodesInRange s
  clock : ClockSafe s
  lanes : LanesSafe s
  summer : SummerSafe s
  group : GroupSafe s
  surface : SurfaceSafe s
  store : StoreSafe s
  pass : PassSafe s

end Sys2Proof.Machine
end

