-- ==== Sys2Proof/Certificates/Slice0/Obligations.lean ====
section
/-! DEFINITION. The statements about the model, for the provers: one definition for each. A command sequence reaches the part
through its queue, so each statement about a command is one about exec; the first says how step runs it. Where a statement rests
on a choice of the model, its docstring names the log entry. -/

open Sys2Proof Sys2Proof.Machine

/-! ### The whole part -/

/-- A step takes the command at the front of the queue and runs it on the state with the queue's rest; with an empty queue the part
idles. The queue is the model's own (log entry 2). -/
def Obligations.StepTakesFrontCommand : Prop :=
  (∀ (c : Instr) (rest : List Instr) (s : State), step (s.setPending (c :: rest)) = exec c (s.setPending rest)) ∧
  ∀ s : State, s.pending = [] → step s = .next s

/-- Every command answers a next state and leaves the queue of waiting commands alone. Except for resets, a command changes no
strap, and the clock, the attention mask, the output map, the calibrations and thresholds of the faders, the written fields and
the sends of the strips, the premix settings and the pending windows change only by the commands that the rules name. -/
def Obligations.SettingsChangeOnlyByTheirCommands : Prop :=
  ∀ (c : Instr) (s : State), ∃ t, exec c s = .next t ∧ t.pending = s.pending ∧
    (¬ isReset c →
      t.straps = s.straps ∧ t.resetPin = s.resetPin ∧
      ((∀ a d, c ≠ .writeAttentionMask a d) → t.control.mask = s.control.mask) ∧
      ((∀ a d, c ≠ .writeOutput a d) → t.ports.map = s.ports.map) ∧
      ((∀ a d, c ≠ .writeCalibration a d) → (∀ a d, c ≠ .writeTouch a d) →
        ∀ i : Fin 64, Fader.sameWritten t.surface.faders[i] s.surface.faders[i]) ∧
      ((∀ a d, c ≠ .writeStrip a d) → ∀ i : Fin 64, Strip.sameWritten t.strips[i] s.strips[i]) ∧
      ((∀ a d, c ≠ .writeSend a d) → ∀ i : Fin 64, t.strips[i].sends = s.strips[i].sends) ∧
      ((∀ a d, c ≠ .writePremix a d) → t.summer.pending.owned = s.summer.pending.owned ∧
        ∀ p : Fin 64, PremixMaster.sameWritten t.summer.premix[p] s.summer.premix[p]) ∧
      ((∀ a d, c ≠ .writeWindow a d) → t.summer.pending.windows = s.summer.pending.windows) ∧
      (¬ makesBoundary s c → (∀ m k, c ≠ .referenceEdge m k) → (∀ a d, c ≠ .readStatus a d) → t.clock = s.clock))

/-- A set cause stays set until a reset, or a CLEAR CAUSES that selects it, clears it. A clear cause becomes set only by one of the commands
whose rule R171 names for it, while RESET is not asserted, and only where the state has what that rule asks for: a peer at one of the
transitions of R67, a second mismatch (R52), a newly announced owned channel (R85), a foreign sender of a mastered group (R100), a change of
clock state (R119), a total over the port range on a fresh meter (R87), a section past its capacity (R46), a differing oversubscribed copy
(R76), a RUNNING port that holds nothing (R166), a fader at its last touched scan (R130), a refused record (R156), a PASS OPEN of another pass
(R154), the end of a merge (R160, R162), a merge at a restart (R164), and a message fault or failed test (R96, R98). -/
def Obligations.CausesRiseByTheirRulesAndStay : Prop :=
  ∀ (c : Instr) (s t : State) (cause : Cause), PassSafe s → exec c s = .next t →
    (s.causeSet cause = true → t.causeSet cause = true ∨ isReset c ∨
      ∃ address high low, c = .clearCauses address [high, low] ∧ (high ++ low).getLsbD cause.position = true) ∧
    (t.causeSet cause = true → s.causeSet cause = true ∨ (s.resetPin = false ∧ mayRaise s t c cause))

/-- A control command whose reply is not OK changes nothing but the reply, which carries no data. The one exception is a PASS OPEN
or PASS CLOSE that finds the send queue full: it replies BUSY and the drop counter rises by 1 (R101, log entry 33). -/
def Obligations.RefusedCommandsChangeNothing : Prop :=
  ∀ (c : Instr) (s t : State) (r : Reply), c.request ≠ none → s.resetPin = false → exec c s = .next t → t.control.reply = some r →
    r.status ≠ .ok →
    r.data = [] ∧
    (t = s.setControl { s.control with reply := some r } ∨
      (r.status = .busy ∧ s.listenOnly = false ∧ 40 ≤ s.group.queue.length ∧
        ((∃ a, c = .passOpen a [] ∧ s.pass.state = .idle) ∨ (∃ a, c = .passClose a [] ∧ s.pass.state = .recording)) ∧
        t = (s.setGroup { s.group with drops := min 65535 (s.group.drops + 1) }).setControl
          { s.control with reply := some r }))

/-- Power-on reset and release of the RESET pin read the straps and give every block its reset values. Of these the spec does not give, and the
model chooses: the queue of commands is kept (log entry 2), the RESET pin stands released after power-on (log entry 8), the times and the
sample serial of the clock are 0, with no mark of an expiry that an edge met (log entries 3 and 7), so is the decided length of a holdover
frame (log entry 47), the solo level is inactive (log entry 24), the strip engine holds no input samples (log entry 9), no automation step and
no refresh is due (log entry 5), no recessive bit time is counted (log entry 13), and no totals, DIRECT values, port frames, motor return or
reply have been given (log entries 25 and 26). -/
def Obligations.ResetGivesEveryBlockItsValues : Prop :=
  ∀ (straps : Straps) (s : State), ∃ t, exec (.powerOnReset straps) s = .next t ∧ exec (.resetPinRelease straps) s = .next t ∧
    t.pending = s.pending ∧ t.straps = straps ∧ t.resetPin = false ∧
    (∀ i : Fin 64, t.strips[i].role = .audio ∧ t.strips[i].input = some i ∧ t.strips[i].trim = 900 ∧
      t.strips[i].manualCut = false ∧ t.strips[i].solo = false ∧ t.strips[i].soloSafe = false ∧ t.strips[i].groups = [] ∧
      t.strips[i].mode = .off ∧ t.strips[i].glideSteps = 0 ∧ t.strips[i].staticCode = 0 ∧ t.strips[i].liveCode = 0 ∧
      t.strips[i].levelSource = .desk ∧ t.strips[i].storeLevel = 0 ∧ t.strips[i].cutSource = .desk ∧
      t.strips[i].storeCut = false ∧ t.strips[i].present = false ∧ t.strips[i].effLevel = 0 ∧ t.strips[i].effCut = false ∧
      (∀ n : Fin 4, t.strips[i].sends[n] = ⟨0, 0, .post, false⟩) ∧
      t.strips[i].levelRamp = ⟨0, 0, 0, 0, ⟨0, 0, 0⟩⟩ ∧ t.strips[i].cutRamp = ⟨4194304, .opening⟩) ∧
    t.engine = ⟨none, [], false⟩ ∧
    t.clock = ⟨.free, 0, 0, 0, none, false, 0, List.replicate 256 (if straps.rate = .khz48 then 512 else 256), 0, 0, 0, 0, 0⟩ ∧
    t.tx = ⟨if straps.listenOnly then .strapSilent else .driving, none, none, [], 0⟩ ∧
    (∀ j : Fin 16, t.peers[j] = ⟨.absent, 0, 0, 0, none, [], 0, 0, 0, 0, 0, 0⟩) ∧
    (t.summer.config.owned = [] ∧ t.summer.config.buses = [] ∧ t.summer.config.oversubscribed = false ∧
      t.summer.pending = t.summer.config ∧ (∀ n : Fin 4, t.summer.config.windows[n] = ⟨0, 0, false⟩) ∧
      t.summer.suspended = [] ∧ t.summer.ownPremix = [] ∧ t.summer.ownStem = [] ∧
      (∀ b : Fin 128, t.summer.meters[b] = ⟨0, 0⟩) ∧
      ∀ p : Fin 64, t.summer.premix[p] =
        ⟨0, false, ⟨0, 0, 0, 0, ⟨0, 0, 0⟩⟩, ⟨4194304, .opening⟩, ⟨none, 0⟩, ⟨none, 0⟩⟩) ∧
    (t.group.line = .seeking ∧ t.group.queue = [] ∧ (∀ g : Fin 32, t.group.table[g] = ⟨0, false, none, false⟩) ∧
      t.group.mastered = [] ∧ t.group.refreshCount = 0 ∧ t.group.sent = 0 ∧ t.group.taken = 0 ∧ t.group.lineErrors = 0 ∧
      t.group.losses = 0 ∧ t.group.drops = 0 ∧ t.soloDrive = false ∧ t.group.soloLevel = false ∧ t.group.refreshDue = none ∧
      t.group.recessiveRun = 0) ∧
    (t.surface.link = .silent ∧ t.surface.silence = 0 ∧ t.surface.scanErrors = 0 ∧ t.surface.motorReturn = none ∧
      ∀ i : Fin 64, t.surface.faders[i] = ⟨0, 4095, 40, 25, false, 0, true, none, false, 0, 0, 0⟩) ∧
    (t.playback.position = 0 ∧ t.playback.transport = .stopped ∧ t.playback.stepCount = 0 ∧ t.playback.positionErrors = 0 ∧
      t.playback.jumps = 0 ∧ t.playback.stepDue = false ∧ t.storeCount = 0 ∧
      ∀ i : Fin 64, t.playback.strips[i] = ⟨false, .follow, false, none, none, 0, 0, 0, [], []⟩) ∧
    (t.pass.state = .idle ∧ t.pass.number = none ∧ t.pass.journal = [] ∧ t.pass.openPunches = 0 ∧ t.pass.incomplete = false ∧
      t.pass.missed = none ∧ t.pass.mergeList = [] ∧ t.pass.stripsDone = 0) ∧
    ((∀ j : Fin 8, t.ports.inputs[j] = ⟨false, none⟩) ∧ (∀ c : Fin 64, t.ports.map[c] = .silence) ∧ t.ports.totals = [] ∧
      t.ports.totalsHanded = false ∧ t.ports.direct = none ∧ ∀ j : Fin 8, t.ports.emitted[j] = []) ∧
    t.control = ⟨0, 0, none⟩ ∧ t.attentionLine = false

/-- Assertion of the RESET pin cuts the frame and the message in flight short and releases every drive; while it stays asserted no
command but a reset changes anything, and a control transaction sends no reply. That a waiting frame is discarded with the frame in
flight, and that timers stand still, are the model's (log entry 8). An internal event that is not due, and a line event that finds
nothing to act on, changes nothing, which is the model's reading of a command its own timers would not give then (log entry 4); what is due is
held as a mark until its command (log entry 5). -/
def Obligations.ResetHoldAndEventsNotDueHaveNoEffect : Prop :=
  (∀ s : State, ∃ t, exec .resetPinAssert s = .next t ∧ t.resetPin = true ∧ t.attentionLine = false ∧ t.soloDrive = false ∧
    t.tx = { s.tx with inFlight := none, waiting := none } ∧ t.group.sending = none ∧
    t.group.queue.map QueueEntry.key = s.group.queue.map QueueEntry.key ∧ t.control = { s.control with reply := none } ∧
    t.straps = s.straps ∧ t.clock = s.clock ∧ t.strips = s.strips ∧ t.peers = s.peers ∧ t.summer = s.summer ∧
    t.surface = s.surface ∧ t.playback = s.playback ∧ t.pass = s.pass ∧ t.ports = s.ports ∧ t.pending = s.pending) ∧
  (∀ (c : Instr) (s : State), s.resetPin = true → ¬ isReset c →
    exec c s = .next s ∨ (c.request ≠ none ∧ exec c s = .next (s.setControl { s.control with reply := none }))) ∧
  ∀ s : State,
    (s.clock.state ≠ .free → exec .dividerBoundary s = .next s) ∧
    (s.clock.state = .free ∨ s.clock.state = .holdover ∨ s.expirySuperseded = true → exec .lossWindowExpiry s = .next s) ∧
    (s.clock.state ≠ .holdover → exec .holdoverBoundary s = .next s) ∧
    (s.playback.stepDue = false → exec .automationStep s = .next s) ∧
    (s.group.refreshDue = none → exec .groupRefresh s = .next s) ∧
    (s.surface.silence < s.rate.silenceWindow → exec .silenceWindowExpiry s = .next s) ∧
    (s.engine.handed = none → exec .stripFrameProcess s = .next s) ∧
    (s.tx.inFlight = none → ∀ bytes clean, exec (.laneFrameCompletion bytes clean) s = .next s) ∧
    (s.ports.totalsHanded = false ∨ s.ports.direct = none → exec .outputPortFrameStart s = .next s) ∧
    (s.group.sending = none → exec .arbitrationLoss s = .next s ∧ exec .lineFault s = .next s) ∧
    (s.group.line ≠ .message → ∀ bits, exec (.groupMessageEnd bits) s = .next s) ∧
    (s.group.line ≠ .seeking → exec .lineRest s = .next s) ∧
    (s.group.line = .message → exec .dominantBitSeen s = .next s)

/-! ### Clock unit (chapter 7) -/

/-- In FREE a boundary is made N periods after the latest one (R111). In LOCKING and LOCKED the expiry of the loss window enters
HOLDOVER, makes a boundary, empties the latest edge and decides the first holdover frame with remainder 0 (R115, R116), except the
expiry that came with an edge taken first, which is not taken (R115, R117). In HOLDOVER a boundary is made after the decided length, and
the next length is decided (R116). At each the tag advances by 1 (R117). That the expiry and the spacing carry no time of their own, and
the mark by which the model knows an expiry that came with an edge, are the model's (log entry 3). -/
def Obligations.ClockMakesItsOwnBoundaries : Prop :=
  ∀ s : State, s.resetPin = false →
    (s.clock.state = .free → ∃ t, exec .dividerBoundary s = .next t ∧
      t.clock = { s.clock with
        tag := s.clock.tag + 1, serial := s.clock.serial + 1
        latestBoundary := s.clock.latestBoundary + s.rate.nominal, frameLength := s.rate.nominal }) ∧
    (s.expirySuperseded = true → exec .lossWindowExpiry s = .next s) ∧
    (∀ e, s.clock.state = .locking ∨ s.clock.state = .locked → s.clock.latestEdge = some e → s.expirySuperseded = false →
      ∃ t, exec .lossWindowExpiry s = .next t ∧ t.causeSet .clockChange = true ∧
        t.clock = { s.clock with
          state := .holdover, tag := s.clock.tag + 1, serial := s.clock.serial + 1, latestBoundary := e + s.rate.lossWindow
          frameLength := e + s.rate.lossWindow - s.clock.latestBoundary, latestEdge := none, expiryMet := false, acquisition := 0
          holdoverLength := s.clock.window.sum / 256, remainder := s.clock.window.sum % 256 }) ∧
    (s.clock.state = .holdover → ∃ t, exec .holdoverBoundary s = .next t ∧
      t.clock = { s.clock with
        tag := s.clock.tag + 1, serial := s.clock.serial + 1
        latestBoundary := s.clock.latestBoundary + s.clock.holdoverLength, frameLength := s.clock.holdoverLength
        holdoverLength := s.clock.window.sum / 256 + if 256 ≤ s.clock.remainder + s.clock.window.sum % 256 then 1 else 0
        remainder := (s.clock.remainder + s.clock.window.sum % 256) % 256 })

/-- A reference edge is judged, moves the clock state and becomes the latest edge, and then makes a boundary unless it is early. In
FREE and HOLDOVER it is not judged and leads to LOCKING (R112). In tolerance it joins the measurement window; the 256th in LOCKING
leads to LOCKED (R110, R113). Out of tolerance it clears the count, is counted, and leads to LOCKING (R113, R114). CLOCK CHANGE is
raised exactly where the state changed (R119). A boundary it makes advances the tag, and brings it to 0 where the edge is marked and
the state is LOCKED (R117, R118). After an edge that came with the expiry of the loss window and makes a boundary, that expiry is not
taken (R115, R117; that it is the one met before the frame is processed is log entry 3). -/
def Obligations.ReferenceEdgeIsJudgedThenTaken : Prop :=
  ∀ (marked : Bool) (time : Nat) (s : State), s.resetPin = false → ClockSafe s →
    ∃ t, exec (.referenceEdge marked time) s = .next t ∧ t.clock.latestEdge = some time ∧ t.clock.remainder = s.clock.remainder ∧
      (s.clock.state = .free ∨ s.clock.state = .holdover →
        t.clock.state = .locking ∧ t.clock.acquisition = 0 ∧ t.clock.window = s.clock.window ∧
        t.clock.edgeFaults = s.clock.edgeFaults) ∧
      (∀ e, s.clock.latestEdge = some e → s.rate.nominal - 1 ≤ time - e → time - e ≤ s.rate.nominal + 1 →
        t.clock.window = s.clock.window.tail ++ [time - e] ∧ t.clock.edgeFaults = s.clock.edgeFaults ∧
        (s.clock.state = .locked → t.clock.state = .locked ∧ t.clock.acquisition = 256) ∧
        (s.clock.state = .locking → t.clock.acquisition = s.clock.acquisition + 1 ∧
          t.clock.state = if s.clock.acquisition + 1 = 256 then .locked else .locking)) ∧
      (∀ e, s.clock.latestEdge = some e → time - e < s.rate.nominal - 1 ∨ s.rate.nominal + 1 < time - e →
        t.clock.state = .locking ∧ t.clock.acquisition = 0 ∧ t.clock.window = s.clock.window ∧
        t.clock.edgeFaults = min 65535 (s.clock.edgeFaults + 1)) ∧
      t.causeSet .clockChange = (s.causeSet .clockChange || s.clock.state != t.clock.state) ∧
      (time - s.clock.latestBoundary < s.rate.half →
        t.clock.tag = s.clock.tag ∧ t.clock.latestBoundary = s.clock.latestBoundary ∧ t.clock.frameLength = s.clock.frameLength ∧
        t.clock.realigns = s.clock.realigns ∧ t.strips = s.strips ∧ t.peers = s.peers ∧ t.summer = s.summer ∧ t.group = s.group ∧
        t.surface = s.surface ∧ t.playback = s.playback ∧ t.pass = s.pass ∧ t.ports = s.ports ∧ t.tx = s.tx ∧
        t.engine = s.engine) ∧
      (s.rate.half ≤ time - s.clock.latestBoundary →
        t.clock.latestBoundary = time ∧ t.clock.frameLength = time - s.clock.latestBoundary ∧
        (marked = true ∧ t.clock.state = .locked → t.clock.tag = 0 ∧
          t.clock.realigns = if s.clock.tag + 1 = 0 then s.clock.realigns else min 65535 (s.clock.realigns + 1)) ∧
        (marked = false ∨ t.clock.state ≠ .locked → t.clock.tag = s.clock.tag + 1 ∧ t.clock.realigns = s.clock.realigns) ∧
        (t.expirySuperseded = true ↔ ∃ e, s.clock.latestEdge = some e ∧ e + s.rate.lossWindow ≤ time) ∧
        ∀ e, s.clock.latestEdge = some e → e + s.rate.lossWindow ≤ time → exec .lossWindowExpiry t = .next t)

/-- Holdover frames follow the measured period M exactly: from the expiry that entered HOLDOVER, the k-th holdover boundary comes
floor(k × M / 256) periods after it, so any 256 consecutive frames span M periods, every frame is q or q + 1 periods long, and the
unit stays in HOLDOVER with its window unchanged (R116). An expiry that came with an edge taken first enters no HOLDOVER (log entry 3). -/
def Obligations.HoldoverFramesSpanTheMeasuredPeriod : Prop :=
  ∀ (s : State) (e k : Nat), s.resetPin = false → s.clock.state = .locking ∨ s.clock.state = .locked →
    s.clock.latestEdge = some e → s.expirySuperseded = false →
    ∃ t, runAll (.lossWindowExpiry :: List.replicate k .holdoverBoundary) s = some t ∧
      t.clock.state = .holdover ∧ t.clock.window = s.clock.window ∧
      t.clock.latestBoundary = e + s.rate.lossWindow + k * s.clock.window.sum / 256 ∧
      t.clock.tag = s.clock.tag + BitVec.ofNat 8 (k + 1) ∧
      (1 ≤ k → t.clock.frameLength = s.clock.window.sum / 256 ∨ t.clock.frameLength = s.clock.window.sum / 256 + 1)

/-- Every step keeps the clock unit's invariant: 256 in-tolerance intervals in the window, a latest edge in LOCKING and LOCKED and in
no other state, 256 acquired edges in LOCKED and in no other state, and every count in its range (R108, R110, R112 to R116). -/
def Obligations.StepKeepsClockSafe : Prop :=
  ∀ s t : State, ClockSafe s → step s = .next t → ClockSafe t

/-! ### Gain arithmetic (chapter 1) -/

/-- The coefficient of code 0 is 0, and that of a code k from 1 to 1020 is the integer nearest to 4,194,304 × 10^((k − 900)/200),
here as the bounds c − 1/2 and c + 1/2 raised to the 200th power; the coefficients rise with the code, and the largest is
16,697,825 (R2). -/
def Obligations.CoefficientsAreTheRoundedPowersOfTen : Prop :=
  coefficient 0 = 0 ∧ coefficient 1020 = 16697825 ∧
  ∀ k : Nat, 1 ≤ k → k ≤ 1020 →
    coefficient (k - 1) < coefficient k ∧
    (2 * coefficient k - 1) ^ 200 * 10 ^ 900 ≤ 8388608 ^ 200 * 10 ^ k ∧
    8388608 ^ 200 * 10 ^ k < (2 * coefficient k + 1) ^ 200 * 10 ^ 900

/-- The product rule: the floor of (v × c + 2,097,152) / 4,194,304, saturated to the wide range; coefficient 0 gives 0, unity gives v,
and one half of an odd v rounds toward plus infinity (R4). -/
def Obligations.ProductRoundsHalvesUpAndSaturates : Prop :=
  ∀ v c : Int,
    (∃ n : Int, n * 4194304 ≤ v * c + 2097152 ∧ v * c + 2097152 < (n + 1) * 4194304 ∧
      product v c = if 2147483647 < n then 2147483647 else if n < -2147483648 then -2147483648 else n) ∧
    product v 0 = 0 ∧
    (-2147483648 ≤ v → v ≤ 2147483647 →
      product v 4194304 = v ∧ (v % 2 = 1 → 2 * product v 2097152 = v + 1))

/-- Fade scaling: with k = 256 the term is v, with k = 0 it is 0, and its magnitude never exceeds that of v (R17). Interpolated codes:
the quotient is truncated toward zero, the result lies between the two end codes, and at the end it is the end code (R18). -/
def Obligations.FadesAndInterpolationsStayBetweenTheirEnds : Prop :=
  (∀ (v : Int) (k : Nat), fadeTerm v 256 = v ∧ fadeTerm v 0 = 0 ∧
    (k ≤ 256 → (fadeTerm v k).natAbs ≤ v.natAbs) ∧
    256 * fadeTerm v k ≤ v * k + 128 ∧ v * k + 128 < 256 * (fadeTerm v k + 1)) ∧
  ∀ a b num den : Nat, a ≤ 1020 → b ≤ 1020 → 0 < den → num ≤ den →
    (interpolate a b num den : Int) = a + (((b : Int) - a) * num).tdiv den ∧
    min a b ≤ interpolate a b num den ∧ interpolate a b num den ≤ max a b ∧
    interpolate a b 0 den = a ∧ interpolate a b den den = b

/-- The course of a ramp. A new level target that is neither held nor current moves the gain by the truncated 64th of the difference at each
of 63 boundaries and to the target at the 64th, never outside the start and the target; a target already held changes nothing; a target that
equals current brings the ramp to rest (R11, R12, R15). The target held is the ramp's own for a premix master (`take`), and the one the latest
boundary left for a strip (`retarget`): of two targets a strip takes with no boundary between them only the second shows (R27; that this
holds of more than two, and of strips alone, is log entry 36). That an ended or settled ramp has step 0 and count 0 is log entry 20. A cut ramp
moves by 65,536 a boundary from where it stands to the end of its direction, also when it is reversed (R14). -/
def Obligations.RampsRunTheirCourse : Prop :=
  (∀ (r : LevelRamp) (g : Int),
    (g = r.target → r.take g = r) ∧
    (g ≠ r.target → g = r.current → r.take g = ⟨g, g, 0, 0, r.base⟩) ∧
    (∀ h : Int, (r.retarget h).retarget g = r.retarget g) ∧
    (g = r.base.target → r.retarget g = ⟨r.current, g, r.base.step, r.base.count, r.base⟩) ∧
    (g = r.target → r.base = r.course → r.retarget g = r) ∧
    (g ≠ r.base.target → g = r.current → r.retarget g = ⟨g, g, 0, 0, r.base⟩) ∧
    (g ≠ r.current → ∀ p : LevelRamp, (g ≠ r.target ∧ p = r.take g) ∨ (g ≠ r.base.target ∧ p = r.retarget g) → p.base = r.base ∧
      ∀ k : Nat,
        let q := LevelRamp.advance^[k] p
        (k ≤ 63 → q.current = r.current + k * (g - r.current).tdiv 64 ∧ q.course = ⟨g, (g - r.current).tdiv 64, 64 - k⟩) ∧
        (64 ≤ k → q.current = g ∧ q.course = ⟨g, 0, 0⟩) ∧ (1 ≤ k → q.base = q.course) ∧
        min r.current g ≤ q.current ∧ q.current ≤ max r.current g)) ∧
  ∀ (r : CutRamp) (k : Nat), r.wf →
    CutRamp.advance^[k] (r.take true) = ⟨max 0 (r.current - 65536 * k), .cutting⟩ ∧
    CutRamp.advance^[k] (r.take false) = ⟨min 4194304 (r.current + 65536 * k), .opening⟩

/-- Every frame boundary, whatever made it, advances each ramp of the strips and of the premix masters once (R12, R14) and changes
nothing else of a strip record; no other command but a reset and ENGINE RESTART moves a gain (R21, R27). -/
def Obligations.GainsMoveOnlyAtBoundaries : Prop :=
  ∀ (c : Instr) (s : State), s.resetPin = false → ∃ t, exec c s = .next t ∧
    (makesBoundary s c → ∀ i : Fin 64,
      t.strips[i] = { s.strips[i] with levelRamp := s.strips[i].levelRamp.advance, cutRamp := s.strips[i].cutRamp.advance } ∧
      t.summer.premix[i] = { s.summer.premix[i] with
        levelRamp := s.summer.premix[i].levelRamp.advance, cutRamp := s.summer.premix[i].cutRamp.advance }) ∧
    (¬ makesBoundary s c → ¬ isReset c → (∀ a d, c ≠ .engineRestart a d) → ∀ i : Fin 64,
      t.strips[i].levelRamp.current = s.strips[i].levelRamp.current ∧
      t.strips[i].cutRamp.current = s.strips[i].cutRamp.current ∧
      t.summer.premix[i].levelRamp.current = s.summer.premix[i].levelRamp.current ∧
      t.summer.premix[i].cutRamp.current = s.summer.premix[i].cutRamp.current)

/-- Every step keeps every ramp within its range, aimed at the coefficient of the level in force and in the direction of the cut in
force, with steps that never carry it past its target; every cut gain stays a multiple of 65,536 (R11, R12, R14, R15). -/
def Obligations.StepKeepsRampsSafe : Prop :=
  ∀ s t : State, RampsSafe s → step s = .next t → RampsSafe t

/-! ### Strips (chapter 2) -/

/-- A WRITE STRIP that is taken stores every field it carries, with the clamps of R35, and changes no written field of another strip, no send, no live
code and no present flag. A changed mode ends glide, latch and live cut, reads the strip in READ, TOUCH and LATCH, makes a touched one LIVE, and hands
it level and cut (R146, R144); a changed manual cut sets cut live in TOUCH and LATCH (R148); otherwise record and sources stand. A changed role leaves
the mastered set and the queue, or enters the mastered set with offset and cut enqueued at once, on a listen-only station taken at once; a GROUP
MASTER whose mode cut changes enqueues it at once; nothing else of the group line changes (R33, R34, R101, R102, R106). The journal takes the start of
a live cut, and at a changed mode the closings and what is live in the new mode (R157, R159). The fields are handed on in the order role, cut, mode
(log entry 14), LEVEL is enqueued before CUT (log entry 44), an enqueue in IDLE starts its message (R95) and takes the station to MESSAGE (R92, log
entry 12), where a changed mode finds no read level the store level code is kept (log entry 48), and the fields of a record that no rule names, those
of an ended glide among them, stand (log entry 52). A write that names no existing strip, carries data its layout does not allow, or would make a
second master of a group is refused with RANGE and changes nothing (R19, R34, R35). -/
def Obligations.WriteStripStoresItsFields : Prop :=
  ∀ (s : State) (address : BitVec 16) (data : List Byte), s.resetPin = false →
    (∀ (i : Fin 64) (x : StripData), address.toNat = i.val → i.val < s.rate.strips → readStripData data = some x →
      (∀ (g : Fin 32) (j : Fin 64), x.role = .groupMaster g → j ≠ i → j.val < s.rate.strips →
        s.strips[j].role ≠ .groupMaster g) →
      ∃ t, exec (.writeStrip address data) s = .next t ∧ t.control.reply = some ⟨.ok, []⟩ ∧
        t.strips[i].role = x.role ∧ t.strips[i].input = x.input ∧ t.strips[i].trim = max 780 (min 1020 x.trim) ∧
        t.strips[i].manualCut = x.manualCut ∧ t.strips[i].solo = x.solo ∧ t.strips[i].soloSafe = x.soloSafe ∧
        t.strips[i].groups = x.groups ∧ t.strips[i].mode = x.mode ∧ t.strips[i].glideSteps = min 3000 x.glideSteps ∧
        t.strips[i].staticCode = min 1020 x.staticCode ∧
        (∀ j : Fin 64, t.strips[j].sends = s.strips[j].sends ∧ t.strips[j].liveCode = s.strips[j].liveCode ∧
          t.strips[j].present = s.strips[j].present ∧ (j ≠ i → Strip.sameWritten t.strips[j] s.strips[j])) ∧
        t.clock = s.clock ∧ t.engine = s.engine ∧ t.tx = s.tx ∧ t.peers = s.peers ∧ t.summer = s.summer ∧
        t.surface = s.surface ∧ t.ports = s.ports ∧ t.playback.position = s.playback.position ∧
        t.playback.transport = s.playback.transport ∧ t.storeCount = s.storeCount ∧ t.pass.state = s.pass.state ∧
        t.group.soloLevel = s.group.soloLevel ∧
        (let a := s.playback.strips[i]
         let b := t.playback.strips[i]
         let before := s.strips[i]
         let after := t.strips[i]
         let modeChanged : Prop := before.mode ≠ x.mode
         let rides : Bool := x.mode.ridden
         let cutHandedOn : Bool := before.manualCut != x.manualCut && rides
         let liveCut : Bool := cutHandedOn && !a.cutLive && s.recordingNow && !s.pass.isOpen i .cut
         let position := s.playback.position
         let records : List Record :=
           (if liveCut then opening i .cut position (.cut x.manualCut) else []) ++
           (if before.mode = x.mode then [] else
             s.pass.closing i .level position (t.deskValue i .level) ++
             (if liveCut then [.punchOut i .cut position] else s.pass.closing i .cut position (.cut x.manualCut)) ++
             bothKinds fun k => if s.recordingNow && t.liveForRecording i k then opening i k position (t.deskValue i k) else [])
         (∀ j : Fin 64, j ≠ i → t.playback.strips[j] = s.playback.strips[j] ∧ s.strips[j].sameLevel t.strips[j] ∧
           s.strips[j].sameCut t.strips[j]) ∧
         (¬ modeChanged → b = { a with cutLive := a.cutLive || cutHandedOn } ∧ before.sameLevel after ∧
           (cutHandedOn = true → after.cutHanded b) ∧ (cutHandedOn = false → before.sameCut after)) ∧
         (modeChanged → b = { (if x.mode.reads then s.readingOf i else a) with
             phase := if rides && a.touched then .live else .follow, cutLive := false } ∧
           after.levelHanded b ∧ after.cutHanded b ∧ (after.levelSource = .desk → after.storeLevel = before.storeLevel)) ∧
         t.pass = s.pass.offers records ∧
         (t.causeSet .journalFull = true ↔ s.causeSet .journalFull = true ∨ s.pass.refusesSome records = true)) ∧
        (s.strips[i].role = .audio → x.role = .audio → t.group = s.group) ∧
        (StripsTuned s →
          (let before := s.strips[i]
           let stored := Strip.store x before
           let handedOn : Bool := before.manualCut != x.manualCut && x.mode.ridden
           let cuts : List Bool := [if handedOn then x.manualCut else stored.modeCut, t.strips[i].modeCut]
           let offset : Int := if stored.faderCode = 0 then -1020 else (stored.faderCode : Int) - 900
           let left : GroupLine := match before.role with
             | .audio => s.group
             | .groupMaster h => if x.role = .groupMaster h then s.group else s.group.givenUp h
           (x.role = .audio → t.group = { left with mastered := t.group.mastered }) ∧
           (∀ g : Fin 32, x.role = .groupMaster g → before.role = .groupMaster g →
             s.enqueues s.group (changedCuts g before.modeCut cuts) t.group) ∧
           (∀ g : Fin 32, x.role = .groupMaster g → before.role ≠ .groupMaster g →
             s.enqueues left ((.groupLevel, g.val, offset) :: (.groupCut, g.val, if stored.modeCut then 1 else 0) ::
               changedCuts g stored.modeCut cuts) t.group ∧ ∃ m ∈ t.group.mastered, m.group = g ∧ m.enqueued = offset) ∧
           ∀ m : Master, x.role ≠ .groupMaster m.group → before.role ≠ .groupMaster m.group →
             (m ∈ t.group.mastered ↔ m ∈ s.group.mastered)) ∧
          (∀ g : Fin 32, (∃ m ∈ t.group.mastered, m.group = g) ↔
            x.role = .groupMaster g ∨ (s.strips[i].role ≠ .groupMaster g ∧ ∃ m ∈ s.group.mastered, m.group = g)) ∧
          (∀ g : Fin 32, s.strips[i].role = .groupMaster g → x.role ≠ .groupMaster g → ∀ e ∈ t.group.queue, e.inFlight = none →
            e.key ≠ (.groupLevel, g.val) ∧ e.key ≠ (.groupCut, g.val)) ∧
          ∀ g : Fin 32, x.role = .groupMaster g → ∃ m ∈ t.group.mastered, m.group = g ∧
            m.offset = (if t.strips[i].faderCode = 0 then -1020 else (t.strips[i].faderCode : Int) - 900) ∧
            m.cut = t.strips[i].modeCut ∧
            (s.strips[i].role ≠ .groupMaster g →
              (s.strips[i].mode = x.mode → m.enqueued = m.offset) ∧
              (s.listenOnly = true →
                t.group.table[g] = ⟨max (-1020) (min 120 m.enqueued), m.cut, some s.straps.slot, true⟩) ∧
              (s.listenOnly = false → s.group.queue.length ≤ 36 →
                (∃ e ∈ t.group.queue, e.key = (.groupLevel, g.val) ∧ e.value = m.enqueued) ∧
                ∃ e ∈ t.group.queue, e.key = (.groupCut, g.val) ∧ e.value = if m.cut then 1 else 0)))) ∧
    (s.rate.strips ≤ address.toNat ∨ readStripData data = none ∨
      (∃ (i j : Fin 64) (g : Fin 32) (x : StripData), address.toNat = i.val ∧ readStripData data = some x ∧ x.role = .groupMaster g ∧
        j ≠ i ∧ j.val < s.rate.strips ∧ s.strips[j].role = .groupMaster g) →
      exec (.writeStrip address data) s = .next (s.setControl { s.control with reply := some ⟨.range, []⟩ }))

/-- WRITE SEND stores one send of an existing strip, its code at most 1020, and changes nothing else but the reply; it is refused with
RANGE where the strip, the send or the bus does not exist (R36). -/
def Obligations.WriteSendStoresOneSend : Prop :=
  ∀ (s : State) (address : BitVec 16) (number bus high low flags : Byte), s.resetPin = false →
    (∀ (i : Fin 64) (n : Fin 4) (b : Fin 128), address.toNat = i.val → i.val < s.rate.strips → number.toNat = n.val →
      bus.toNat = b.val →
      ∃ t, exec (.writeSend address [number, bus, high, low, flags]) s = .next t ∧ t.control.reply = some ⟨.ok, []⟩ ∧
        t.strips[i].sends[n] = ⟨b, min 1020 (256 * high.toNat + low.toNat), if flags.getLsbD 1 then .pre else .post,
          flags.getLsbD 0⟩ ∧
        (∀ m : Fin 4, m ≠ n → t.strips[i].sends[m] = s.strips[i].sends[m]) ∧
        t.strips[i] = { s.strips[i] with sends := t.strips[i].sends } ∧ (∀ j : Fin 64, j ≠ i → t.strips[j] = s.strips[j]) ∧
        t = (s.setStrips t.strips).setControl t.control ∧ t.control = { s.control with reply := t.control.reply }) ∧
    (s.rate.strips ≤ address.toNat ∨ 3 < number.toNat ∨ 127 < bus.toNat →
      exec (.writeSend address [number, bus, high, low, flags]) s =
        .next (s.setControl { s.control with reply := some ⟨.range, []⟩ }))

/-- WRITE OUTPUT stores the source of one entry of the output map; it is refused with RANGE where the entry, the bus, the strip or the
source kind does not exist (R167, R182). -/
def Obligations.WriteOutputStoresOneEntry : Prop :=
  ∀ (s : State) (address : BitVec 16) (kind number : Byte), s.resetPin = false →
    let takes (c : Fin 64) (source : OutputSource) : Prop :=
      ∃ t, exec (.writeOutput address [kind, number]) s = .next t ∧ t.control.reply = some ⟨.ok, []⟩ ∧
        t.ports.map[c] = source ∧ (∀ d : Fin 64, d ≠ c → t.ports.map[d] = s.ports.map[d]) ∧
        t.ports = { s.ports with map := t.ports.map } ∧ t = (s.setPorts t.ports).setControl t.control ∧
        t.control = { s.control with reply := t.control.reply }
    (∀ c : Fin 64, address.toNat = c.val → c.val < s.rate.strips →
      (kind = 0 → takes c .silence) ∧
      (∀ b : Fin 128, kind = 1 → number.toNat = b.val → takes c (.bus b)) ∧
      (∀ i : Fin 64, kind = 2 → number.toNat = i.val → i.val < s.rate.strips → takes c (.direct i))) ∧
    (s.rate.strips ≤ address.toNat ∨ 2 < kind.toNat ∨ (kind = 1 ∧ 127 < number.toNat) ∨
        (kind = 2 ∧ s.rate.strips ≤ number.toNat) →
      exec (.writeOutput address [kind, number]) s = .next (s.setControl { s.control with reply := some ⟨.range, []⟩ }))

/-- WRITE CALIBRATION stores L and H of one fader and sets the accept next mark; WRITE TOUCH stores the two thresholds and clears the
debounce count. Each is refused with RANGE in the cases its rule lists, and the record is then unchanged (R126, R131). -/
def Obligations.FaderWritesStoreOrRefuse : Prop :=
  ∀ (s : State) (address : BitVec 16) (a1 a0 b1 b0 : Byte), s.resetPin = false →
    let a := 256 * a1.toNat + a0.toNat
    let b := 256 * b1.toNat + b0.toNat
    let takes (c : Instr) (i : Fin 64) (f : Fader) : Prop :=
      ∃ t, exec c s = .next t ∧ t.control.reply = some ⟨.ok, []⟩ ∧ t.surface.faders[i] = f ∧
        (∀ j : Fin 64, j ≠ i → t.surface.faders[j] = s.surface.faders[j]) ∧
        t.surface = { s.surface with faders := t.surface.faders } ∧ t = (s.setSurface t.surface).setControl t.control ∧
        t.control = { s.control with reply := t.control.reply }
    let refuses (c : Instr) : Prop := exec c s = .next (s.setControl { s.control with reply := some ⟨.range, []⟩ })
    (∀ i : Fin 64, address.toNat = i.val → i.val < s.rate.strips →
      (a ≤ 4095 → b ≤ 4095 → a + 512 ≤ b →
        takes (.writeCalibration address [a1, a0, b1, b0]) i { s.surface.faders[i] with low := a, high := b, acceptNext := true }) ∧
      (1 ≤ a → 1 ≤ b → b ≤ a →
        takes (.writeTouch address [a1, a0, b1, b0]) i
          { s.surface.faders[i] with onThreshold := a, offThreshold := b, debounce := 0 })) ∧
    (s.rate.strips ≤ address.toNat ∨ 4095 < a ∨ 4095 < b ∨ b < a + 512 →
      refuses (.writeCalibration address [a1, a0, b1, b0])) ∧
    (s.rate.strips ≤ address.toNat ∨ a = 0 ∨ b = 0 ∨ a < b → refuses (.writeTouch address [a1, a0, b1, b0]))

/-- The strip engine processes the frame whose samples it holds. DIRECT of a strip is P(P(P(x, trim), g_cut), g_fader), 0 where the
strip is no existing AUDIO strip (R8, R32). Each premix bus that a send which is on targets gets one pair, the saturated sum of the
terms aimed at it, in ascending order (R28 to R30); each stem bus one held sum, unsaturated (R31). The premix list goes to the summer,
at most two lists held (R78), and starts or awaits the lane frame of the tag, with the entries of the lowest buses up to the capacity
and the pending B section consumed (R42, R43, R46); a listen-only station sends none (R50), and its pending B section stands (log entry 51). -/
def Obligations.StripFrameProcessFormsTheContributions : Prop :=
  ∀ (s : State) (samples : Vector Int 64), s.resetPin = false → s.engine.handed = some samples →
    ∃ (t : State) (own : BusList), exec .stripFrameProcess s = .next t ∧ t.engine.handed = none ∧
      t.engine.restarted = s.engine.restarted ∧
      t.ports = { s.ports with direct := some (Vector.ofFn fun i => s.stripOutput samples i) } ∧
      (own.map Prod.fst).Pairwise (· < ·) ∧
      (∀ (b : Nat) (v : Int), (b, v) ∈ own ↔ b < 64 ∧ s.aimsAt b ∧ v = satWide (s.sendSum samples b)) ∧
      (t.engine.heldStems.map Prod.fst).Pairwise (· < ·) ∧
      (∀ (b : Nat) (v : Int), (b, v) ∈ t.engine.heldStems ↔ 64 ≤ b ∧ b < 128 ∧ s.aimsAt b ∧ v = s.sendSum samples b) ∧
      t.summer = { s.summer with
        ownPremix := (s.summer.ownPremix ++ [(s.clock.serial, own)]).drop (s.summer.ownPremix.length - 1) } ∧
      (∀ f : LaneFrame, f = ⟨s.straps.slot, s.clock.state, s.clock.tag, s.summer.config.owned, own.take s.rate.capacity,
          s.tx.pendingB.take s.rate.capacity⟩ →
        (s.listenOnly = true → t.tx = s.tx ∧ t.control = s.control) ∧
        (s.listenOnly = false → s.tx.inFlight = none → t.tx = { s.tx with inFlight := some f, pendingB := [] }) ∧
        (s.listenOnly = false → s.tx.inFlight ≠ none → t.tx = { s.tx with waiting := some f, pendingB := [] }) ∧
        (s.listenOnly = false → t.causeSet .laneOverflow = (s.causeSet .laneOverflow || decide (s.rate.capacity < own.length) ||
          decide (s.rate.capacity < s.tx.pendingB.length)))) ∧
      t.strips = s.strips ∧ t.clock = s.clock ∧ t.peers = s.peers ∧ t.group = s.group ∧ t.surface = s.surface ∧
      t.playback = s.playback ∧ t.pass = s.pass

/-- The part drives the solo line exactly while it is not listen-only, RESET is not asserted, and some existing AUDIO strip has solo on (R24,
R105, R106, R173). A change of the solo line's level is held and reaches every existing AUDIO strip: its effective cut becomes on where its mode cut
is on, a group of it is cut, or solo is active and the strip is neither soloed nor solo safe, and its cut ramp points that way; no
effective level, no GROUP MASTER strip and nothing else changes (R23, R24, R105). -/
def Obligations.SoloLineChangeRecutsTheStrips : Prop :=
  (∀ s : State, s.soloDrive = true ↔ s.resetPin = false ∧ s.tx.drive = .driving ∧
    ∃ i : Fin 64, i.val < s.rate.strips ∧ s.strips[i].role = .audio ∧ s.strips[i].solo = true) ∧
  ∀ (s : State) (active : Bool), s.resetPin = false → StripsTuned s → RampsSafe s →
    ∃ t, exec (.soloLineChange active) s = .next t ∧ t.group = { s.group with soloLevel := active } ∧
      t = (s.setGroup t.group).setStrips t.strips ∧
      ∀ i : Fin 64,
        (s.hasStrip i = true → s.strips[i].role = .audio →
          t.strips[i].effCut = (s.strips[i].modeCut || s.strips[i].groups.any (fun g => s.group.table[g].cut) ||
            (active && !s.strips[i].solo && !s.strips[i].soloSafe)) ∧
          t.strips[i].cutRamp = ⟨s.strips[i].cutRamp.current, if t.strips[i].effCut then .cutting else .opening⟩ ∧
          t.strips[i] = { s.strips[i] with effCut := t.strips[i].effCut, cutRamp := t.strips[i].cutRamp }) ∧
        (s.hasStrip i = false ∨ s.strips[i].role ≠ .audio → t.strips[i] = s.strips[i])

/-- Every step keeps the effective level and cut of each existing AUDIO strip what R23 and R26 give from the values now held, and the
mastered set the groups that existing strips master, each once, with the offset and cut that R33 gives. Every step also keeps every
level code within 0 to 1020 and every other coded value of the strips, the automation engine, the journal and the faders in its range
(R3, R35, R138, R143). -/
def Obligations.StepKeepsStripsTunedAndCodesInRange : Prop :=
  (∀ s t : State, StripsTuned s → step s = .next t → StripsTuned t) ∧
  ∀ s t : State, CodesInRange s → step s = .next t → CodesInRange t

/-! ### Lanes (chapters 3 and 4) -/

/-- A lane frame with sections in order and within the capacity is read back whole from its bytes on its own lane, is malformed on
every other lane and with any other check, and is 14 bytes long and 5 more for each entry (R40, R41, R47, R48, R176). -/
def Obligations.LaneFrameReadsBack : Prop :=
  ∀ (rate : Rate) (f : LaneFrame),
    f.owned.Pairwise (· < ·) → (∀ p ∈ f.owned, p < 64) →
    (f.a.map Prod.fst).Pairwise (· < ·) → (∀ e ∈ f.a, e.1 < 64) → f.a.length ≤ rate.capacity →
    (f.b.map Prod.fst).Pairwise (· < ·) → (∀ e ∈ f.b, 64 ≤ e.1 ∧ e.1 < 128) → f.b.length ≤ rate.capacity →
    (∀ e ∈ f.a ++ f.b, -2147483648 ≤ e.2 ∧ e.2 ≤ 2147483647) →
    readLaneFrame rate f.slot (laneFrameBytes f) = some f ∧
    (∀ lane : Fin 16, lane ≠ f.slot → readLaneFrame rate lane (laneFrameBytes f) = none) ∧
    (∀ high low : Byte, [high, low] ≠ beBytes 2 (crc16 (laneFrameBody f)).toNat →
      readLaneFrame rate f.slot (laneFrameBody f ++ [high, low]) = none) ∧
    (laneFrameBytes f).length = 14 + 5 * (f.a.length + f.b.length)

/-- A frame arrival on a peer lane changes that peer's queue and counters and nothing else: a malformed frame is counted, a late one is
stale, one that goes back or repeats replaces the queue, and any other joins the queue, pushing the head out of a full one (R58, R59).
A frame on the own lane is not taken (R38, R55). -/
def Obligations.FrameArrivalIsTakenByItsPeer : Prop :=
  ∀ (s : State) (lane : Fin 16) (bytes : List Byte), s.resetPin = false →
    (lane = s.straps.slot → exec (.frameArrival lane bytes) s = .next s) ∧
    (lane ≠ s.straps.slot →
      let p := s.peers[lane]
      let becomes (q : Peer) : Prop := exec (.frameArrival lane bytes) s = .next (s.setPeers (s.peers.set lane q))
      (readLaneFrame s.rate lane bytes = none → becomes { p with malformed := min 65535 (p.malformed + 1) }) ∧
      ∀ f : LaneFrame, readLaneFrame s.rate lane bytes = some f →
        (tagDiff f.tag s.clock.tag < 0 → becomes { p with stale := min 65535 (p.stale + 1) }) ∧
        (0 ≤ tagDiff f.tag s.clock.tag → ∀ older newest, p.queue = older ++ [newest] →
          (tagDiff f.tag newest.tag ≤ 0 → becomes { p with queue := [f], realign := min 65535 (p.realign + 1) }) ∧
          (0 < tagDiff f.tag newest.tag → p.queue.length < 4 → becomes { p with queue := p.queue ++ [f] }) ∧
          (0 < tagDiff f.tag newest.tag → 4 ≤ p.queue.length →
            becomes { p with queue := p.queue.tail ++ [f], overrun := min 65535 (p.overrun + 1) })) ∧
        (0 ≤ tagDiff f.tag s.clock.tag → p.queue = [] → becomes { p with queue := [f] }))

/-- The completion of the own frame in flight: a match clears the mismatch count, a first mismatch counts, and the waiting frame
starts; a second mismatch declares a slot conflict, after which the station is listen-only, nothing is in flight or waits, the send
queue is empty, the solo line is released and SLOT CONFLICT is set (R43, R51, R52, R106); the pending B section is kept (log entry 51). -/
def Obligations.LaneFrameCompletionComparesTheReadBack : Prop :=
  ∀ (s : State) (f : LaneFrame) (readBack : List Byte) (clean : Bool), s.resetPin = false → s.tx.inFlight = some f →
    let continues (count : Nat) : Prop := exec (.laneFrameCompletion readBack clean) s =
      .next (s.setTx { s.tx with inFlight := s.tx.waiting, waiting := none, mismatches := count })
    (readBack = laneFrameBytes f ∧ clean = true → continues 0) ∧
    (readBack ≠ laneFrameBytes f ∨ clean = false →
      (s.tx.mismatches = 0 → continues 1) ∧
      (1 ≤ s.tx.mismatches → ∃ t, exec (.laneFrameCompletion readBack clean) s = .next t ∧
        t.tx = ⟨.conflictSilent, none, none, s.tx.pendingB, 0⟩ ∧
        t.group = { s.group with queue := [] } ∧ t.causeSet .slotConflict = true ∧ t.listenOnly = true ∧ t.soloDrive = false ∧
        (∀ c, c ≠ .slotConflict → t.causeSet c = s.causeSet c) ∧
        t = ((s.setTx t.tx).setGroup t.group).setControl t.control))

/-- At every frame boundary each peer's record and queue move as R60, R62 and R63 say: every frame older than the tag that the boundary ends
leaves as stale, and no other, but for an earlier one of two with one tag (log entry 42); a frame of that tag is then at the head, is taken
on time, becomes the last used frame, and moves the state up; otherwise the request is missed, the frames left are newer, and the state
moves down. The frames left ascend from the tag requested, where a realign had them out of order too (log entry 42). The fade position is 0
on entering LIVE from ACQUIRING and on entering ABSENT, and rises after each request that leaves the peer LIVE or HOLD (R65, R66); PEER
CHANGE is raised exactly at the transitions R67 names. -/
def Obligations.DueRequestMovesEveryPeer : Prop :=
  ∀ (c : Instr) (s : State), s.resetPin = false → makesBoundary s c → (∀ j : Fin 16, s.peers[j].safe) →
    ∃ t, exec c s = .next t ∧
      (t.causeSet .peerChange = true ↔ s.causeSet .peerChange = true ∨ ∃ j : Fin 16,
        (s.peers[j].state = .absent ∧ t.peers[j].state ≠ .absent) ∨ (s.peers[j].state ≠ .absent ∧ t.peers[j].state = .absent) ∨
        (s.peers[j].state = .acquiring ∧ t.peers[j].state = .live)) ∧
      t.peers[s.straps.slot] = s.peers[s.straps.slot] ∧
      ∀ j : Fin 16, j ≠ s.straps.slot → ∃ kept : List LaneFrame,
        let p := s.peers[j]
        let q := t.peers[j]
        let ahead (f : LaneFrame) : Int := tagDiff f.tag s.clock.tag
        (∀ f ∈ kept, f ∈ p.queue ∧ 0 ≤ ahead f) ∧ kept.Pairwise (fun f g => ahead f < ahead g) ∧
        (∀ before f after, p.queue = before ++ f :: after → 0 ≤ ahead f → (∀ g ∈ after, g.tag ≠ f.tag) → f ∈ kept) ∧
        q.stale = min 65535 (p.stale + (p.queue.length - kept.length)) ∧
        ((p.queue.map LaneFrame.tag).Nodup → kept.length + p.queue.countP (fun f => decide (ahead f < 0)) = p.queue.length) ∧
        q.overrun = p.overrun ∧ q.malformed = p.malformed ∧ q.realign = p.realign ∧
        (∀ f ∈ kept, f.tag = s.clock.tag →
          kept = f :: q.queue ∧ q.last = some f ∧ q.good = min 16 (p.good + 1) ∧ q.miss = 0 ∧ q.used = min 65535 (p.used + 1) ∧
          q.missed = p.missed ∧
          q.state = match p.state with
            | .absent => .acquiring
            | .acquiring => if p.good + 1 = 16 then .live else .acquiring
            | .live => .live
            | .hold => .live
            | .gap => .live) ∧
        ((∀ f ∈ kept, f.tag ≠ s.clock.tag) →
          q.queue = kept ∧ q.good = 0 ∧ q.miss = min 8 (p.miss + 1) ∧ q.missed = min 65535 (p.missed + 1) ∧ q.used = p.used ∧
          (q.state = match p.state with
            | .absent => .absent
            | .acquiring => if p.miss + 1 = 8 then .absent else .acquiring
            | .live => .hold
            | .hold => if p.miss + 1 = 2 then .hold else .gap
            | .gap => if p.miss + 1 = 8 then .absent else .gap) ∧
          q.last = if q.state = .absent then none else p.last) ∧
        q.fade = if q.state = .absent then 0
          else if q.state = .live ∨ q.state = .hold then (if p.state = .acquiring then 1 else min 256 (p.fade + 1))
          else p.fade

/-- Every step keeps every peer record consistent (state, counts, fade position and last used frame agree as R62 to R66 move them, the
queue at most 4 frames, each newer than the one before it), the lane transmitter idle while the station is listen-only, and a waiting
frame only behind one in flight (R43, R50, R52, R57). -/
def Obligations.StepKeepsLanesSafe : Prop :=
  ∀ s t : State, LanesSafe s → step s = .next t → LanesSafe t

/-! ### Bus summer (chapter 5) -/

/-- WRITE PREMIX stores a master's fields, gives its ramps their new target and direction where level code and cut changed, and marks
the channel in the pending owned set only; WRITE WINDOW stores a window in the pending copy only. The copy in force is unchanged until
a boundary. Each is refused with RANGE in the cases its rule lists, the ownership limit among them (R73, R74, R75, R83). -/
def Obligations.PremixAndWindowWritesReachThePendingCopy : Prop :=
  (∀ (s : State) (address : BitVec 16) (flags l1 l0 x a1 a0 y b1 b0 : Byte), s.resetPin = false → s.summer.pending.safe s.rate →
    let write : Instr := .writePremix address [flags, l1, l0, x, a1, a0, y, b1, b0]
    let allowed (target : Byte) : Prop := target.toNat ≤ 63 ∨ target = 0xFF#8
    let full : Prop := flags.getLsbD 0 = true ∧ address.toNat ∉ s.summer.pending.owned ∧
      s.rate.capacity ≤ s.summer.pending.owned.length
    (∀ p : Fin 64, address.toNat = p.val → allowed x → allowed y → ¬ full →
      ∃ t, exec write s = .next t ∧ t.control.reply = some ⟨.ok, []⟩ ∧
        (let code := min 1020 (256 * l1.toNat + l0.toNat)
         let before := s.summer.premix[p]
         let after := t.summer.premix[p]
         after.code = code ∧ after.cut = flags.getLsbD 1 ∧
         after.levelRamp = (if code = before.code then before.levelRamp else before.levelRamp.take (coefficient code)) ∧
         after.cutRamp = (if after.cut = before.cut then before.cutRamp else before.cutRamp.take after.cut) ∧
         after.send0.target.map Fin.val = (if x = 0xFF#8 then none else some x.toNat) ∧
         after.send1.target.map Fin.val = (if y = 0xFF#8 then none else some y.toNat) ∧
         after.send0.code = min 1020 (256 * a1.toNat + a0.toNat) ∧ after.send1.code = min 1020 (256 * b1.toNat + b0.toNat)) ∧
        (∀ q : Fin 64, q ≠ p → t.summer.premix[q] = s.summer.premix[q]) ∧
        (∀ q : Nat, q ∈ t.summer.pending.owned ↔ if q = p.val then flags.getLsbD 0 = true else q ∈ s.summer.pending.owned) ∧
        t.summer.pending.windows = s.summer.pending.windows ∧ t.summer.pending.safe s.rate ∧
        t.summer = { s.summer with pending := t.summer.pending, premix := t.summer.premix } ∧
        t = (s.setSummer t.summer).setControl t.control ∧ t.control = { s.control with reply := t.control.reply }) ∧
    (63 < address.toNat ∨ ¬ allowed x ∨ ¬ allowed y ∨ full →
      exec write s = .next (s.setControl { s.control with reply := some ⟨.range, []⟩ }))) ∧
  ∀ (s : State) (address : BitVec 16) (base mask enable : Byte), s.resetPin = false → s.summer.pending.safe s.rate →
    (∀ n : Fin 4, address.toNat = n.val → base.toNat ≤ 127 → mask.toNat ≤ 127 → enable.toNat ≤ 1 →
      ∃ t, exec (.writeWindow address [base, mask, enable]) s = .next t ∧ t.control.reply = some ⟨.ok, []⟩ ∧
        t.summer.pending.windows[n].base.toNat = base.toNat ∧ t.summer.pending.windows[n].mask.toNat = mask.toNat ∧
        (t.summer.pending.windows[n].enabled = true ↔ enable = 1) ∧
        (∀ m : Fin 4, m ≠ n → t.summer.pending.windows[m] = s.summer.pending.windows[m]) ∧
        t.summer.pending.owned = s.summer.pending.owned ∧ t.summer.pending.safe s.rate ∧
        t.summer = { s.summer with pending := t.summer.pending } ∧
        t = (s.setSummer t.summer).setControl t.control ∧ t.control = { s.control with reply := t.control.reply }) ∧
    (3 < address.toNat ∨ 127 < base.toNat ∨ 127 < mask.toNat ∨ 1 < enable.toNat →
      exec (.writeWindow address [base, mask, enable]) s = .next (s.setControl { s.control with reply := some ⟨.range, []⟩ }))

/-- A window that is enabled selects the buses that agree with its base in every bit its mask leaves clear (R73). The accumulation set
built from an owned set and four windows holds each bus once and at most the capacity, begins with the owned channels, goes on with
selected buses ascending, leaves out only selected buses above every one it holds, and is marked oversubscribed exactly where it leaves
one out (R75). -/
def Obligations.AccumulationSetHoldsOwnedThenLowestSelected : Prop :=
  (∀ (w : Window) (b : Nat), b < 128 →
    (w.selects b = true ↔ w.enabled = true ∧ ∀ k : Nat, k < 7 → w.mask.getLsbD k = false → b.testBit k = w.base.getLsbD k)) ∧
  ∀ (rate : Rate) (owned : List Nat) (windows : Vector Window 4),
    owned.Pairwise (· < ·) → (∀ p ∈ owned, p < 64) → owned.length ≤ rate.capacity →
    ∃ rest : List Nat, (buildConfig rate owned windows).buses = owned ++ rest ∧ rest.Pairwise (· < ·) ∧
      (owned ++ rest).length ≤ rate.capacity ∧
      (∀ b ∈ rest, b < 128 ∧ b ∉ owned ∧ ∃ n : Fin 4, windows[n].selects b = true) ∧
      (∀ (b : Nat) (n : Fin 4), b < 128 → windows[n].selects b = true → b ∉ owned → b ∉ rest →
        (∀ r ∈ rest, r < b) ∧ (owned ++ rest).length = rate.capacity) ∧
      ((buildConfig rate owned windows).oversubscribed = true ↔
        ∃ (b : Nat) (n : Fin 4), b < 128 ∧ windows[n].selects b = true ∧ b ∉ owned ∧ b ∉ rest)

/-- Every frame boundary puts the pending configuration in force and forms a total for each bus of its accumulation set and for no
other: the own contribution of the sample, unless the station is listen-only, plus the fade-scaled entry of each peer that is LIVE or
HOLD after its due request, saturated (R6, R17, R64, R66, R72, R76, R78, R79, R81). Premix totals take the own premix list of the
sample ended and the A entries, stem totals the own stem list of the sample before and the B entries. At the first boundary after ENGINE RESTART the
own contributions are 0 (R91; that this holds of a frame processed between the two as well is log entry 27). -/
def Obligations.BoundaryFormsTheTotals : Prop :=
  ∀ (c : Instr) (s : State), s.resetPin = false → makesBoundary s c →
    ∃ t, exec c s = .next t ∧ t.summer.config = s.summer.pending ∧ t.summer.pending = s.summer.pending ∧
      t.ports.totalsHanded = true ∧
      ∀ b : Nat, b < 128 → t.ports.totals.lookup b =
        if b ∈ s.summer.pending.buses then
          some (satWide ((if s.listenOnly then 0 else s.ownContribution b) + ∑ j : Fin 16, peerTerm s t b j))
        else none

/-- At every frame boundary each channel of the owned set in force is suspended exactly where a peer of a lower slot, LIVE or HOLD after
its due request, announces it (R85), and PREMIX CONFLICT is raised for one newly found so (R85, R86); WINDOW OVERSUBSCRIBED is raised
where an oversubscribed copy that differs from the one in force comes into force (R76; that it is raised also where the copy builds the
same bus set is the model's choice, log entry 43). A bus that stays in the set keeps its meter, the others start at 0, each total updates
its bus's meter, and OVER is raised where an over count leaves 0 (R77, R87). -/
def Obligations.BoundaryJudgesOwnersAndMeters : Prop :=
  ∀ (c : Instr) (s : State), s.resetPin = false → makesBoundary s c → SummerSafe s →
    ∃ t, exec c s = .next t ∧
      (∀ p : Nat, p ∈ t.summer.suspended ↔ p ∈ s.summer.pending.owned ∧ ∃ (j : Fin 16) (f : LaneFrame), j < s.straps.slot ∧
        (t.peers[j].state = .live ∨ t.peers[j].state = .hold) ∧ t.peers[j].last = some f ∧ p ∈ f.owned) ∧
      (t.causeSet .premixConflict = true ↔ s.causeSet .premixConflict = true ∨
        ∃ p ∈ t.summer.suspended, p ∉ s.summer.suspended) ∧
      (t.causeSet .windowOversubscribed = true ↔ s.causeSet .windowOversubscribed = true ∨
        (s.summer.pending ≠ s.summer.config ∧ s.summer.pending.oversubscribed = true)) ∧
      (∀ b : Fin 128,
        let before : Meter := if b.val ∈ s.summer.config.buses ∧ b.val ∈ s.summer.pending.buses then s.summer.meters[b] else ⟨0, 0⟩
        t.summer.meters[b] = match t.ports.totals.lookup b.val with
          | none => before
          | some v => ⟨max before.peak v.natAbs, if 8388607 < v.natAbs then min 65535 (before.overCount + 1) else before.overCount⟩) ∧
      (t.causeSet .busOver = true ↔ s.causeSet .busOver = true ∨ ∃ b : Fin 128, t.summer.meters[b].overCount ≠ 0 ∧
        (s.summer.meters[b].overCount = 0 ∨ b.val ∉ s.summer.pending.buses))

/-- At every frame boundary each owned channel that is not suspended gives the premix-to-stem terms of its master applied to its premix total, with
the gains after the boundary's advance (R9, R84), and the own stem contributions are completed: one pair, ascending, for each stem bus that a held sum
or such a term targets, with the saturated sum; at the first boundary after an ENGINE RESTART the terms alone (R31). The list becomes the pending B
section, unless the station is listen-only (R42, R50; what was pending then stands: log entry 51), and the summer's newest own stem list (R78); the
held sums are released. -/
def Obligations.BoundaryCompletesTheStems : Prop :=
  ∀ (c : Instr) (s : State), s.resetPin = false → makesBoundary s c →
    let held : BusList := if s.engine.restarted then [] else s.engine.heldStems
    ∃ (t : State) (l : BusList), exec c s = .next t ∧ t.engine.heldStems = [] ∧ t.engine.restarted = false ∧
      (l.map Prod.fst).Pairwise (· < ·) ∧
      (∀ (b : Nat) (v : Int), (b, v) ∈ l ↔ 64 ≤ b ∧ b < 128 ∧
        ((∃ w, (b, w) ∈ held) ∨ ∃ (p : Fin 64) (k : Fin 2), t.masterAims b p k) ∧
        v = satWide (((held.filter fun e => e.1 == b).map Prod.snd).sum +
          ∑ p : Fin 64, ∑ k : Fin 2, t.masterTerm b p k)) ∧
      t.tx = (if s.listenOnly then s.tx else { s.tx with pendingB := l }) ∧
      t.summer.ownStem = (s.summer.ownStem ++ [(s.clock.serial, l)]).drop (s.summer.ownStem.length - 1) ∧
      t.summer.ownPremix = s.summer.ownPremix

/-- The reads that clear: READ METERS clears the meters of the buses it names (R88), READ PEERS the six counters of the peer slots it
names (R68, R69), and READ STATUS the counters that R104, R119, R135 and R151 name; each replies OK with its report, formed before the
clearing, and changes nothing else. The report of a bus is its mark, peak and over count; of a slot every value R69 lists; of the part the
blocks of R173, each with the values its rule lists, in the sizes and codes of R182 (where the layout is an inference, the count before the
entries and the one mark of an empty last used frame among it: log entry 23). A run of none, or one past the end, is refused with RANGE. -/
def Obligations.ReadsClearWhatTheyReport : Prop :=
  ∀ (s : State) (address : BitVec 16) (n : Byte), s.resetPin = false →
    let first := address.toNat
    let two (v : Int) : List Byte := beSigned 2 v
    let four (v : Int) : List Byte := beSigned 4 v
    let clock (c : ClockState) : List Byte := placeOf [.free, .locking, .locked, .holdover] c
    let meter (b : Fin 128) : List Byte :=
      if b.val ∈ s.summer.config.buses then fields [[1], four s.summer.meters[b].peak, two s.summer.meters[b].overCount]
      else List.replicate 7 0
    let slot (j : Fin 16) : List Byte :=
      let p := s.peers[j]
      let owned := (p.last.map LaneFrame.owned).getD []
      let a := (p.last.map LaneFrame.a).getD []
      let b := (p.last.map LaneFrame.b).getD []
      if j = s.straps.slot then 5 :: List.replicate 32 0
      else fields [placeOf [.absent, .acquiring, .live, .hold, .gap] p.state, two p.good, two p.miss, two p.fade,
        listed (p.queue.map fun f => [f.tag]), orNone 2 (p.last.map fun f => f.tag :: clock f.clock), setBytes 8 owned,
        listed (a.map fun e => beBytes 1 e.1), listed (b.map fun e => beBytes 1 e.1),
        two p.used, two p.missed, two p.stale, two p.overrun, two p.malformed, two p.realign]
    let straps := fields [beBytes 1 s.straps.slot, placeOf [.khz48, .khz96] s.straps.rate, flagByte s.straps.listenOnly]
    let inputs := fields (s.ports.inputs.toList.map fun p => [if p.running then 0 else 1])
    let clockUnit := fields [clock s.clock.state, [s.clock.tag], two s.clock.acquisition, four s.clock.window.sum, four s.clock.frameLength,
      two s.clock.realigns, two s.clock.edgeFaults]
    let drive := placeOf [.driving, .strapSilent, .conflictSilent] s.tx.drive
    let summer := fields [setBytes 8 s.summer.config.owned, setBytes 16 s.summer.config.buses, setBytes 8 s.summer.suspended,
      flagByte (decide (s.summer.pending ≠ s.summer.config)), flagByte s.listenOnly]
    let groupLine := fields [two s.group.sent, two s.group.taken, two s.group.lineErrors, two s.group.losses, two s.group.drops,
      placeOf [.seeking, .idle, .message] s.group.line, two s.group.queue.length,
      orNone 4 (s.group.sending.map fun e => fields
        [placeOf [.passOpen, .passClose, .groupCut, .groupLevel] e.kind, beBytes 1 e.number, two e.value]),
      setBytes 4 (s.group.mastered.map fun m => m.group.val),
      fields (s.group.table.toList.map fun e => fields
        [two e.offset, flagByte e.cut, orNone 1 (e.sender.map fun j => beBytes 1 j.val), flagByte e.heard]),
      flagByte s.soloDrive, flagByte s.group.soloLevel]
    let surface := fields [placeOf [.silent, .active] s.surface.link, two s.surface.scanErrors,
      listed ((s.surface.faders.toList.take s.rate.strips).map fun f => fields
        [flagByte f.present, flagByte f.touched, orNone 2 (f.baseline.map fun v => two v), two f.lastCode, two f.low, two f.high,
          two f.onThreshold, two f.offThreshold])]
    let playback := fields [beBytes 6 s.playback.position, placeOf [.stopped, .playing, .shuttling] s.playback.transport, two s.storeCount,
      two s.playback.positionErrors, two s.playback.jumps]
    let pass := fields [placeOf [.idle, .recording, .review, .merging] s.pass.state, orNone 1 (s.pass.number.map fun v => beBytes 1 v),
      two s.pass.journal.length, two (moveRecords s.pass.journal), two (punchInRecords s.pass.journal), two s.pass.openPunches,
      two s.pass.free, flagByte s.pass.incomplete, orNone 1 (s.pass.missed.map fun v => beBytes 1 v), two s.pass.mergeList.length,
      two s.pass.stripsDone]
    (1 ≤ n.toNat → first + n.toNat ≤ 128 → ∃ t, exec (.readMeters address [n]) s = .next t ∧
      t.control = { s.control with
        reply := some ⟨.ok, n :: (List.range n.toNat).flatMap fun k => meter (Fin.ofNat 128 (first + k))⟩ } ∧
      (∀ b : Fin 128, t.summer.meters[b] = if first ≤ b.val ∧ b.val < first + n.toNat then ⟨0, 0⟩ else s.summer.meters[b]) ∧
      t = (s.setSummer { s.summer with meters := t.summer.meters }).setControl t.control) ∧
    (n.toNat = 0 ∨ 128 < first + n.toNat →
      exec (.readMeters address [n]) s = .next (s.setControl { s.control with reply := some ⟨.range, []⟩ })) ∧
    (1 ≤ n.toNat → first + n.toNat ≤ 16 → ∃ t, exec (.readPeers address [n]) s = .next t ∧
      t.control = { s.control with
        reply := some ⟨.ok, n :: (List.range n.toNat).flatMap fun k => slot (Fin.ofNat 16 (first + k))⟩ } ∧
      (∀ j : Fin 16, t.peers[j] = if j ≠ s.straps.slot ∧ first ≤ j.val ∧ j.val < first + n.toNat then
        { s.peers[j] with used := 0, missed := 0, stale := 0, overrun := 0, malformed := 0, realign := 0 } else s.peers[j]) ∧
      t = (s.setPeers t.peers).setControl t.control) ∧
    (n.toNat = 0 ∨ 16 < first + n.toNat →
      exec (.readPeers address [n]) s = .next (s.setControl { s.control with reply := some ⟨.range, []⟩ })) ∧
    ∃ t, exec (.readStatus 0 []) s = .next t ∧
      t.control = { s.control with
        reply := some ⟨.ok, fields [straps, inputs, clockUnit, drive, summer, groupLine, surface, playback, pass]⟩ } ∧
      t.clock = { s.clock with realigns := 0, edgeFaults := 0 } ∧
      t.group = { s.group with sent := 0, taken := 0, lineErrors := 0, losses := 0, drops := 0 } ∧
      t.surface = { s.surface with scanErrors := 0 } ∧ t.playback = { s.playback with positionErrors := 0, jumps := 0 } ∧
      t = ((((s.setClock t.clock).setGroup t.group).setSurface t.surface).setPlayback t.playback).setControl t.control

/-- Every step keeps both configurations as R75 builds them, within the capacity, with only owned channels suspended, meters only in the
accumulation set and within their ranges, and at most two own lists of a kind held (R74, R75, R77, R78, R86, R87). -/
def Obligations.StepKeepsSummerSafe : Prop :=
  ∀ s t : State, SummerSafe s → step s = .next t → SummerSafe t

/-! ### Group line and solo line (chapter 6) -/

/-- A message of any kind is taken back from the bits it is sent as, and a 38-bit word is taken only where it is the bits of the message
it gives: end bits, check, class and group number all agree (R93, R94, R98, R177). -/
def Obligations.GroupMessageReadsBack : Prop :=
  (∀ m : Message, m.number < 256 → (m.kind = .groupCut ∨ m.kind = .groupLevel → m.number < 32) → -2048 ≤ m.value → m.value ≤ 2047 →
    readMessage (messageBits m) = some m) ∧
  ∀ (bits : BitVec 38) (m : Message), readMessage bits = some m → messageBits m = bits

/-- The end of a message that the station is not sending. A message that fails a test is counted as a line error and raises LINE ERROR
(R98). A GROUP LEVEL or GROUP CUT that is taken sets its entry of the group table, the offset clamped, with the sender and the heard
flag (R100); every existing AUDIO strip then stands at the level and cut of the table, strips outside the group are untouched, and
GROUP CONFLICT is raised exactly where another slot sent it and the station masters the group (R26, R23, R100). The line state becomes
SEEKING, its run of recessive bits 0 (log entry 13). -/
def Obligations.GroupMessageEndReachesTheTable : Prop :=
  ∀ (s : State) (bits : BitVec 38), s.resetPin = false → s.group.line = .message → s.group.sending = none → StripsTuned s →
    (readMessage bits = none → ∃ t, exec (.groupMessageEnd bits) s = .next t ∧
      t.group = { s.group with line := .seeking, recessiveRun := 0, lineErrors := min 65535 (s.group.lineErrors + 1) } ∧
      t.causeSet .lineError = true ∧ (∀ c, c ≠ .lineError → t.causeSet c = s.causeSet c) ∧
      t = (s.setGroup t.group).setControl t.control) ∧
    ∀ (m : Message) (g : Fin 32), readMessage bits = some m → m.number = g.val → m.kind = .groupLevel ∨ m.kind = .groupCut →
      ∃ t, exec (.groupMessageEnd bits) s = .next t ∧
        t.group = { s.group with
          line := .seeking, recessiveRun := 0, taken := min 65535 (s.group.taken + 1)
          table := s.group.table.set g
            ⟨if m.kind = .groupLevel then max (-1020) (min 120 m.value) else s.group.table[g].offset,
              if m.kind = .groupCut then decide (m.value ≠ 0) else s.group.table[g].cut, some m.slot, true⟩ } ∧
        (t.causeSet .groupConflict = true ↔ s.causeSet .groupConflict = true ∨
          (m.slot ≠ s.straps.slot ∧ ∃ x ∈ s.group.mastered, x.group = g)) ∧
        (∀ i : Fin 64, s.hasStrip i = true → s.strips[i].role = .audio →
          t.strips[i].effLevel = (if s.strips[i].faderCode = 0 then 0
            else clampCode (s.strips[i].faderCode + (s.strips[i].groups.map fun h => t.group.table[h].offset).sum)) ∧
          t.strips[i].effCut = (s.strips[i].modeCut || s.strips[i].groups.any (fun h => t.group.table[h].cut) ||
            (s.group.soloLevel && !s.strips[i].solo && !s.strips[i].soloSafe))) ∧
        (∀ i : Fin 64, g ∉ s.strips[i].groups → t.strips[i] = s.strips[i]) ∧
        t = ((s.setGroup t.group).setStrips t.strips).setControl t.control

/-- The end of the station's own message, read back as sent: it is counted as sent and as taken, and its entry leaves the queue where its value
is still the value sent, and otherwise stays in its place with the mark cleared (R97). A GROUP LEVEL or GROUP CUT enters the own group table
like any other, and its entry leaves the queue also where the group is no longer mastered; nothing else changes but strips of the group (R97,
R99, R100). A PASS OPEN or PASS CLOSE leaves table
and mastered set alone; where a PASS CLOSE ends the pass, and with it latches and live cuts, the GROUP CUTs of masters whose cut changes are
enqueued after the own entry is settled (R99, R102, R149, log entries 46 and 50). The run of recessive bits is then 0 (log entry 13). -/
def Obligations.OwnMessageEndSettlesItsEntry : Prop :=
  ∀ (s : State) (pre post : List QueueEntry) (e : QueueEntry) (v : Int), s.resetPin = false → s.group.line = .message →
    s.group.queue = pre ++ e :: post → (∀ x ∈ pre ++ post, x.inFlight = none) → e.inFlight = some v →
    (s.group.queue.map QueueEntry.key).Nodup → -2048 ≤ v → v ≤ 2047 →
    let ended : Instr := .groupMessageEnd (messageBits ⟨e.kind, s.straps.slot, e.number, v⟩)
    (∀ g : Fin 32, e.kind = .groupLevel ∨ e.kind = .groupCut → e.number = g.val →
      ∃ t, exec ended s = .next t ∧
        t.group.sent = min 65535 (s.group.sent + 1) ∧ t.group.taken = min 65535 (s.group.taken + 1) ∧ t.group.line = .seeking ∧
        t.group.table[g].sender = some s.straps.slot ∧ t.group.table[g].heard = true ∧
        (e.kind = .groupLevel → t.group.table[g].offset = max (-1020) (min 120 v)) ∧
        (e.kind = .groupCut → t.group.table[g].cut = decide (v ≠ 0)) ∧
        (e.value = v ∨ (∀ m ∈ s.group.mastered, m.group ≠ g) → t.group.queue = pre ++ post) ∧
        (e.value ≠ v → (∃ m ∈ s.group.mastered, m.group = g) → t.group.queue = pre ++ { e with inFlight := none } :: post) ∧
        (e.kind = .groupLevel → t.group.table[g].cut = s.group.table[g].cut) ∧
        (e.kind = .groupCut → t.group.table[g].offset = s.group.table[g].offset) ∧
        (∀ h : Fin 32, h ≠ g → t.group.table[h] = s.group.table[h]) ∧
        t.group = { s.group with
          line := .seeking, recessiveRun := 0, sent := t.group.sent, taken := t.group.taken, queue := t.group.queue
          table := t.group.table } ∧
        (∀ i : Fin 64, g ∉ s.strips[i].groups → t.strips[i] = s.strips[i]) ∧ t = (s.setGroup t.group).setStrips t.strips) ∧
    (e.kind = .passOpen ∨ e.kind = .passClose → e.number ≤ 255 →
      let settled : GroupLine := { s.group with
        line := .seeking, recessiveRun := 0, sent := min 65535 (s.group.sent + 1), taken := min 65535 (s.group.taken + 1)
        queue := if e.value = v then pre ++ post else pre ++ { e with inFlight := none } :: post }
      let closes : Prop := e.kind = .passClose ∧ s.pass.state = .recording ∧ s.pass.number = some e.number
      ∃ t, exec ended s = .next t ∧ (¬ closes → t.group = settled) ∧
        (closes → StripsTuned s → s.enqueues settled (s.endEnqueues t) t.group))

/-- The events of the line that end no message. Ten recessive bit times take SEEKING to IDLE; there, or at another station's start bit,
a station that is not listen-only and has an entry to send marks the one of the lowest class, and of these the earliest, in flight and
is in MESSAGE (R92, R95). A lost arbitration or a line fault clears the mark and keeps the entry in its place, unless its group is no
longer mastered; the loss is counted, or the fault is counted, raises LINE ERROR and returns the line to SEEKING (R96). A message that ends
with bits other than the own ones is taken as that loss, and then judged as any other message (R98), where the own bits are the greater
number, so that the first difference is a 1 driven and a 0 read, and as that fault otherwise; that the end of the message decides this is the
model's (log entry 11). That the own start bit takes the station to MESSAGE is read from R92 (log entry 12), and the run of recessive bits is
held as 0 or 10 (log entry 13). -/
def Obligations.LineEventsStartAndWithdrawMessages : Prop :=
  ∀ s : State, s.resetPin = false →
    (s.group.line = .seeking → exec .dominantBitSeen s = .next (s.setGroup { s.group with recessiveRun := 0 })) ∧
    (s.group.queue = [] ∨ s.listenOnly = true →
      (s.group.line = .seeking → exec .lineRest s = .next (s.setGroup { s.group with line := .idle, recessiveRun := 10 })) ∧
      (s.group.line = .idle → exec .dominantBitSeen s = .next (s.setGroup { s.group with line := .message }))) ∧
    ∀ (pre post : List QueueEntry) (e : QueueEntry), s.group.queue = pre ++ e :: post → (∀ x ∈ pre ++ post, x.inFlight = none) →
      (s.group.queue.map QueueEntry.key).Nodup →
      (s.listenOnly = false → e.inFlight = none → (∀ x ∈ pre, e.kind.cls < x.kind.cls) → (∀ x ∈ post, e.kind.cls ≤ x.kind.cls) →
        let queue := pre ++ { e with inFlight := some e.value } :: post
        (s.group.line = .seeking → exec .lineRest s =
          .next (s.setGroup { s.group with line := .message, recessiveRun := 10, queue := queue })) ∧
        (s.group.line = .idle → exec .dominantBitSeen s = .next (s.setGroup { s.group with line := .message, queue := queue }))) ∧
      (∀ v, e.inFlight = some v →
        let queue := if e.kind = .passOpen ∨ e.kind = .passClose ∨ ∃ m ∈ s.group.mastered, m.group.val = e.number then
          pre ++ { e with inFlight := none } :: post else pre ++ post
        exec .arbitrationLoss s = .next (s.setGroup { s.group with queue := queue, losses := min 65535 (s.group.losses + 1) }) ∧
        ∃ t, exec .lineFault s = .next t ∧
          t.group = { s.group with
            queue := queue, line := .seeking, recessiveRun := 0, lineErrors := min 65535 (s.group.lineErrors + 1) } ∧
          t.causeSet .lineError = true ∧ (∀ c, c ≠ .lineError → t.causeSet c = s.causeSet c) ∧
          t = (s.setGroup t.group).setControl t.control) ∧
      (∀ v, e.inFlight = some v → s.group.line = .message → ∀ bits : BitVec 38,
        let own := messageBits ⟨e.kind, s.straps.slot, e.number, v⟩
        (bits.toNat < own.toNat → ∃ lost, exec .arbitrationLoss s = .next lost ∧ lost.group.sending = none ∧
          lost.group.line = .message ∧ exec (.groupMessageEnd bits) s = exec (.groupMessageEnd bits) lost) ∧
        (own.toNat < bits.toNat → exec (.groupMessageEnd bits) s = exec .lineFault s))

/-- An enqueue coalesces with the entry of its key, which keeps its place and its mark; a new entry joins at the tail while fewer than 38 entries are
queued (40 for a pass kind), and otherwise the drop counter rises (R101). The refresh of a mastered group enqueues its held level and cut, and records
the offset as last enqueued (R103); on a listen-only station the own group table takes both at once, with the own slot as sender, which moves strips
of the group alone (R106). Nothing else changes. A group that is not mastered has no refresh. In IDLE of an empty queue the LEVEL starts its message
at once, in flight with the value it sends (R95). That LEVEL is enqueued before CUT, and so is the one that starts, is the model's choice (log entry
44); that the own start bit takes the station to MESSAGE is read from R92 (log entry 12); that a due refresh waits for its own command is the model's
(log entry 5). -/
def Obligations.RefreshEnqueuesLevelAndCut : Prop :=
  (∀ (g : GroupLine) (kind : MsgKind) (number : Nat) (value : Int),
    (∀ pre post e, g.queue = pre ++ e :: post → e.key = (kind, number) → (g.queue.map QueueEntry.key).Nodup →
      g.enqueue kind number value = { g with queue := pre ++ { e with value := value } :: post }) ∧
    ((∀ e ∈ g.queue, e.key ≠ (kind, number)) →
      (g.queue.length < 38 ∨ (g.queue.length < 40 ∧ (kind = .passOpen ∨ kind = .passClose)) →
        g.enqueue kind number value = { g with queue := g.queue ++ [⟨kind, number, value, none⟩] }) ∧
      (40 ≤ g.queue.length ∨ (38 ≤ g.queue.length ∧ (kind = .groupLevel ∨ kind = .groupCut)) →
        g.enqueue kind number value = { g with drops := min 65535 (g.drops + 1) }))) ∧
  ∀ (s : State) (g : Fin 32), s.resetPin = false → s.group.refreshDue = some g →
    ((∀ m ∈ s.group.mastered, m.group ≠ g) → exec .groupRefresh s = .next (s.setGroup { s.group with refreshDue := none })) ∧
    ∀ (pre post : List Master) (m : Master), s.group.mastered = pre ++ m :: post → m.group = g →
      (∀ x ∈ pre ++ post, x.group ≠ g) →
      ∃ t, exec .groupRefresh s = .next t ∧ t.group.refreshDue = none ∧
        t.group.mastered = pre ++ { m with enqueued := m.offset } :: post ∧
        (s.listenOnly = false → s.group.line ≠ .idle →
          t.group = { (s.group.enqueue .groupLevel g.val m.offset).enqueue .groupCut g.val (if m.cut then 1 else 0) with
            refreshDue := none, mastered := t.group.mastered } ∧ t.strips = s.strips) ∧
        (s.listenOnly = false → s.group.line = .idle → s.group.queue = [] →
          t.group = { s.group with
            refreshDue := none, mastered := t.group.mastered, line := .message
            queue := [⟨.groupLevel, g.val, m.offset, some m.offset⟩, ⟨.groupCut, g.val, if m.cut then 1 else 0, none⟩] } ∧
          t.strips = s.strips) ∧
        (s.listenOnly = true → t.group = { s.group with
            refreshDue := none, mastered := t.group.mastered
            table := s.group.table.set g ⟨max (-1020) (min 120 m.offset), m.cut, some s.straps.slot, true⟩ } ∧
          ∀ i : Fin 64, g ∉ s.strips[i].groups → t.strips[i] = s.strips[i]) ∧
        t = (s.setGroup t.group).setStrips t.strips

/-- Every step keeps the send queue within 40 entries of distinct keys, at most one of them in flight and that one only in MESSAGE, the
queue of a listen-only station empty, and every offset of the group table within −1,020 to 120 (R95, R100, R101, R106). That a station
is in MESSAGE from its own start bit on is read from R92 (log entry 12). -/
def Obligations.StepKeepsGroupSafe : Prop :=
  ∀ s t : State, GroupSafe s → step s = .next t → GroupSafe t

/-! ### Fader surface port (chapter 8) -/

/-- A scan that fails a test of R121 is counted and nothing else. A good one makes the link ACTIVE and is taken fader by fader: a carried one
becomes present, its code is judged and, when accepted, handed to the strip, and its touch count moves the record (R123, R125, R128); one not
carried loses presence, and one that does not exist is not reached (R123). A touch, a release, a touch given up and a lost touch move the
strip's record, its sources and the journal as R145, R147, R157 and R159 say, in ascending strip order. The motor return has an entry for each
existing fader carried, ascending, driven where the level source is STORE and the fader is untouched, with the code in force mapped into the
calibration (R132). STUCK TOUCH is raised where a touch is given up (R130). Each GROUP MASTER strip whose cut changes enqueues it (R33, R102).
That presence comes before the code, the code before the touch, and the motor return last, and faders, and with them the cuts of several
masters, in ascending order is the model's order (log entry 18), that an enqueue in IDLE starts its message (R95) and takes the station to
MESSAGE is read from R92 (log entry 12), that a release with no read level keeps the store level code (log entry 48), and that an ended glide
leaves its code, length and step (log entry 52), is its choice. -/
def Obligations.ScanArrivalIsTakenFaderByFader : Prop :=
  ∀ (s : State) (bytes : List Byte), s.resetPin = false →
    (readScan bytes = none → exec (.scanArrival bytes) s =
      .next (s.setSurface { s.surface with scanErrors := min 65535 (s.surface.scanErrors + 1) })) ∧
    ∀ readings : List Reading, readScan bytes = some readings →
      ∃ (t : State) (entries : List MotorEntry), exec (.scanArrival bytes) s = .next t ∧
        t.surface.link = .active ∧ t.surface.silence = 0 ∧ t.surface.scanErrors = s.surface.scanErrors ∧
        t.surface.motorReturn = some entries ∧
        entries.map MotorEntry.fader =
          (List.finRange 64).filter (fun i => decide (i.val < s.rate.strips) && readings.any fun r => r.fader == i) ∧
        (∀ e ∈ entries,
          let f := t.surface.faders[e.fader]
          let n := 2 * (t.strips[e.fader].faderCode : Int) * ((f.high : Int) - f.low) + 1020
          (e.drive = true ↔ t.strips[e.fader].levelSource = .store ∧ f.touched = false) ∧
          2040 * (e.target - f.low) ≤ n ∧ n < 2040 * (e.target - f.low + 1)) ∧
        (∀ (i : Fin 64) (r : Reading), i.val < s.rate.strips → r ∈ readings → r.fader = i →
          let f := s.surface.faders[i]
          let code := f.codeOf r.raw
          (f.accepts code = true → t.surface.faders[i] = { (f.sense r.touch).1 with
              present := true, lastCode := code, acceptNext := false } ∧ t.strips[i].liveCode = code) ∧
          (f.accepts code = false → t.surface.faders[i] = { (f.sense r.touch).1 with present := true } ∧
            t.strips[i].liveCode = s.strips[i].liveCode) ∧
          t.strips[i].present = (!f.present || s.strips[i].present)) ∧
        (∀ i : Fin 64, i.val < s.rate.strips → (∀ r ∈ readings, r.fader ≠ i) →
          (s.surface.faders[i].present = false → t.surface.faders[i] = s.surface.faders[i] ∧
            t.strips[i].present = s.strips[i].present) ∧
          (s.surface.faders[i].present = true → t.surface.faders[i] = s.surface.faders[i].absent ∧ t.strips[i].present = false)) ∧
        (∀ i : Fin 64, s.rate.strips ≤ i.val → t.surface.faders[i] = s.surface.faders[i] ∧ t.strips[i] = s.strips[i]) ∧
        (t.causeSet .stuckTouch = true ↔ s.causeSet .stuckTouch = true ∨ ∃ r ∈ readings, r.fader.val < s.rate.strips ∧
          (s.surface.faders[r.fader].sense r.touch).2 = .stuck) ∧
        (let records := s.ofStrips fun i => s.touchRecords i t.strips[i].deskCode (s.scanEvent readings i)
         (∀ i : Fin 64, s.hasStrip i = true →
           t.playback.strips[i] = s.recordAfter i t.strips[i].deskCode (s.scanEvent readings i) ∧
           s.sourcesAfter i s.strips[i] t.strips[i] (s.scanEvent readings i)) ∧
         (∀ i : Fin 64, s.hasStrip i = false → t.playback.strips[i] = s.playback.strips[i]) ∧
         t.pass = s.pass.offers records ∧
         (t.causeSet .journalFull = true ↔ s.causeSet .journalFull = true ∨ s.pass.refusesSome records = true)) ∧
        (StripsTuned s → s.enqueues s.group (s.cutEnqueues t) t.group) ∧
        t.clock = s.clock ∧ t.engine = s.engine ∧ t.tx = s.tx ∧ t.peers = s.peers ∧ t.summer = s.summer ∧ t.ports = s.ports ∧
        t.playback.position = s.playback.position ∧ t.playback.transport = s.playback.transport

/-- The code of a reading is its place between the calibration's ends on 0 to 1,020, to the nearest integer with halves up, 0 at or below
L and 1,020 at or above H (R124); a code is accepted where the accept next mark is set, it differs by 2 or more from the last accepted
code, or it is an end (R125). -/
def Obligations.FaderCodeIsCalibratedAndJudged : Prop :=
  ∀ (f : Fader) (raw code : Nat), f.low + 512 ≤ f.high →
    (raw ≤ f.low → f.codeOf raw = 0) ∧ (f.high ≤ raw → f.codeOf raw = 1020) ∧
    (f.low ≤ raw → raw ≤ f.high →
      2 * (f.high - f.low) * f.codeOf raw ≤ 2040 * (raw - f.low) + (f.high - f.low) ∧
      2040 * (raw - f.low) + (f.high - f.low) < 2 * (f.high - f.low) * (f.codeOf raw + 1)) ∧
    (f.accepts code = true ↔ f.acceptNext = true ∨ f.lastCode + 2 ≤ code ∨ code + 2 ≤ f.lastCode ∨ code = 0 ∨ code = 1020)

/-- What a touch count does to a fader record and what it hands on. The first sets the baseline and is not judged; a count above the
baseline raises it (R127). Three readings in a row at or above the on threshold declare a touch, three below the off threshold a
release (R128). While the fader is untouched the baseline sinks by at most 1 at each 16th reading (R127); after 60,000 touched readings
the touch is given up as stuck (R130). That the reading that declares a release counts as the first untouched one, and that a stuck
touch clears the counts last, are the model's reading (log entry 19). -/
def Obligations.TouchCountsDeclareTouchAndRelease : Prop :=
  ∀ (f : Fader) (count : Nat), f.safe →
    (f.baseline = none → f.sense count = ({ f with baseline := some count, debounce := 0, untouchedScans := 0 }, .none)) ∧
    ∀ held : Nat, f.baseline = some held →
      let baseline := max held count
      let delta := baseline - count
      let sunk : Option Nat := some (if f.untouchedScans = 15 then (if count < baseline then baseline - 1 else baseline) else baseline)
      let scans := if f.untouchedScans = 15 then 0 else f.untouchedScans + 1
      (f.touched = false →
        (f.onThreshold ≤ delta → f.debounce = 2 → f.sense count = ({ f with
          baseline := some baseline, touched := true, debounce := 0, untouchedScans := 0, touchedScans := 0 }, .touch)) ∧
        (f.onThreshold ≤ delta → f.debounce < 2 → f.sense count = ({ f with
          baseline := sunk, untouchedScans := scans, debounce := f.debounce + 1 }, .none)) ∧
        (delta < f.onThreshold → f.sense count = ({ f with baseline := sunk, untouchedScans := scans, debounce := 0 }, .none))) ∧
      (f.touched = true →
        (delta < f.offThreshold → f.debounce = 2 → f.sense count = ({ f with
          baseline := some baseline, touched := false, debounce := 0, untouchedScans := 1, touchedScans := 0 }, .release)) ∧
        (delta < f.offThreshold → f.debounce < 2 → f.touchedScans < 59999 → f.sense count = ({ f with
          baseline := some baseline, debounce := f.debounce + 1, touchedScans := f.touchedScans + 1 }, .none)) ∧
        (f.offThreshold ≤ delta → f.touchedScans < 59999 → f.sense count = ({ f with
          baseline := some baseline, debounce := 0, touchedScans := f.touchedScans + 1 }, .none)) ∧
        (f.offThreshold ≤ delta ∨ f.debounce < 2 → f.touchedScans = 59999 → f.sense count = ({ f with
          baseline := some count, touched := false, debounce := 0, untouchedScans := 0, touchedScans := 0 }, .stuck)))

/-- The silence window expires once the silence count has reached it. A SILENT link only clears the count; an ACTIVE one becomes SILENT, and every
existing fader that is present loses presence, a touched one being released, with what a release does to the strip's record, its sources and the
journal, and a GROUP MASTER strip whose cut changes enqueues it (R33, R102, R123, R129, R133, R147, R159). That the count waits at the window for the
expiry (log entry 5), that a release with no read level keeps the store level code (log entry 48), and that several faders drop in ascending order
(log entry 49), and that an ended glide leaves its code, length and step (log entry 52), is the model's; an enqueue in IDLE starts its message (R95),
and that the own start bit takes the station to MESSAGE is read from R92 (log entry 12). -/
def Obligations.SilenceWindowExpiryDropsTheFaders : Prop :=
  ∀ s : State, s.resetPin = false → s.rate.silenceWindow ≤ s.surface.silence →
    (s.surface.link = .silent → exec .silenceWindowExpiry s = .next (s.setSurface { s.surface with silence := 0 })) ∧
    (s.surface.link = .active → ∃ t, exec .silenceWindowExpiry s = .next t ∧ t.surface.link = .silent ∧ t.surface.silence = 0 ∧
      t.surface.scanErrors = s.surface.scanErrors ∧ t.surface.motorReturn = s.surface.motorReturn ∧
      (∀ i : Fin 64, i.val < s.rate.strips → s.surface.faders[i].present = true →
        t.surface.faders[i] = s.surface.faders[i].absent ∧ t.strips[i].present = false ∧
        (s.surface.faders[i].touched = true → t.playback.strips[i].touched = false)) ∧
      (∀ i : Fin 64, s.rate.strips ≤ i.val ∨ s.surface.faders[i].present = false →
        t.surface.faders[i] = s.surface.faders[i] ∧ t.strips[i].present = s.strips[i].present) ∧
      (let event (i : Fin 64) : TouchEvent :=
         if s.surface.faders[i].present && s.surface.faders[i].touched then .release else .none
       let records := s.ofStrips fun i => s.touchRecords i t.strips[i].deskCode (event i)
       (∀ i : Fin 64, s.hasStrip i = true → t.playback.strips[i] = s.recordAfter i t.strips[i].deskCode (event i) ∧
         s.sourcesAfter i s.strips[i] t.strips[i] (event i)) ∧
       t.pass = s.pass.offers records ∧
       (t.causeSet .journalFull = true ↔ s.causeSet .journalFull = true ∨ s.pass.refusesSome records = true)) ∧
      (StripsTuned s → s.enqueues s.group (s.cutEnqueues t) t.group) ∧
      t.clock = s.clock ∧ t.engine = s.engine ∧ t.tx = s.tx ∧ t.peers = s.peers ∧ t.summer = s.summer ∧ t.ports = s.ports)

/-- Every step keeps every fader record within its ranges, with no touch, baseline or touch count on a fader that is not present, and no
existing fader present while the link is SILENT (R122, R123, R126 to R133). -/
def Obligations.StepKeepsSurfaceSafe : Prop :=
  ∀ s t : State, SurfaceSafe s → step s = .next t → SurfaceSafe t

/-! ### Automation playback (chapter 9) -/

/-- A bad position record is counted and changes nothing else. A good one gives the position and the transport state: quietly while playing on within
the window, as a jump outside it, with a stop where play ends (R137); the distance is that of the two positions as integers, with no wrap (log entry
16). A jump ends the glides in FOLLOW and leaves every strip record as it stands; a stop ends every latch and live cut of the existing strips: a
LATCHED strip is read and returns to the store, by a glide from the desk's code or at once, and a live cut returns to the read cut, which a GROUP
MASTER strip enqueues (R149, R144, R102; a store value with no reading is kept: log entry 48; an ended glide leaves its code, length and step: log
entry 52; several masters enqueue in ascending strip order: log entry 50; in IDLE the first starts its message, R95, and takes the station to MESSAGE,
R92: log entry 12). What the journal takes: at a jump the closings of every open punch at the position before it, and then the punch-ins of all that
is live at the new one; at a stop the closings at the position before it; at a start of play while RECORDING the punch-ins at the adopted position;
each record accepted or refused by R156 (R157, R159). -/
def Obligations.PositionRecordMovesTheTransport : Prop :=
  ∀ (s : State) (bytes : List Byte), s.resetPin = false →
    (readPositionRecord bytes = none → exec (.positionRecordArrival bytes) s =
      .next (s.setPlayback { s.playback with positionErrors := min 65535 (s.playback.positionErrors + 1) })) ∧
    ∀ (position : Nat) (transport : Transport), readPositionRecord bytes = some (position, transport) →
      ∃ t, exec (.positionRecordArrival bytes) s = .next t ∧ t.playback.position = position ∧ t.playback.transport = transport ∧
        t.playback.stepCount = s.playback.stepCount ∧ t.playback.positionErrors = s.playback.positionErrors ∧
        (∀ i : Fin 64, t.playback.strips[i].levelMoves = s.playback.strips[i].levelMoves ∧
          t.playback.strips[i].cutMoves = s.playback.strips[i].cutMoves) ∧
        (s.playback.transport = .playing → transport = .playing →
          position ≤ s.playback.position + s.rate.quietWindow → s.playback.position ≤ position + s.rate.quietWindow →
          t = s.setPlayback { s.playback with position := position }) ∧
        (s.playback.transport = .playing → transport = .playing →
          s.playback.position + s.rate.quietWindow < position ∨ position + s.rate.quietWindow < s.playback.position →
          t.playback.jumps = min 65535 (s.playback.jumps + 1) ∧ t.strips = s.strips ∧
          (let records := s.closings s.playback.position ++ s.ofStrips fun i => bothKinds fun k =>
             if s.recordingNow && s.liveForRecording i k then opening i k position (s.deskValue i k) else []
           t.pass = s.pass.offers records ∧
           (t.causeSet .journalFull = true ↔ s.causeSet .journalFull = true ∨ s.pass.refusesSome records = true)) ∧
          ∀ i : Fin 64, s.hasStrip i = true → t.playback.strips[i] = { s.playback.strips[i] with
            phase := if s.playback.strips[i].phase = .glide then .follow else s.playback.strips[i].phase }) ∧
        (s.playback.transport = .playing → transport ≠ .playing →
          t.playback.jumps = s.playback.jumps ∧ (PassSafe s → t.pass.openPunches = 0) ∧
          t.pass = s.pass.offers (s.closings s.playback.position) ∧
          (t.causeSet .journalFull = true ↔ s.causeSet .journalFull = true ∨
            s.pass.refusesSome (s.closings s.playback.position) = true) ∧
          s.liveEnded t ∧ (StripsTuned s → s.enqueues s.group (s.endEnqueues t) t.group) ∧
          ∀ i : Fin 64, s.hasStrip i = true → t.playback.strips[i].cutLive = false ∧ t.playback.strips[i].phase ≠ .latched ∧
            (s.playback.strips[i].phase ≠ .latched → t.playback.strips[i].phase = s.playback.strips[i].phase)) ∧
        (s.playback.transport ≠ .playing → t.playback.jumps = s.playback.jumps ∧
          (transport ≠ .playing ∨ s.pass.state ≠ .recording →
            t = s.setPlayback { s.playback with position := position, transport := transport }) ∧
          (transport = .playing → s.pass.state = .recording →
            t.pass = s.pass.offers (s.openings position) ∧
            (t.causeSet .journalFull = true ↔ s.causeSet .journalFull = true ∨ s.pass.refusesSome (s.openings position) = true) ∧
            t = ((s.setPlayback { s.playback with position := position, transport := transport }).setPass t.pass).setControl t.control))

/-- The reading of a strip at a position, on lists whose positions ascend: none from an empty list, the first move's value before it, the
value of the last move at or before it, interpolated where that move glides and another follows (R141). -/
def Obligations.ReadingFollowsTheLists : Prop :=
  (∀ (moves : List LevelMove) (at_ : Nat), (moves.map LevelMove.position).Pairwise (· < ·) →
    (moves = [] → readLevelAt moves at_ = none) ∧
    (∀ m rest, moves = m :: rest → at_ < m.position → readLevelAt moves at_ = some (m.code, false)) ∧
    (∀ pre m next post, moves = pre ++ m :: next :: post → m.position ≤ at_ → at_ < next.position →
      readLevelAt moves at_ = if m.glide then
        some (interpolate m.code next.code (at_ - m.position) (next.position - m.position), true) else some (m.code, false)) ∧
    (∀ pre m, moves = pre ++ [m] → m.position ≤ at_ → readLevelAt moves at_ = some (m.code, false))) ∧
  ∀ (moves : List CutMove) (at_ : Nat), (moves.map CutMove.position).Pairwise (· < ·) →
    (moves = [] → readCutAt moves at_ = none) ∧
    (∀ m rest, moves = m :: rest → at_ < m.position → readCutAt moves at_ = some m.on) ∧
    (∀ pre m next post, moves = pre ++ m :: next :: post → m.position ≤ at_ → at_ < next.position → readCutAt moves at_ = some m.on) ∧
    ∀ pre m, moves = pre ++ [m] → m.position ≤ at_ → readCutAt moves at_ = some m.on

/-- An automation step that is due. While PLAYING, each existing strip in READ, TOUCH or LATCH that the merge does not hold is read at the position,
and is handed the level and cut values of its mode and record (R141, R142, R144; a store value with no reading is kept: log entry 48). In every
transport state each glide then advances one step toward the read level held, and ends in FOLLOW at its last step, or on the desk where no level is
read (R145), where its step does not rise (log entry 52). The sources and store values of a strip that is not read stand, but for what its glide
hands. The journal takes, strip by strip, the PUNCH OUT of a glide that ended while PLAYING, and a MOVE for each open punch that is live for recording
and whose desk value differs from the last recorded, each accepted or refused by R156 (R158, R159). The send queue takes a GROUP CUT for each master
strip whose cut its reading changed, and a GROUP LEVEL for each mastered group whose offset differs from the one last enqueued, as far as it has room;
in IDLE of an empty queue the first of them starts its message; on a listen-only station the own group table takes them at once (R95, R101, R102,
R106). Written fields of strips, the rest of the playback record and every other block stand. That records and levels come after the readings and
glides is log entry 17; the order of several cuts is log entry 50, that of several levels log entry 45, that the own start bit takes the station to
MESSAGE is read from R92 (log entry 12), and that a due step waits for its own command is log entry 5. -/
def Obligations.AutomationStepReadsGlidesAndEnqueues : Prop :=
  ∀ s : State, s.resetPin = false → s.playback.stepDue = true →
    ∃ t, exec .automationStep s = .next t ∧
      t = ((((s.setStrips t.strips).setGroup t.group).setPlayback t.playback).setPass t.pass).setControl t.control ∧
      t.playback = { s.playback with stepDue := false, strips := t.playback.strips } ∧
      t.control = { s.control with causes := t.control.causes } ∧ (∀ c, c ≠ .journalFull → t.causeSet c = s.causeSet c) ∧
      (∀ i : Fin 64, Strip.sameWritten t.strips[i] s.strips[i] ∧ t.strips[i].sends = s.strips[i].sends ∧
        t.strips[i].liveCode = s.strips[i].liveCode ∧ t.strips[i].present = s.strips[i].present ∧
        (s.hasStrip i = false → t.playback.strips[i] = s.playback.strips[i] ∧ s.strips[i].sameLevel t.strips[i] ∧
          s.strips[i].sameCut t.strips[i])) ∧
      (∀ m ∈ t.group.mastered, m.enqueued = m.offset) ∧
      t.group.mastered.map Master.group = s.group.mastered.map Master.group ∧
      (StripsTuned s → s.enqueues s.group (s.stepEnqueues t) t.group) ∧
      (let records := s.ofStrips fun i =>
         (if s.playback.strips[i].phase = .glide ∧ t.playback.strips[i].phase ≠ .glide ∧ s.playback.transport = .playing then
           [.punchOut i .level s.playback.position] else []) ++
         bothKinds fun k =>
           if s.recordingNow && s.pass.isOpen i k && s.liveForRecording i k && s.pass.punches[i].differs (s.deskValue i k) then
             [.move i s.playback.position (s.deskValue i k)] else []
       t.pass = s.pass.offers records ∧
       (t.causeSet .journalFull = true ↔ s.causeSet .journalFull = true ∨ s.pass.refusesSome records = true)) ∧
      ∀ i : Fin 64, s.hasStrip i = true →
        let a := s.playback.strips[i]
        let b := t.playback.strips[i]
        let last := decide (a.glideLength ≤ a.glideStep + 1)
        let reads : Prop := s.playback.transport = .playing ∧
          (s.strips[i].mode = .read ∨ s.strips[i].mode = .touch ∨ s.strips[i].mode = .latch) ∧ i ∉ s.pass.mergeList
        (reads → b.readLevel = (readLevelAt a.levelMoves s.playback.position).map Prod.fst ∧
          b.readCut = readCutAt a.cutMoves s.playback.position) ∧
        (¬ reads → b.readLevel = a.readLevel ∧ b.readCut = a.readCut) ∧
        (reads → (a.phase = .glide → s.strips[i].mode.ridden = true) → t.strips[i].levelHanded b ∧
          (t.strips[i].levelSource = .desk → t.strips[i].storeLevel = s.strips[i].storeLevel)) ∧
        (reads → t.strips[i].cutHanded b ∧ (b.readCut = none → t.strips[i].storeCut = s.strips[i].storeCut)) ∧
        (¬ reads → s.strips[i].sameCut t.strips[i] ∧ (a.phase ≠ .glide → s.strips[i].sameLevel t.strips[i])) ∧
        (a.phase ≠ .glide → b = { a with readLevel := b.readLevel, readCut := b.readCut }) ∧
        (a.phase = .glide → b.readLevel = none → b = { a with readLevel := none, readCut := b.readCut, phase := .follow } ∧
          t.strips[i].levelSource = .desk ∧ t.strips[i].storeLevel = s.strips[i].storeLevel) ∧
        (∀ code, a.phase = .glide → b.readLevel = some code →
          b = { a with
            readLevel := some code, readCut := b.readCut, glideStep := a.glideStep + 1, phase := if last then .follow else .glide } ∧
          t.strips[i].levelSource = .store ∧
          t.strips[i].storeLevel = if last then code else interpolate a.glideStart code (a.glideStep + 1) a.glideLength)

/-- What a touch, a release, a cut change and a mode write do to a strip: to its record, its sources and the journal. A touch in TOUCH or LATCH
makes it LIVE on the desk and punches its level in; a release reads it and returns it to the store, by a glide from the desk's code where it
has a read level and glide steps, with a glide start in the journal while PLAYING, and otherwise at once, closing its LEVEL punch, or leaves it
LATCHED in LATCH during a record pass that plays; in the other modes each only sets the touched field (R145, R147, R157, R159). A cut change
in TOUCH or LATCH puts the cut on the desk, and the first punches it in (R148, R157). A mode write closes the strip's punches, ends glide,
latch and live cut, reads the strip in READ, TOUCH and LATCH, makes a touched strip LIVE in TOUCH and LATCH, and punches in what is then live
(R146, R157, R159). That a strip put on the desk, by a touch or for want of a read level, keeps its store level code is log entry 48; that the
fields of a record that no rule names, those of an ended glide among them, stand is log entry 52. -/
def Obligations.TouchesCutsAndModesMoveAStrip : Prop :=
  ∀ (s : State) (i : Fin 64),
    let ridden : Prop := s.strips[i].mode = .touch ∨ s.strips[i].mode = .latch
    let a := s.playback.strips[i]
    let read := (readLevelAt a.levelMoves s.playback.position).map Prod.fst
    let desk := if s.strips[i].present then s.strips[i].liveCode else s.strips[i].staticCode
    let position := s.playback.position
    (∀ e : TouchEvent, ∀ t : State, t = handTouch i e s → t.playback.strips[i] = s.recordAfter i desk e ∧
      s.sourcesAfter i s.strips[i] t.strips[i] e ∧ t.pass = s.pass.offers (s.touchRecords i desk e) ∧
      (∀ j : Fin 64, j ≠ i → t.playback.strips[j] = s.playback.strips[j])) ∧
    (let t := changeCut i s
     (ridden → t.strips[i].cutHanded t.playback.strips[i]) ∧
     t.pass = s.pass.offers (if s.strips[i].mode.ridden && !a.cutLive && s.recordingNow && !s.pass.isOpen i .cut then
       opening i .cut position (s.deskValue i .cut) else [])) ∧
    (let t := changeMode i s
     t.strips[i].levelHanded t.playback.strips[i] ∧ t.strips[i].cutHanded t.playback.strips[i] ∧
     t.pass = s.pass.offers ((bothKinds fun k => s.pass.closing i k position (s.deskValue i k)) ++ bothKinds fun k =>
       if s.recordingNow && t.liveForRecording i k then opening i k position (s.deskValue i k) else [])) ∧
    (ridden → (touchStrip i s).playback.strips[i] = { a with touched := true, phase := .live } ∧
      (touchStrip i s).strips[i].levelSource = .desk ∧ (touchStrip i s).strips[i].storeLevel = s.strips[i].storeLevel) ∧
    (¬ ridden → touchStrip i s = modAuto i (fun a => { a with touched := true }) s ∧
      releaseStrip i s = modAuto i (fun a => { a with touched := false }) s) ∧
    (ridden → a.phase = .latched → releaseStrip i s = modAuto i (fun a => { a with touched := false }) s) ∧
    (s.strips[i].mode = .latch → s.pass.state = .recording → s.playback.transport = .playing → a.phase ≠ .latched →
      (releaseStrip i s).playback.strips[i] = { a with touched := false, phase := .latched } ∧
      (releaseStrip i s).strips[i].levelSource = .desk) ∧
    (ridden → a.phase ≠ .latched →
      s.strips[i].mode = .touch ∨ s.pass.state ≠ .recording ∨ s.playback.transport ≠ .playing →
      (releaseStrip i s).playback.strips[i].touched = false ∧ (releaseStrip i s).playback.strips[i].readLevel = read ∧
      (read ≠ none → 0 < s.strips[i].glideSteps →
        (releaseStrip i s).playback.strips[i].phase = .glide ∧ (releaseStrip i s).playback.strips[i].glideStart = desk ∧
        (releaseStrip i s).playback.strips[i].glideLength = s.strips[i].glideSteps ∧
        (releaseStrip i s).playback.strips[i].glideStep = 0 ∧ (releaseStrip i s).strips[i].levelSource = .store ∧
        (releaseStrip i s).strips[i].storeLevel = desk) ∧
      (s.strips[i].glideSteps = 0 → ∀ code, read = some code → (releaseStrip i s).playback.strips[i].phase = .follow ∧
        (releaseStrip i s).strips[i].levelSource = .store ∧ (releaseStrip i s).strips[i].storeLevel = code) ∧
      (read = none → (releaseStrip i s).playback.strips[i].phase = .follow ∧ (releaseStrip i s).strips[i].levelSource = .desk)) ∧
    (ridden → (changeCut i s).playback.strips[i].cutLive = true ∧ (changeCut i s).strips[i].cutSource = .desk) ∧
    (let t := changeMode i s
     t.playback.strips[i].cutLive = false ∧ t.playback.strips[i].touched = a.touched ∧
     (t.playback.strips[i].phase = .live ↔ ridden ∧ a.touched = true) ∧
     (¬ (ridden ∧ a.touched = true) → t.playback.strips[i].phase = .follow) ∧
     (s.strips[i].mode = .off ∨ s.strips[i].mode = .write → t.strips[i].levelSource = .desk ∧ t.strips[i].cutSource = .desk) ∧
     (s.strips[i].mode = .read ∨ ridden → t.playback.strips[i].readLevel = read) ∧
     (s.strips[i].mode = .read ∨ (ridden ∧ a.touched = false) →
       (∀ code, read = some code → t.strips[i].levelSource = .store ∧ t.strips[i].storeLevel = code) ∧
       (read = none → t.strips[i].levelSource = .desk)))

/-! ### The automation store (chapter 9) -/

/-- The commands on the store. INSERT MOVE puts one move at its place, or replaces the one at its position, and is refused with STORE FULL
where the store holds 8,192 moves and none at that position (R139). DELETE MOVES removes the moves from a first to a last position, CLEAR
STRIP both lists of a strip, CLEAR STORE every list (R140). Every edit is refused with BUSY while MERGING (R138), and with RANGE where
strip, kind or positions are out of range; the order of these two is the model's (log entry 15). READ MOVES reports at most 24 moves from
a position, with the counts and the mark, and changes nothing but the reply (R140); the layout of its reply data is an inference from R182
(log entry 23). -/
def Obligations.StoreCommandsEditAndReadTheLists : Prop :=
  ∀ (s : State) (address : BitVec 16), s.resetPin = false → StoreSafe s →
    let replies (c : Instr) (t : State) (r : Reply) : Prop := exec c s = .next (t.setControl { s.control with reply := some r })
    let edits (c : Instr) (i : Fin 64) (a : AutoStrip) : Prop :=
      replies c (s.setPlayback { s.playback with strips := s.playback.strips.set i a }) ⟨.ok, []⟩
    (∀ (kind high low flags : Byte) (place : List Byte), place.length = 6 →
      let insert : Instr := .insertMove address (kind :: place ++ [high, low, flags])
      let position := ofBytes place
      (s.pass.state = .merging → replies insert s ⟨.busy, []⟩) ∧
      (s.pass.state ≠ .merging → s.rate.strips ≤ address.toNat ∨ 1 < kind.toNat → replies insert s ⟨.range, []⟩) ∧
      ∀ i : Fin 64, address.toNat = i.val → i.val < s.rate.strips → s.pass.state ≠ .merging →
        let a := s.playback.strips[i]
        (kind = 0 →
          (8192 ≤ s.storeCount → (∀ m ∈ a.levelMoves, m.position ≠ position) → replies insert s ⟨.storeFull, []⟩) ∧
          (s.storeCount < 8192 ∨ (∃ m ∈ a.levelMoves, m.position = position) → ∃ (t : State) (moves : List LevelMove),
            exec insert s = .next t ∧ edits insert i { a with levelMoves := moves } ∧
            (moves.map LevelMove.position).Pairwise (· < ·) ∧
            (∀ m, m ∈ moves ↔ m = ⟨position, min 1020 (256 * high.toNat + low.toNat), flags.getLsbD 0⟩ ∨
              (m ∈ a.levelMoves ∧ m.position ≠ position)) ∧
            ((∃ m ∈ a.levelMoves, m.position = position) → t.storeCount = s.storeCount) ∧
            ((∀ m ∈ a.levelMoves, m.position ≠ position) → t.storeCount = s.storeCount + 1))) ∧
        (kind = 1 →
          (8192 ≤ s.storeCount → (∀ m ∈ a.cutMoves, m.position ≠ position) → replies insert s ⟨.storeFull, []⟩) ∧
          (s.storeCount < 8192 ∨ (∃ m ∈ a.cutMoves, m.position = position) → ∃ (t : State) (moves : List CutMove),
            exec insert s = .next t ∧ edits insert i { a with cutMoves := moves } ∧
            (moves.map CutMove.position).Pairwise (· < ·) ∧
            (∀ m, m ∈ moves ↔ m = ⟨position, decide (0 < 256 * high.toNat + low.toNat)⟩ ∨ (m ∈ a.cutMoves ∧ m.position ≠ position)) ∧
            ((∃ m ∈ a.cutMoves, m.position = position) → t.storeCount = s.storeCount) ∧
            ((∀ m ∈ a.cutMoves, m.position ≠ position) → t.storeCount = s.storeCount + 1)))) ∧
    (∀ (kind : Byte) (from_ to_ : List Byte), from_.length = 6 → to_.length = 6 →
      let delete : Instr := .deleteMoves address (kind :: from_ ++ to_)
      let first := ofBytes from_
      let last := ofBytes to_
      (s.pass.state = .merging → replies delete s ⟨.busy, []⟩) ∧
      (s.pass.state ≠ .merging → s.rate.strips ≤ address.toNat ∨ 1 < kind.toNat ∨ last < first → replies delete s ⟨.range, []⟩) ∧
      ∀ i : Fin 64, address.toNat = i.val → i.val < s.rate.strips → s.pass.state ≠ .merging → first ≤ last →
        let a := s.playback.strips[i]
        (kind = 0 → edits delete i
          { a with levelMoves := a.levelMoves.filter fun m => decide (m.position < first) || decide (last < m.position) }) ∧
        (kind = 1 → edits delete i
          { a with cutMoves := a.cutMoves.filter fun m => decide (m.position < first) || decide (last < m.position) })) ∧
    ((s.pass.state = .merging → replies (.clearStrip address []) s ⟨.busy, []⟩ ∧ replies (.clearStore 0 []) s ⟨.busy, []⟩) ∧
      (s.pass.state ≠ .merging → s.rate.strips ≤ address.toNat → replies (.clearStrip address []) s ⟨.range, []⟩) ∧
      (∀ i : Fin 64, address.toNat = i.val → i.val < s.rate.strips → s.pass.state ≠ .merging →
        edits (.clearStrip address []) i { s.playback.strips[i] with levelMoves := [], cutMoves := [] }) ∧
      (s.pass.state ≠ .merging → ∃ t, exec (.clearStore 0 []) s = .next t ∧ t.storeCount = 0 ∧
        t.control = { s.control with reply := some ⟨.ok, []⟩ } ∧
        (∀ i : Fin 64, t.playback.strips[i] = { s.playback.strips[i] with levelMoves := [], cutMoves := [] }) ∧
        t = (s.setPlayback { s.playback with strips := t.playback.strips }).setControl t.control)) ∧
    ∀ (kind : Byte) (place : List Byte), place.length = 6 →
      let read : Instr := .readMoves address (kind :: place)
      let start := ofBytes place
      let body (entries : List (List Byte)) (count : Nat) : List Byte :=
        BitVec.ofNat 8 (min 24 entries.length) :: (entries.take 24).flatten ++ beBytes 2 count ++ beBytes 2 s.storeCount ++
          [if 24 < entries.length then 1 else 0]
      (s.rate.strips ≤ address.toNat ∨ 1 < kind.toNat → replies read s ⟨.range, []⟩) ∧
      ∀ i : Fin 64, address.toNat = i.val → i.val < s.rate.strips →
        let a := s.playback.strips[i]
        (kind = 0 → replies read s ⟨.ok, body ((a.levelMoves.filter fun m => decide (start ≤ m.position)).map fun m =>
          beBytes 6 m.position ++ beBytes 2 m.code ++ [if m.glide then 1 else 0]) a.levelMoves.length⟩) ∧
        (kind = 1 → replies read s ⟨.ok, body ((a.cutMoves.filter fun m => decide (start ≤ m.position)).map fun m =>
          beBytes 6 m.position ++ [if m.on then 1 else 0] ++ [0]) a.cutMoves.length⟩)

/-! ### Passes (chapter 10) -/

/-- PASS OPEN and PASS CLOSE as commands enqueue their message and leave the pass as it is, reply BUSY where the queue has no place, with the drop
counter raised (log entry 33), and are refused by pass state and number; in IDLE of the line the own message starts (R95), its start bit taking
the station to MESSAGE (R92, log entry 12); on a listen-only station the message is taken at once (R153, R155, R101, R106). As messages, heard or own,
they move the pass. PASS OPEN in IDLE starts RECORDING, and every strip and kind that is live while PLAYING punches in, with its opening move;
the pass number held is ignored; any other is the missed pass and raises PASS MISSED (R154, R156, R157). PASS CLOSE of the pass held closes
every open punch, with the closing move where the desk's value differs from the last recorded and the PUNCH OUT, leads to REVIEW with the
journal kept, and ends latches and live cuts, a LATCHED strip returning to the store and a live cut to the read cut; any other is ignored
(R155, R159, R149; a store value with no reading is kept: log entry 48). A message heard is counted as taken and leaves queue, table and
mastered set alone, but for the cuts a PASS CLOSE makes masters enqueue (R99, R102; ascending: log entry 50; the run of recessive bits is then
0: log entry 13). -/
def Obligations.PassesOpenAndCloseByTheirMessages : Prop :=
  (∀ (s : State) (address : BitVec 16), s.resetPin = false →
    let n := address.toNat
    let replies (c : Instr) (t : State) (status : Status) : Prop :=
      exec c s = .next (t.setControl { s.control with reply := some ⟨status, []⟩ })
    (255 < n → replies (.passOpen address []) s .range ∧ replies (.passClose address []) s .range) ∧
    (n ≤ 255 → s.pass.state = .recording ∨ s.pass.state = .review → replies (.passOpen address []) s .wrongState) ∧
    (n ≤ 255 → s.pass.state = .idle ∨ s.pass.state = .review ∨ (s.pass.state = .recording ∧ s.pass.number ≠ some n) →
      replies (.passClose address []) s .wrongState) ∧
    (n ≤ 255 → s.pass.state = .merging → replies (.passOpen address []) s .busy ∧ replies (.passClose address []) s .busy) ∧
    ∀ (c : Instr) (kind : MsgKind), n ≤ 255 →
      (c = .passOpen address [] ∧ kind = .passOpen ∧ s.pass.state = .idle) ∨
        (c = .passClose address [] ∧ kind = .passClose ∧ s.pass.state = .recording ∧ s.pass.number = some n) →
      (s.listenOnly = false → 40 ≤ s.group.queue.length → (∀ e ∈ s.group.queue, e.key ≠ (kind, n)) →
        replies c (s.setGroup { s.group with drops := min 65535 (s.group.drops + 1) }) .busy) ∧
      (s.listenOnly = false → s.group.queue.length < 40 ∨ (∃ e ∈ s.group.queue, e.key = (kind, n)) →
        (s.group.line ≠ .idle → replies c (s.setGroup (s.group.enqueue kind n 0)) .ok) ∧
        (s.group.line = .idle → s.group.queue = [] →
          replies c (s.setGroup { s.group with line := .message, queue := [⟨kind, n, 0, some 0⟩] }) .ok)) ∧
      (s.listenOnly = true → ∃ t, exec c s = .next t ∧ t.control.reply = some ⟨.ok, []⟩ ∧ t.group.queue = s.group.queue ∧
        t.pass.number = some n ∧ (t.pass = if kind = .passOpen then s.passOpened n else s.passClosed) ∧
        (kind = .passOpen → t.group = s.group) ∧
        (kind = .passClose → s.liveEnded t ∧ (StripsTuned s → s.enqueues s.group (s.endEnqueues t) t.group)))) ∧
  ∀ (s : State) (bits : BitVec 38) (m : Message), s.resetPin = false → s.group.line = .message → PassSafe s →
    (∀ e, s.group.sending = some e → messageBits (s.ownMessage e) = bits) → readMessage bits = some m →
    let heard : GroupLine := { s.group with line := .seeking, recessiveRun := 0, taken := min 65535 (s.group.taken + 1) }
    (m.kind = .passOpen → ∃ t, exec (.groupMessageEnd bits) s = .next t ∧ t.group.line = .seeking ∧
      t.group.taken = min 65535 (s.group.taken + 1) ∧ t.playback = s.playback ∧ t.strips = s.strips ∧
      (s.group.sending = none → t.group = heard) ∧
      (s.pass.state = .idle → t.control = s.control ∧
        t.pass = { s.pass with
          state := .recording, number := some m.number, incomplete := false, journal := t.pass.journal, punches := t.pass.punches } ∧
        (s.playback.transport ≠ .playing → t.pass.journal = []) ∧
        (s.playback.transport = .playing → t.pass.journal = (List.finRange 64).flatMap fun i =>
          ([.level, .cut] : List Kind).flatMap fun k => if s.hasStrip i && s.liveForRecording i k then
            [.punchIn i k s.playback.position, .move i s.playback.position (s.deskValue i k)] else []) ∧
        ∀ (i : Fin 64) (k : Kind), t.pass.isOpen i k = true ↔
          s.playback.transport = .playing ∧ s.hasStrip i = true ∧ s.liveForRecording i k = true) ∧
      (s.pass.state = .recording → s.pass.number = some m.number → t.pass = s.pass ∧ t.control = s.control) ∧
      (s.pass.state = .review ∨ s.pass.state = .merging ∨ (s.pass.state = .recording ∧ s.pass.number ≠ some m.number) →
        t.pass = { s.pass with missed := some m.number } ∧ t.causeSet .passMissed = true ∧
        ∀ c, c ≠ .passMissed → t.causeSet c = s.causeSet c)) ∧
    (m.kind = .passClose → ∃ t, exec (.groupMessageEnd bits) s = .next t ∧ t.group.line = .seeking ∧
      t.group.taken = min 65535 (s.group.taken + 1) ∧
      (s.pass.state ≠ .recording ∨ s.pass.number ≠ some m.number →
        t.pass = s.pass ∧ t.playback = s.playback ∧ t.strips = s.strips ∧ t.control = s.control ∧
        (s.group.sending = none → t.group = heard)) ∧
      (s.pass.state = .recording → s.pass.number = some m.number →
        t.pass = s.passClosed ∧ (s.group.sending = none → StripsTuned s → s.enqueues heard (s.endEnqueues t) t.group) ∧
        (t.causeSet .journalFull = true ↔ s.causeSet .journalFull = true ∨
          s.pass.refusesSome (s.closings s.playback.position) = true) ∧
        t.pass.state = .review ∧ t.pass.number = some m.number ∧ t.pass.openPunches = 0 ∧ s.pass.journal <+: t.pass.journal ∧
        punchOutRecords t.pass.journal = punchOutRecords s.pass.journal + s.pass.openPunches ∧ t.pass.missed = s.pass.missed ∧
        t.playback.position = s.playback.position ∧ t.playback.transport = s.playback.transport ∧ s.liveEnded t ∧
        ∀ i : Fin 64, s.hasStrip i = true → t.playback.strips[i].cutLive = false ∧ t.playback.strips[i].phase ≠ .latched ∧
          (s.playback.strips[i].phase ≠ .latched → t.playback.strips[i].phase = s.playback.strips[i].phase) ∧
          t.playback.strips[i].levelMoves = s.playback.strips[i].levelMoves ∧
          t.playback.strips[i].cutMoves = s.playback.strips[i].cutMoves))

/-- PASS DROP in REVIEW empties the journal and leads to IDLE with no pass number, with no other change; in IDLE and RECORDING it is refused with
WRONG STATE, in MERGING with BUSY (R163). It carries no data, and its object address is 0: any other is refused with RANGE, in every pass
state, MERGING among them (R170, R182; that RANGE is judged before BUSY is the model's order, log entry 15). -/
def Obligations.PassDropEmptiesTheJournal : Prop :=
  ∀ s : State, s.resetPin = false →
    (∀ (address : BitVec 16) (data : List Byte), data ≠ [] ∨ address ≠ 0 →
      exec (.passDrop address data) s = .next (s.setControl { s.control with reply := some ⟨.range, []⟩ })) ∧
    let replies (t : State) (status : Status) : Prop :=
      exec (.passDrop 0 []) s = .next (t.setControl { s.control with reply := some ⟨status, []⟩ })
    (s.pass.state = .review → replies (s.setPass { s.pass with state := .idle, number := none, journal := [] }) .ok) ∧
    (s.pass.state = .idle ∨ s.pass.state = .recording → replies s .wrongState) ∧
    (s.pass.state = .merging → replies s .busy)

/-- PASS KEEP in REVIEW forms the merge list, the strips with a PUNCH IN, ascending, and leads to MERGING, or to IDLE with MERGE DONE where
there is none; it is refused with STORE FULL where store, moves and punches could exceed 8,192 moves, and by pass state (R160). At each
boundary while MERGING the first strip of the list takes its merged lists and leaves it; after the last the pass ends in IDLE with MERGE
DONE (R162). The ranges of a strip and kind are what lies between its PUNCH IN and its PUNCH OUT, a record that comes before the next PUNCH IN
of that strip and kind being passed over, and an empty journal having none; applying one to an ascending list
keeps every move outside it, puts the latest move of the range at each of its positions, and a restore move at its end where no move of
the range lies there (R161). The restore value of an empty list is the fader code or manual cut the desk offers when the strip's turn
comes (log entry 35). -/
def Obligations.PassKeepMergesRangeByRange : Prop :=
  (∀ s : State, s.resetPin = false →
    let replies (t : State) (status : Status) : Prop :=
      exec (.passKeep 0 []) s = .next (t.setControl { s.control with reply := some ⟨status, []⟩ })
    let wanted := s.storeCount + moveRecords s.pass.journal + punchInRecords s.pass.journal
    (s.pass.state = .idle ∨ s.pass.state = .recording → replies s .wrongState) ∧
    (s.pass.state = .merging → replies s .busy) ∧
    (s.pass.state = .review → 8192 < wanted → replies s .storeFull) ∧
    (s.pass.state = .review → wanted ≤ 8192 → (∀ i k p, .punchIn i k p ∉ s.pass.journal) →
      ∃ t, exec (.passKeep 0 []) s = .next t ∧ t.control.reply = some ⟨.ok, []⟩ ∧ t.causeSet .mergeDone = true ∧
        (∀ c, c ≠ .mergeDone → t.causeSet c = s.causeSet c) ∧
        t = (s.setPass { s.pass with
          state := .idle, number := none, journal := [], mergeList := [], stripsDone := 0 }).setControl t.control) ∧
    (s.pass.state = .review → wanted ≤ 8192 → (∃ i k p, .punchIn i k p ∈ s.pass.journal) →
      ∃ list : List (Fin 64), replies (s.setPass { s.pass with state := .merging, mergeList := list, stripsDone := 0 }) .ok ∧
        list.Pairwise (· < ·) ∧ ∀ i, i ∈ list ↔ ∃ k p, .punchIn i k p ∈ s.pass.journal)) ∧
  (∀ (c : Instr) (s : State), s.resetPin = false → makesBoundary s c → ∃ t, exec c s = .next t ∧
    (s.pass.state ≠ .merging → t.pass = s.pass ∧ t.playback.strips = s.playback.strips) ∧
    ∀ i rest, s.pass.state = .merging → s.pass.mergeList = i :: rest →
      t.playback.strips[i] = { s.playback.strips[i] with
        levelMoves := (rangesFrom i .level pickLevel none s.pass.journal).foldl (mergeLevelRange s.strips[i].deskCode)
          s.playback.strips[i].levelMoves
        cutMoves := (rangesFrom i .cut pickCut none s.pass.journal).foldl (mergeCutRange s.strips[i].manualCut)
          s.playback.strips[i].cutMoves } ∧
      (∀ j : Fin 64, j ≠ i → t.playback.strips[j] = s.playback.strips[j]) ∧
      (rest ≠ [] → t.pass = { s.pass with mergeList := rest, stripsDone := s.pass.stripsDone + 1 }) ∧
      (rest = [] → t.causeSet .mergeDone = true ∧ t.pass = { s.pass with
        state := .idle, number := none, journal := [], mergeList := [], stripsDone := s.pass.stripsDone + 1 })) ∧
  (∀ i : Fin 64, rangesFrom i .level pickLevel none [] = [] ∧
    ∀ (r : Record) (rest : List Record), (∀ p, r ≠ .punchIn i .level p) →
      rangesFrom i .level pickLevel none (r :: rest) = rangesFrom i .level pickLevel none rest) ∧
  (∀ (i : Fin 64) (p q : Nat) (inside after : List Record),
    (∀ r ∈ inside, ¬ r.bounds i .level) →
      rangesFrom i .level pickLevel none (.punchIn i .level p :: inside ++ .punchOut i .level q :: after) =
        ⟨p :: (inside.filterMap (Record.moveOf i .level)).map Prod.fst ++ [q],
          (inside.filterMap (Record.moveOf i .level)).filterMap fun m => pickLevel m.1 m.2⟩ ::
          rangesFrom i .level pickLevel none after) ∧
  (∀ i : Fin 64, rangesFrom i .cut pickCut none [] = [] ∧
    ∀ (r : Record) (rest : List Record), (∀ p, r ≠ .punchIn i .cut p) →
      rangesFrom i .cut pickCut none (r :: rest) = rangesFrom i .cut pickCut none rest) ∧
  (∀ (i : Fin 64) (p q : Nat) (inside after : List Record),
    (∀ r ∈ inside, ¬ r.bounds i .cut) →
      rangesFrom i .cut pickCut none (.punchIn i .cut p :: inside ++ .punchOut i .cut q :: after) =
        ⟨p :: (inside.filterMap (Record.moveOf i .cut)).map Prod.fst ++ [q],
          (inside.filterMap (Record.moveOf i .cut)).filterMap fun m => pickCut m.1 m.2⟩ ::
          rangesFrom i .cut pickCut none after) ∧
  (∀ (desk : Nat) (moves : List LevelMove) (r : Range LevelMove), (moves.map LevelMove.position).Pairwise (· < ·) →
    r.wf LevelMove.position →
    let merged := mergeLevelRange desk moves r
    let restore := (readLevelAt moves r.hi).getD (desk, false)
    (merged.map LevelMove.position).Pairwise (· < ·) ∧
    ∀ m : LevelMove,
      (m.position < r.lo ∨ r.hi < m.position → (m ∈ merged ↔ m ∈ moves)) ∧
      (r.lo ≤ m.position → m.position ≤ r.hi → (m ∈ merged ↔
        r.moves.reverse.find? (fun x => x.position == m.position) = some m ∨
          (m = ⟨r.hi, restore.1, restore.2⟩ ∧ ∀ x ∈ r.moves, x.position ≠ r.hi)))) ∧
  ∀ (desk : Bool) (moves : List CutMove) (r : Range CutMove), (moves.map CutMove.position).Pairwise (· < ·) →
    r.wf CutMove.position →
    let merged := mergeCutRange desk moves r
    (merged.map CutMove.position).Pairwise (· < ·) ∧
    ∀ m : CutMove,
      (m.position < r.lo ∨ r.hi < m.position → (m ∈ merged ↔ m ∈ moves)) ∧
      (r.lo ≤ m.position → m.position ≤ r.hi → (m ∈ merged ↔
        r.moves.reverse.find? (fun x => x.position == m.position) = some m ∨
          (m = ⟨r.hi, (readCutAt moves r.hi).getD desk⟩ ∧ ∀ x ∈ r.moves, x.position ≠ r.hi)))

/-- Every step keeps the store's lists strictly ascending and within 8,192 moves, with room for all that a merge can still add, and the
pass record consistent: journal and open punches within 2,048, punches open only while RECORDING and PLAYING, an empty journal and no
pass number in IDLE, and a merge list exactly while MERGING (R138, R152, R156, R159, R160). -/
def Obligations.StepKeepsStoreAndPassSafe : Prop :=
  ∀ s t : State, StoreSafe s → PassSafe s → step s = .next t → StoreSafe t ∧ PassSafe t

/-! ### Audio ports and control port (chapter 11) -/

/-- A port frame is held, replacing one already held. At every frame boundary the strip engine is handed each channel's sample of the
frame its port holds, 0 where it holds none; the ports that held one are RUNNING, the others SILENT, and INPUT SILENT is raised where
a RUNNING port held none (R166). At the same boundary the position advances while PLAYING, the step count and the refresh count advance
and wrap, and the silence count rises; of the group line, the surface port and the playback record nothing else changes but the lists of a
strip being merged (R136, R103, R133, R162; that a due step or refresh waits for its own command is the model's, log entry
5). Once totals and DIRECT values have been handed, each output port starts a frame with the clamped value of each map entry (R7, R167,
R168). -/
def Obligations.PortsTakeAndGiveTheirFrames : Prop :=
  (∀ (s : State) (port : Fin 8) (samples : Vector (BitVec 24) 8), s.resetPin = false →
    exec (.portFrameArrival port samples) s = .next (s.setPorts { s.ports with
      inputs := s.ports.inputs.set port { s.ports.inputs[port] with held := some samples } })) ∧
  (∀ (c : Instr) (s : State), s.resetPin = false → makesBoundary s c →
    ∃ (t : State) (x : Vector Int 64), exec c s = .next t ∧ t.engine.handed = some x ∧
      (∀ (c : Fin 64) (j k : Fin 8), k.val < s.rate.channels → c.val = j.val * s.rate.channels + k.val →
        x[c] = match s.ports.inputs[j].held with
          | none => 0
          | some samples => samples[k].toInt) ∧
      (∀ c : Fin 64, 8 * s.rate.channels ≤ c.val → x[c] = 0) ∧
      (∀ j : Fin 8, t.ports.inputs[j] = ⟨s.ports.inputs[j].held.isSome, none⟩) ∧
      (t.causeSet .inputSilent = true ↔ s.causeSet .inputSilent = true ∨
        ∃ j : Fin 8, s.ports.inputs[j].running = true ∧ s.ports.inputs[j].held = none) ∧
      t.ports.map = s.ports.map ∧ t.ports.emitted = s.ports.emitted ∧
      t.playback.position = (if s.playback.transport = .playing then (s.playback.position + 1) % 281474976710656
        else s.playback.position) ∧
      (s.playback.stepCount + 1 < s.rate.stepFrames → t.playback.stepCount = s.playback.stepCount + 1 ∧
        t.playback.stepDue = s.playback.stepDue) ∧
      (s.playback.stepCount + 1 = s.rate.stepFrames → t.playback.stepCount = 0 ∧ t.playback.stepDue = true) ∧
      t.group.refreshCount = (s.group.refreshCount + 1) % (32 * s.rate.refreshSpacing) ∧
      (∀ g : Fin 32, t.group.refreshCount = s.rate.refreshSpacing * g.val → t.group.refreshDue = some g) ∧
      ((∀ g : Fin 32, t.group.refreshCount ≠ s.rate.refreshSpacing * g.val) → t.group.refreshDue = s.group.refreshDue) ∧
      t.group = { s.group with refreshCount := t.group.refreshCount, refreshDue := t.group.refreshDue } ∧
      t.surface = { s.surface with silence := min s.rate.silenceWindow (s.surface.silence + 1) } ∧
      t.playback = { s.playback with
        position := t.playback.position, stepCount := t.playback.stepCount, stepDue := t.playback.stepDue
        strips := t.playback.strips }) ∧
  ∀ (s : State) (direct : Vector Int 64), s.resetPin = false → s.ports.totalsHanded = true → s.ports.direct = some direct →
    ∃ t, exec .outputPortFrameStart s = .next t ∧
      t = s.setPorts { s.ports with totalsHanded := false, emitted := t.ports.emitted } ∧
      (∀ j : Fin 8, t.ports.emitted[j].length = s.rate.channels) ∧
      ∀ (c : Fin 64) (j : Fin 8), c.val / s.rate.channels = j.val →
        t.ports.emitted[j][c.val % s.rate.channels]? = some (max (-8388608) (min 8388607 (match s.ports.map[c] with
          | .bus b => (s.ports.totals.lookup b.val).getD 0
          | .direct i => direct[i]
          | .silence => 0)))

/-- READ CAUSES reports the cause set with cause i in bit i, CLEAR CAUSES clears exactly the selected causes, WRITE ATTENTION MASK replaces the
mask, READ STRIP reports every value R37 lists of an existing strip, in the sizes and codes of R182 (where the layout is an inference: log
entry 23); none changes anything else (R37, R171, R172, R181). The attention line is asserted exactly while some cause is set and unmasked and
RESET is not asserted (R172, R173). A request whose command byte names no command, whose data is not of its command's length, or whose object
address should be 0 and is not replies RANGE and changes nothing, in every state, MERGING among them (R169, R170, R182; that RANGE is judged
before BUSY is the model's order, log entry 15), and one cut short has no effect. In a transaction the port sends 00h during the request, two
turnaround bytes of 00h, the status byte, the reply data, and 00h past their end, one byte for each received; of an incomplete request, and
while RESET is asserted, 00h throughout (R169, R181). -/
def Obligations.ControlPortReadsAndWritesItsRegisters : Prop :=
  ∀ s : State,
    (s.attentionLine = true ↔ s.resetPin = false ∧
      ∃ c : Cause, s.causeSet c = true ∧ s.control.mask.getLsbD c.position = true) ∧
    exec .controlRequestAbandoned s = .next s ∧
    (∀ (received : List Byte) (t : State), exec (decodeRequest received) s = .next t →
      let sent := t.sentBytes received
      sent.length = received.length ∧
      (s.resetPin = true ∨ decodeRequest received = .controlRequestAbandoned → ∀ b ∈ sent, b = 0) ∧
      (s.resetPin = false → ∀ command address data, (decodeRequest received).request = some (command, address, data) →
        ∃ r, t.control.reply = some r ∧ ∀ k : Nat, k < received.length →
          sent[k]? = some (if k < 6 + data.length then 0
            else if k = 6 + data.length then (match r.status with
              | .ok => 0
              | .range => 1
              | .busy => 2
              | .wrongState => 3
              | .storeFull => 4)
            else r.data.getD (k - (7 + data.length)) 0))) ∧
    (s.resetPin = false →
      let replies (c : Instr) (k : Control) (r : Reply) : Prop := exec c s = .next (s.setControl { k with reply := some r })
      (∀ command address data, replies (.commandByteNamesNoCommand command address data) s.control ⟨.range, []⟩) ∧
      (∀ (c : Instr) (command : Byte) (address : BitVec 16) (data : List Byte), c.request = some (command, address, data) →
        data.length ≠ commandLength command ∨ (namesNoObject command = true ∧ address ≠ 0) → replies c s.control ⟨.range, []⟩) ∧
      (∃ high low : Byte, replies (.readCauses 0 []) s.control ⟨.ok, [high, low]⟩ ∧
        (∀ c : Cause, (high ++ low).getLsbD c.position = s.causeSet c) ∧ (high ++ low).getLsbD 15 = false) ∧
      (∀ high low : Byte, ∃ causes mask : BitVec 15,
        replies (.clearCauses 0 [high, low]) { s.control with causes := causes } ⟨.ok, []⟩ ∧
        replies (.writeAttentionMask 0 [high, low]) { s.control with mask := mask } ⟨.ok, []⟩ ∧
        ∀ c : Cause, causes.getLsbD c.position = (s.causeSet c && !(high ++ low).getLsbD c.position) ∧
          mask.getLsbD c.position = (high ++ low).getLsbD c.position) ∧
      ∀ address : BitVec 16,
        (∀ i : Fin 64, address.toNat = i.val → i.val < s.rate.strips → StripsTuned s →
          let two (v : Int) : List Byte := beSigned 2 v
          let four (v : Int) : List Byte := beSigned 4 v
          let st := s.strips[i]
          let source (v : Source) : List Byte := placeOf [.desk, .store] v
          let cutRamp := fields [four st.cutRamp.current, placeOf [.cutting, .opening] st.cutRamp.direction]
          replies (.readStrip address []) s.control ⟨.ok, fields [
            (match st.role with
              | .audio => [0, 0, 0]
              | .groupMaster g => 1 :: 1 :: beBytes 1 g),
            orNone 1 (st.input.map fun c => beBytes 1 c.val), two st.trim, flagByte st.manualCut, flagByte st.solo, flagByte st.soloSafe,
            listed (st.groups.map fun g => beBytes 1 g.val), placeOf [.off, .read, .touch, .latch, .write] st.mode, two st.glideSteps,
            two st.staticCode, two st.liveCode, source st.levelSource, two st.storeLevel, source st.cutSource, flagByte st.storeCut,
            fields (st.sends.toList.map fun send => fields
              [beBytes 1 send.bus, two send.code, placeOf [.pre, .post] send.tap, flagByte send.on]),
            four st.levelRamp.current, four st.levelRamp.target, four st.levelRamp.step, beBytes 1 st.levelRamp.count, cutRamp,
            flagByte st.present,
            two (match st.role with
              | .audio => st.effLevel
              | .groupMaster _ => if st.faderCode = 0 then -1020 else (st.faderCode : Int) - 900),
            flagByte (match st.role with
              | .audio => st.effCut
              | .groupMaster _ => st.modeCut),
            four st.levelRamp.current, four st.levelRamp.target, beBytes 1 st.levelRamp.count, cutRamp,
            flagByte s.group.soloLevel]⟩) ∧
        (s.rate.strips ≤ address.toNat → replies (.readStrip address []) s.control ⟨.range, []⟩))

/-- Every well-formed control command is read back from its request bytes, whatever bytes follow them, and any shorter beginning of
them is an abandoned request; request bytes that are not abandoned begin with the encoding of the command read from them (R169, R181).
The 15 data bytes of WRITE STRIP are read field by field, and refused exactly where a coded field holds a code the table does not list
or the member groups are out of range or repeat (R35, R182). -/
def Obligations.ControlRequestsReadBack : Prop :=
  (∀ (i : Instr) (bytes : List Byte), i.wellFormed = true → i.encodeRequest = some bytes →
    (∀ rest, decodeRequest (bytes ++ rest) = i) ∧
    ∀ n, n < bytes.length → decodeRequest (bytes.take n) = .controlRequestAbandoned) ∧
  (∀ bytes : List Byte, decodeRequest bytes ≠ .controlRequestAbandoned →
    (decodeRequest bytes).wellFormed = true ∧ ∃ request rest, (decodeRequest bytes).encodeRequest = some request ∧ bytes = request ++ rest) ∧
  (∀ data : List Byte, data.length ≠ 15 → readStripData data = none) ∧
  ∀ role input t1 t0 flags count g0 g1 g2 g3 mode s1 s0 c1 c0 : Byte,
    let data := [role, input, t1, t0, flags, count, g0, g1, g2, g3, mode, s1, s0, c1, c0]
    let named := [g0, g1, g2, g3].take count.toNat
    (readStripData data ≠ none ↔ role.toNat < 160 ∧ (input.toNat ≤ 63 ∨ input = 0xFF#8) ∧ count.toNat ≤ 4 ∧
      (∀ g ∈ named, g.toNat ≤ 31) ∧ named.Nodup ∧ mode.toNat ≤ 4) ∧
    ∀ x, readStripData data = some x →
      (role.toNat ≤ 127 → x.role = .audio) ∧ (∀ g : Fin 32, role.toNat = 128 + g.val → x.role = .groupMaster g) ∧
      x.input.map Fin.val = (if input = 0xFF#8 then none else some input.toNat) ∧ x.trim = 256 * t1.toNat + t0.toNat ∧
      x.manualCut = flags.getLsbD 0 ∧ x.solo = flags.getLsbD 1 ∧ x.soloSafe = flags.getLsbD 2 ∧
      x.groups.map Fin.val = named.map BitVec.toNat ∧ x.mode.code = mode.toNat ∧ x.glideSteps = 256 * s1.toNat + s0.toNat ∧
      x.staticCode = 256 * c1.toNat + c0.toNat

/-! ### Restart and reset (chapter 11) -/

/-- ENGINE RESTART, block by block. Kept: straps, clock, every written field, both configurations, transport, store, input ports, output map, mask and
causes. Strips: every gain stands at the end its ramp was moving to, and the held stem sums are discarded (R16, R20, R31); the input samples handed
are kept (log entry 27). Transmitter: idle, and driving unless strapped silent (R53, R54). Peers: reset, with PEER CHANGE where one was not ABSENT
(R71). Summer: ramps at rest at their ends, suspensions, meters and own lists discarded (R91). Group line: SEEKING, table cleared, refresh count 0, no
refresh waiting (log entry 5), and level and cut of each mastered group enqueued again, ascending, as far as the queue has room for them, on a
strapped silent station taken at once (R107, R101, R106; LEVEL before CUT: log entry 44). Surface: every fader untouched with no baseline (R134).
Automation: every existing strip in FOLLOW, untouched, read again and handed its values (R150), the fields of a glide it ends standing (log entry
52). Pass: IDLE, and MERGE ABORTED where a merge stopped
(R164). Ports: no total (R168); the marks of what was handed stay (log entry 26). The order of the blocks is the model's (log entry 22). -/
def Obligations.EngineRestartTakesEveryBlock : Prop :=
  ∀ s : State, s.resetPin = false → ∃ t, exec (.engineRestart 0 []) s = .next t ∧ t.control.reply = some ⟨.ok, []⟩ ∧
    t.control.mask = s.control.mask ∧
    (t.causeSet .peerChange = true ↔ s.causeSet .peerChange = true ∨
      ∃ j : Fin 16, j ≠ s.straps.slot ∧ s.peers[j].state ≠ .absent) ∧
    (t.causeSet .mergeAborted = true ↔ s.causeSet .mergeAborted = true ∨ s.pass.state = .merging) ∧
    (∀ c, c ≠ .peerChange → c ≠ .mergeAborted → t.causeSet c = s.causeSet c) ∧
    t.straps = s.straps ∧ t.resetPin = s.resetPin ∧ t.clock = s.clock ∧ t.pending = s.pending ∧
    t.engine = { s.engine with heldStems := [], restarted := true } ∧
    (∀ i : Fin 64, Strip.sameWritten t.strips[i] s.strips[i] ∧ t.strips[i].sends = s.strips[i].sends ∧
      t.strips[i].liveCode = s.strips[i].liveCode ∧ t.strips[i].present = s.strips[i].present ∧
      t.strips[i].levelRamp.current = s.strips[i].levelRamp.target ∧
      t.strips[i].cutRamp.current = s.strips[i].cutRamp.direction.travelEnd) ∧
    t.tx = ⟨if s.tx.drive = .strapSilent then .strapSilent else .driving, none, none, [], 0⟩ ∧
    (∀ j : Fin 16, t.peers[j] = if j = s.straps.slot then s.peers[j] else ⟨.absent, 0, 0, 0, none, [], 0, 0, 0, 0, 0, 0⟩) ∧
    (t.summer.config = s.summer.config ∧ t.summer.pending = s.summer.pending ∧ t.summer.suspended = [] ∧
      t.summer.ownPremix = [] ∧ t.summer.ownStem = [] ∧ (∀ b : Fin 128, t.summer.meters[b] = ⟨0, 0⟩) ∧
      ∀ p : Fin 64, t.summer.premix[p] = { s.summer.premix[p] with
        levelRamp :=
          ⟨s.summer.premix[p].levelRamp.target, s.summer.premix[p].levelRamp.target, 0, 0, ⟨s.summer.premix[p].levelRamp.target, 0, 0⟩⟩
        cutRamp := ⟨s.summer.premix[p].cutRamp.direction.travelEnd, s.summer.premix[p].cutRamp.direction⟩ }) ∧
    (t.group.line = .seeking ∧ t.group.refreshCount = 0 ∧ t.group.refreshDue = none ∧ t.group.soloLevel = s.group.soloLevel ∧
      t.group.sent = s.group.sent ∧ t.group.taken = s.group.taken ∧ t.group.lineErrors = s.group.lineErrors ∧
      t.group.losses = s.group.losses ∧ t.group.mastered.map Master.group = s.group.mastered.map Master.group ∧
      (s.tx.drive ≠ .strapSilent → (∀ g : Fin 32, t.group.table[g] = ⟨0, false, none, false⟩) ∧
        (StripsTuned s →
          t.group.queue = ((s.group.mastered.zip t.group.mastered).flatMap fun (m, now) =>
            [(⟨.groupLevel, m.group.val, m.offset, none⟩ : QueueEntry),
              ⟨.groupCut, m.group.val, if now.cut then 1 else 0, none⟩]).take 38 ∧
          (s.group.mastered.length ≤ 19 → t.group.drops = s.group.drops))) ∧
      (StripsTuned s → t.group.mastered.map Master.enqueued = s.group.mastered.map Master.offset) ∧
      (s.tx.drive = .strapSilent → t.group.queue = [] ∧ t.group.drops = s.group.drops ∧
        (StripsTuned s → ∀ g : Fin 32,
          (∀ m ∈ t.group.mastered, m.group = g →
            t.group.table[g] = ⟨max (-1020) (min 120 m.enqueued), m.cut, some s.straps.slot, true⟩) ∧
          ((∀ m ∈ t.group.mastered, m.group ≠ g) → t.group.table[g] = ⟨0, false, none, false⟩)))) ∧
    (t.surface.link = s.surface.link ∧ t.surface.silence = s.surface.silence ∧ t.surface.scanErrors = s.surface.scanErrors ∧
      ∀ i : Fin 64, t.surface.faders[i] = { s.surface.faders[i] with
        baseline := none, touched := false, debounce := 0, untouchedScans := 0, touchedScans := 0 }) ∧
    (t.playback.position = s.playback.position ∧ t.playback.transport = s.playback.transport ∧
      t.playback.stepCount = s.playback.stepCount ∧ t.playback.positionErrors = s.playback.positionErrors ∧
      t.playback.jumps = s.playback.jumps ∧
      ∀ i : Fin 64, s.hasStrip i = true →
        let a := s.playback.strips[i]
        let reads : Prop := s.strips[i].mode = .read ∨ s.strips[i].mode = .touch ∨ s.strips[i].mode = .latch
        let level := (readLevelAt a.levelMoves s.playback.position).map Prod.fst
        (reads → t.playback.strips[i] = { a with
          touched := false, phase := .follow, cutLive := false, readLevel := level
          readCut := readCutAt a.cutMoves s.playback.position }) ∧
        (¬ reads → t.playback.strips[i] = { a with touched := false, phase := .follow, cutLive := false }) ∧
        (t.strips[i].levelSource = .store ↔ reads ∧ level ≠ none) ∧
        (∀ code, reads → level = some code → t.strips[i].storeLevel = code) ∧
        (t.strips[i].cutSource = .store ↔ reads ∧ a.cutMoves ≠ [])) ∧
    (s.pass.state = .idle → t.pass = s.pass) ∧
    (s.pass.state ≠ .idle → t.pass.openPunches = 0 ∧ t.pass = { s.pass with
      state := .idle, number := none, journal := [], mergeList := [], punches := t.pass.punches }) ∧
    t.ports = { s.ports with totals := [] }

/-- The machine right after reset is safe, with every strapping: each invariant that a step keeps holds of it. -/
def Obligations.ResetStatesAreSafe : Prop := Safe State.reset ∧ ∀ straps : Straps, Safe (State.resetWith straps)
end

