-- ==== Sys2Proof/Laws/State.lean ====
section
/-! SUPPORT. What each update of State leaves in each field: one lemma for each field of each update, true by rfl. -/

namespace Sys2Proof.Machine

@[simp] theorem State.setPending_pending (s : State) (v : List Instr) : (s.setPending v).pending = v := rfl
@[simp] theorem State.setPending_resetPin (s : State) (v : List Instr) : (s.setPending v).resetPin = s.resetPin := rfl
@[simp] theorem State.setPending_straps (s : State) (v : List Instr) : (s.setPending v).straps = s.straps := rfl
@[simp] theorem State.setPending_clock (s : State) (v : List Instr) : (s.setPending v).clock = s.clock := rfl
@[simp] theorem State.setPending_strips (s : State) (v : List Instr) : (s.setPending v).strips = s.strips := rfl
@[simp] theorem State.setPending_engine (s : State) (v : List Instr) : (s.setPending v).engine = s.engine := rfl
@[simp] theorem State.setPending_tx (s : State) (v : List Instr) : (s.setPending v).tx = s.tx := rfl
@[simp] theorem State.setPending_peers (s : State) (v : List Instr) : (s.setPending v).peers = s.peers := rfl
@[simp] theorem State.setPending_summer (s : State) (v : List Instr) : (s.setPending v).summer = s.summer := rfl
@[simp] theorem State.setPending_group (s : State) (v : List Instr) : (s.setPending v).group = s.group := rfl
@[simp] theorem State.setPending_surface (s : State) (v : List Instr) : (s.setPending v).surface = s.surface := rfl
@[simp] theorem State.setPending_playback (s : State) (v : List Instr) : (s.setPending v).playback = s.playback := rfl
@[simp] theorem State.setPending_pass (s : State) (v : List Instr) : (s.setPending v).pass = s.pass := rfl
@[simp] theorem State.setPending_ports (s : State) (v : List Instr) : (s.setPending v).ports = s.ports := rfl
@[simp] theorem State.setPending_control (s : State) (v : List Instr) : (s.setPending v).control = s.control := rfl

@[simp] theorem State.setResetPin_pending (s : State) (v : Bool) : (s.setResetPin v).pending = s.pending := rfl
@[simp] theorem State.setResetPin_resetPin (s : State) (v : Bool) : (s.setResetPin v).resetPin = v := rfl
@[simp] theorem State.setResetPin_straps (s : State) (v : Bool) : (s.setResetPin v).straps = s.straps := rfl
@[simp] theorem State.setResetPin_clock (s : State) (v : Bool) : (s.setResetPin v).clock = s.clock := rfl
@[simp] theorem State.setResetPin_strips (s : State) (v : Bool) : (s.setResetPin v).strips = s.strips := rfl
@[simp] theorem State.setResetPin_engine (s : State) (v : Bool) : (s.setResetPin v).engine = s.engine := rfl
@[simp] theorem State.setResetPin_tx (s : State) (v : Bool) : (s.setResetPin v).tx = s.tx := rfl
@[simp] theorem State.setResetPin_peers (s : State) (v : Bool) : (s.setResetPin v).peers = s.peers := rfl
@[simp] theorem State.setResetPin_summer (s : State) (v : Bool) : (s.setResetPin v).summer = s.summer := rfl
@[simp] theorem State.setResetPin_group (s : State) (v : Bool) : (s.setResetPin v).group = s.group := rfl
@[simp] theorem State.setResetPin_surface (s : State) (v : Bool) : (s.setResetPin v).surface = s.surface := rfl
@[simp] theorem State.setResetPin_playback (s : State) (v : Bool) : (s.setResetPin v).playback = s.playback := rfl
@[simp] theorem State.setResetPin_pass (s : State) (v : Bool) : (s.setResetPin v).pass = s.pass := rfl
@[simp] theorem State.setResetPin_ports (s : State) (v : Bool) : (s.setResetPin v).ports = s.ports := rfl
@[simp] theorem State.setResetPin_control (s : State) (v : Bool) : (s.setResetPin v).control = s.control := rfl

@[simp] theorem State.setStraps_pending (s : State) (v : Straps) : (s.setStraps v).pending = s.pending := rfl
@[simp] theorem State.setStraps_resetPin (s : State) (v : Straps) : (s.setStraps v).resetPin = s.resetPin := rfl
@[simp] theorem State.setStraps_straps (s : State) (v : Straps) : (s.setStraps v).straps = v := rfl
@[simp] theorem State.setStraps_clock (s : State) (v : Straps) : (s.setStraps v).clock = s.clock := rfl
@[simp] theorem State.setStraps_strips (s : State) (v : Straps) : (s.setStraps v).strips = s.strips := rfl
@[simp] theorem State.setStraps_engine (s : State) (v : Straps) : (s.setStraps v).engine = s.engine := rfl
@[simp] theorem State.setStraps_tx (s : State) (v : Straps) : (s.setStraps v).tx = s.tx := rfl
@[simp] theorem State.setStraps_peers (s : State) (v : Straps) : (s.setStraps v).peers = s.peers := rfl
@[simp] theorem State.setStraps_summer (s : State) (v : Straps) : (s.setStraps v).summer = s.summer := rfl
@[simp] theorem State.setStraps_group (s : State) (v : Straps) : (s.setStraps v).group = s.group := rfl
@[simp] theorem State.setStraps_surface (s : State) (v : Straps) : (s.setStraps v).surface = s.surface := rfl
@[simp] theorem State.setStraps_playback (s : State) (v : Straps) : (s.setStraps v).playback = s.playback := rfl
@[simp] theorem State.setStraps_pass (s : State) (v : Straps) : (s.setStraps v).pass = s.pass := rfl
@[simp] theorem State.setStraps_ports (s : State) (v : Straps) : (s.setStraps v).ports = s.ports := rfl
@[simp] theorem State.setStraps_control (s : State) (v : Straps) : (s.setStraps v).control = s.control := rfl

@[simp] theorem State.setClock_pending (s : State) (v : Clock) : (s.setClock v).pending = s.pending := rfl
@[simp] theorem State.setClock_resetPin (s : State) (v : Clock) : (s.setClock v).resetPin = s.resetPin := rfl
@[simp] theorem State.setClock_straps (s : State) (v : Clock) : (s.setClock v).straps = s.straps := rfl
@[simp] theorem State.setClock_clock (s : State) (v : Clock) : (s.setClock v).clock = v := rfl
@[simp] theorem State.setClock_strips (s : State) (v : Clock) : (s.setClock v).strips = s.strips := rfl
@[simp] theorem State.setClock_engine (s : State) (v : Clock) : (s.setClock v).engine = s.engine := rfl
@[simp] theorem State.setClock_tx (s : State) (v : Clock) : (s.setClock v).tx = s.tx := rfl
@[simp] theorem State.setClock_peers (s : State) (v : Clock) : (s.setClock v).peers = s.peers := rfl
@[simp] theorem State.setClock_summer (s : State) (v : Clock) : (s.setClock v).summer = s.summer := rfl
@[simp] theorem State.setClock_group (s : State) (v : Clock) : (s.setClock v).group = s.group := rfl
@[simp] theorem State.setClock_surface (s : State) (v : Clock) : (s.setClock v).surface = s.surface := rfl
@[simp] theorem State.setClock_playback (s : State) (v : Clock) : (s.setClock v).playback = s.playback := rfl
@[simp] theorem State.setClock_pass (s : State) (v : Clock) : (s.setClock v).pass = s.pass := rfl
@[simp] theorem State.setClock_ports (s : State) (v : Clock) : (s.setClock v).ports = s.ports := rfl
@[simp] theorem State.setClock_control (s : State) (v : Clock) : (s.setClock v).control = s.control := rfl

@[simp] theorem State.setStrips_pending (s : State) (v : Vector Strip 64) : (s.setStrips v).pending = s.pending := rfl
@[simp] theorem State.setStrips_resetPin (s : State) (v : Vector Strip 64) : (s.setStrips v).resetPin = s.resetPin := rfl
@[simp] theorem State.setStrips_straps (s : State) (v : Vector Strip 64) : (s.setStrips v).straps = s.straps := rfl
@[simp] theorem State.setStrips_clock (s : State) (v : Vector Strip 64) : (s.setStrips v).clock = s.clock := rfl
@[simp] theorem State.setStrips_strips (s : State) (v : Vector Strip 64) : (s.setStrips v).strips = v := rfl
@[simp] theorem State.setStrips_engine (s : State) (v : Vector Strip 64) : (s.setStrips v).engine = s.engine := rfl
@[simp] theorem State.setStrips_tx (s : State) (v : Vector Strip 64) : (s.setStrips v).tx = s.tx := rfl
@[simp] theorem State.setStrips_peers (s : State) (v : Vector Strip 64) : (s.setStrips v).peers = s.peers := rfl
@[simp] theorem State.setStrips_summer (s : State) (v : Vector Strip 64) : (s.setStrips v).summer = s.summer := rfl
@[simp] theorem State.setStrips_group (s : State) (v : Vector Strip 64) : (s.setStrips v).group = s.group := rfl
@[simp] theorem State.setStrips_surface (s : State) (v : Vector Strip 64) : (s.setStrips v).surface = s.surface := rfl
@[simp] theorem State.setStrips_playback (s : State) (v : Vector Strip 64) : (s.setStrips v).playback = s.playback := rfl
@[simp] theorem State.setStrips_pass (s : State) (v : Vector Strip 64) : (s.setStrips v).pass = s.pass := rfl
@[simp] theorem State.setStrips_ports (s : State) (v : Vector Strip 64) : (s.setStrips v).ports = s.ports := rfl
@[simp] theorem State.setStrips_control (s : State) (v : Vector Strip 64) : (s.setStrips v).control = s.control := rfl

@[simp] theorem State.setEngine_pending (s : State) (v : Engine) : (s.setEngine v).pending = s.pending := rfl
@[simp] theorem State.setEngine_resetPin (s : State) (v : Engine) : (s.setEngine v).resetPin = s.resetPin := rfl
@[simp] theorem State.setEngine_straps (s : State) (v : Engine) : (s.setEngine v).straps = s.straps := rfl
@[simp] theorem State.setEngine_clock (s : State) (v : Engine) : (s.setEngine v).clock = s.clock := rfl
@[simp] theorem State.setEngine_strips (s : State) (v : Engine) : (s.setEngine v).strips = s.strips := rfl
@[simp] theorem State.setEngine_engine (s : State) (v : Engine) : (s.setEngine v).engine = v := rfl
@[simp] theorem State.setEngine_tx (s : State) (v : Engine) : (s.setEngine v).tx = s.tx := rfl
@[simp] theorem State.setEngine_peers (s : State) (v : Engine) : (s.setEngine v).peers = s.peers := rfl
@[simp] theorem State.setEngine_summer (s : State) (v : Engine) : (s.setEngine v).summer = s.summer := rfl
@[simp] theorem State.setEngine_group (s : State) (v : Engine) : (s.setEngine v).group = s.group := rfl
@[simp] theorem State.setEngine_surface (s : State) (v : Engine) : (s.setEngine v).surface = s.surface := rfl
@[simp] theorem State.setEngine_playback (s : State) (v : Engine) : (s.setEngine v).playback = s.playback := rfl
@[simp] theorem State.setEngine_pass (s : State) (v : Engine) : (s.setEngine v).pass = s.pass := rfl
@[simp] theorem State.setEngine_ports (s : State) (v : Engine) : (s.setEngine v).ports = s.ports := rfl
@[simp] theorem State.setEngine_control (s : State) (v : Engine) : (s.setEngine v).control = s.control := rfl

@[simp] theorem State.setTx_pending (s : State) (v : LaneTx) : (s.setTx v).pending = s.pending := rfl
@[simp] theorem State.setTx_resetPin (s : State) (v : LaneTx) : (s.setTx v).resetPin = s.resetPin := rfl
@[simp] theorem State.setTx_straps (s : State) (v : LaneTx) : (s.setTx v).straps = s.straps := rfl
@[simp] theorem State.setTx_clock (s : State) (v : LaneTx) : (s.setTx v).clock = s.clock := rfl
@[simp] theorem State.setTx_strips (s : State) (v : LaneTx) : (s.setTx v).strips = s.strips := rfl
@[simp] theorem State.setTx_engine (s : State) (v : LaneTx) : (s.setTx v).engine = s.engine := rfl
@[simp] theorem State.setTx_tx (s : State) (v : LaneTx) : (s.setTx v).tx = v := rfl
@[simp] theorem State.setTx_peers (s : State) (v : LaneTx) : (s.setTx v).peers = s.peers := rfl
@[simp] theorem State.setTx_summer (s : State) (v : LaneTx) : (s.setTx v).summer = s.summer := rfl
@[simp] theorem State.setTx_group (s : State) (v : LaneTx) : (s.setTx v).group = s.group := rfl
@[simp] theorem State.setTx_surface (s : State) (v : LaneTx) : (s.setTx v).surface = s.surface := rfl
@[simp] theorem State.setTx_playback (s : State) (v : LaneTx) : (s.setTx v).playback = s.playback := rfl
@[simp] theorem State.setTx_pass (s : State) (v : LaneTx) : (s.setTx v).pass = s.pass := rfl
@[simp] theorem State.setTx_ports (s : State) (v : LaneTx) : (s.setTx v).ports = s.ports := rfl
@[simp] theorem State.setTx_control (s : State) (v : LaneTx) : (s.setTx v).control = s.control := rfl

@[simp] theorem State.setPeers_pending (s : State) (v : Vector Peer 16) : (s.setPeers v).pending = s.pending := rfl
@[simp] theorem State.setPeers_resetPin (s : State) (v : Vector Peer 16) : (s.setPeers v).resetPin = s.resetPin := rfl
@[simp] theorem State.setPeers_straps (s : State) (v : Vector Peer 16) : (s.setPeers v).straps = s.straps := rfl
@[simp] theorem State.setPeers_clock (s : State) (v : Vector Peer 16) : (s.setPeers v).clock = s.clock := rfl
@[simp] theorem State.setPeers_strips (s : State) (v : Vector Peer 16) : (s.setPeers v).strips = s.strips := rfl
@[simp] theorem State.setPeers_engine (s : State) (v : Vector Peer 16) : (s.setPeers v).engine = s.engine := rfl
@[simp] theorem State.setPeers_tx (s : State) (v : Vector Peer 16) : (s.setPeers v).tx = s.tx := rfl
@[simp] theorem State.setPeers_peers (s : State) (v : Vector Peer 16) : (s.setPeers v).peers = v := rfl
@[simp] theorem State.setPeers_summer (s : State) (v : Vector Peer 16) : (s.setPeers v).summer = s.summer := rfl
@[simp] theorem State.setPeers_group (s : State) (v : Vector Peer 16) : (s.setPeers v).group = s.group := rfl
@[simp] theorem State.setPeers_surface (s : State) (v : Vector Peer 16) : (s.setPeers v).surface = s.surface := rfl
@[simp] theorem State.setPeers_playback (s : State) (v : Vector Peer 16) : (s.setPeers v).playback = s.playback := rfl
@[simp] theorem State.setPeers_pass (s : State) (v : Vector Peer 16) : (s.setPeers v).pass = s.pass := rfl
@[simp] theorem State.setPeers_ports (s : State) (v : Vector Peer 16) : (s.setPeers v).ports = s.ports := rfl
@[simp] theorem State.setPeers_control (s : State) (v : Vector Peer 16) : (s.setPeers v).control = s.control := rfl

@[simp] theorem State.setSummer_pending (s : State) (v : Summer) : (s.setSummer v).pending = s.pending := rfl
@[simp] theorem State.setSummer_resetPin (s : State) (v : Summer) : (s.setSummer v).resetPin = s.resetPin := rfl
@[simp] theorem State.setSummer_straps (s : State) (v : Summer) : (s.setSummer v).straps = s.straps := rfl
@[simp] theorem State.setSummer_clock (s : State) (v : Summer) : (s.setSummer v).clock = s.clock := rfl
@[simp] theorem State.setSummer_strips (s : State) (v : Summer) : (s.setSummer v).strips = s.strips := rfl
@[simp] theorem State.setSummer_engine (s : State) (v : Summer) : (s.setSummer v).engine = s.engine := rfl
@[simp] theorem State.setSummer_tx (s : State) (v : Summer) : (s.setSummer v).tx = s.tx := rfl
@[simp] theorem State.setSummer_peers (s : State) (v : Summer) : (s.setSummer v).peers = s.peers := rfl
@[simp] theorem State.setSummer_summer (s : State) (v : Summer) : (s.setSummer v).summer = v := rfl
@[simp] theorem State.setSummer_group (s : State) (v : Summer) : (s.setSummer v).group = s.group := rfl
@[simp] theorem State.setSummer_surface (s : State) (v : Summer) : (s.setSummer v).surface = s.surface := rfl
@[simp] theorem State.setSummer_playback (s : State) (v : Summer) : (s.setSummer v).playback = s.playback := rfl
@[simp] theorem State.setSummer_pass (s : State) (v : Summer) : (s.setSummer v).pass = s.pass := rfl
@[simp] theorem State.setSummer_ports (s : State) (v : Summer) : (s.setSummer v).ports = s.ports := rfl
@[simp] theorem State.setSummer_control (s : State) (v : Summer) : (s.setSummer v).control = s.control := rfl

@[simp] theorem State.setGroup_pending (s : State) (v : GroupLine) : (s.setGroup v).pending = s.pending := rfl
@[simp] theorem State.setGroup_resetPin (s : State) (v : GroupLine) : (s.setGroup v).resetPin = s.resetPin := rfl
@[simp] theorem State.setGroup_straps (s : State) (v : GroupLine) : (s.setGroup v).straps = s.straps := rfl
@[simp] theorem State.setGroup_clock (s : State) (v : GroupLine) : (s.setGroup v).clock = s.clock := rfl
@[simp] theorem State.setGroup_strips (s : State) (v : GroupLine) : (s.setGroup v).strips = s.strips := rfl
@[simp] theorem State.setGroup_engine (s : State) (v : GroupLine) : (s.setGroup v).engine = s.engine := rfl
@[simp] theorem State.setGroup_tx (s : State) (v : GroupLine) : (s.setGroup v).tx = s.tx := rfl
@[simp] theorem State.setGroup_peers (s : State) (v : GroupLine) : (s.setGroup v).peers = s.peers := rfl
@[simp] theorem State.setGroup_summer (s : State) (v : GroupLine) : (s.setGroup v).summer = s.summer := rfl
@[simp] theorem State.setGroup_group (s : State) (v : GroupLine) : (s.setGroup v).group = v := rfl
@[simp] theorem State.setGroup_surface (s : State) (v : GroupLine) : (s.setGroup v).surface = s.surface := rfl
@[simp] theorem State.setGroup_playback (s : State) (v : GroupLine) : (s.setGroup v).playback = s.playback := rfl
@[simp] theorem State.setGroup_pass (s : State) (v : GroupLine) : (s.setGroup v).pass = s.pass := rfl
@[simp] theorem State.setGroup_ports (s : State) (v : GroupLine) : (s.setGroup v).ports = s.ports := rfl
@[simp] theorem State.setGroup_control (s : State) (v : GroupLine) : (s.setGroup v).control = s.control := rfl

@[simp] theorem State.setSurface_pending (s : State) (v : Surface) : (s.setSurface v).pending = s.pending := rfl
@[simp] theorem State.setSurface_resetPin (s : State) (v : Surface) : (s.setSurface v).resetPin = s.resetPin := rfl
@[simp] theorem State.setSurface_straps (s : State) (v : Surface) : (s.setSurface v).straps = s.straps := rfl
@[simp] theorem State.setSurface_clock (s : State) (v : Surface) : (s.setSurface v).clock = s.clock := rfl
@[simp] theorem State.setSurface_strips (s : State) (v : Surface) : (s.setSurface v).strips = s.strips := rfl
@[simp] theorem State.setSurface_engine (s : State) (v : Surface) : (s.setSurface v).engine = s.engine := rfl
@[simp] theorem State.setSurface_tx (s : State) (v : Surface) : (s.setSurface v).tx = s.tx := rfl
@[simp] theorem State.setSurface_peers (s : State) (v : Surface) : (s.setSurface v).peers = s.peers := rfl
@[simp] theorem State.setSurface_summer (s : State) (v : Surface) : (s.setSurface v).summer = s.summer := rfl
@[simp] theorem State.setSurface_group (s : State) (v : Surface) : (s.setSurface v).group = s.group := rfl
@[simp] theorem State.setSurface_surface (s : State) (v : Surface) : (s.setSurface v).surface = v := rfl
@[simp] theorem State.setSurface_playback (s : State) (v : Surface) : (s.setSurface v).playback = s.playback := rfl
@[simp] theorem State.setSurface_pass (s : State) (v : Surface) : (s.setSurface v).pass = s.pass := rfl
@[simp] theorem State.setSurface_ports (s : State) (v : Surface) : (s.setSurface v).ports = s.ports := rfl
@[simp] theorem State.setSurface_control (s : State) (v : Surface) : (s.setSurface v).control = s.control := rfl

@[simp] theorem State.setPlayback_pending (s : State) (v : Playback) : (s.setPlayback v).pending = s.pending := rfl
@[simp] theorem State.setPlayback_resetPin (s : State) (v : Playback) : (s.setPlayback v).resetPin = s.resetPin := rfl
@[simp] theorem State.setPlayback_straps (s : State) (v : Playback) : (s.setPlayback v).straps = s.straps := rfl
@[simp] theorem State.setPlayback_clock (s : State) (v : Playback) : (s.setPlayback v).clock = s.clock := rfl
@[simp] theorem State.setPlayback_strips (s : State) (v : Playback) : (s.setPlayback v).strips = s.strips := rfl
@[simp] theorem State.setPlayback_engine (s : State) (v : Playback) : (s.setPlayback v).engine = s.engine := rfl
@[simp] theorem State.setPlayback_tx (s : State) (v : Playback) : (s.setPlayback v).tx = s.tx := rfl
@[simp] theorem State.setPlayback_peers (s : State) (v : Playback) : (s.setPlayback v).peers = s.peers := rfl
@[simp] theorem State.setPlayback_summer (s : State) (v : Playback) : (s.setPlayback v).summer = s.summer := rfl
@[simp] theorem State.setPlayback_group (s : State) (v : Playback) : (s.setPlayback v).group = s.group := rfl
@[simp] theorem State.setPlayback_surface (s : State) (v : Playback) : (s.setPlayback v).surface = s.surface := rfl
@[simp] theorem State.setPlayback_playback (s : State) (v : Playback) : (s.setPlayback v).playback = v := rfl
@[simp] theorem State.setPlayback_pass (s : State) (v : Playback) : (s.setPlayback v).pass = s.pass := rfl
@[simp] theorem State.setPlayback_ports (s : State) (v : Playback) : (s.setPlayback v).ports = s.ports := rfl
@[simp] theorem State.setPlayback_control (s : State) (v : Playback) : (s.setPlayback v).control = s.control := rfl

@[simp] theorem State.setPass_pending (s : State) (v : Pass) : (s.setPass v).pending = s.pending := rfl
@[simp] theorem State.setPass_resetPin (s : State) (v : Pass) : (s.setPass v).resetPin = s.resetPin := rfl
@[simp] theorem State.setPass_straps (s : State) (v : Pass) : (s.setPass v).straps = s.straps := rfl
@[simp] theorem State.setPass_clock (s : State) (v : Pass) : (s.setPass v).clock = s.clock := rfl
@[simp] theorem State.setPass_strips (s : State) (v : Pass) : (s.setPass v).strips = s.strips := rfl
@[simp] theorem State.setPass_engine (s : State) (v : Pass) : (s.setPass v).engine = s.engine := rfl
@[simp] theorem State.setPass_tx (s : State) (v : Pass) : (s.setPass v).tx = s.tx := rfl
@[simp] theorem State.setPass_peers (s : State) (v : Pass) : (s.setPass v).peers = s.peers := rfl
@[simp] theorem State.setPass_summer (s : State) (v : Pass) : (s.setPass v).summer = s.summer := rfl
@[simp] theorem State.setPass_group (s : State) (v : Pass) : (s.setPass v).group = s.group := rfl
@[simp] theorem State.setPass_surface (s : State) (v : Pass) : (s.setPass v).surface = s.surface := rfl
@[simp] theorem State.setPass_playback (s : State) (v : Pass) : (s.setPass v).playback = s.playback := rfl
@[simp] theorem State.setPass_pass (s : State) (v : Pass) : (s.setPass v).pass = v := rfl
@[simp] theorem State.setPass_ports (s : State) (v : Pass) : (s.setPass v).ports = s.ports := rfl
@[simp] theorem State.setPass_control (s : State) (v : Pass) : (s.setPass v).control = s.control := rfl

@[simp] theorem State.setPorts_pending (s : State) (v : Ports) : (s.setPorts v).pending = s.pending := rfl
@[simp] theorem State.setPorts_resetPin (s : State) (v : Ports) : (s.setPorts v).resetPin = s.resetPin := rfl
@[simp] theorem State.setPorts_straps (s : State) (v : Ports) : (s.setPorts v).straps = s.straps := rfl
@[simp] theorem State.setPorts_clock (s : State) (v : Ports) : (s.setPorts v).clock = s.clock := rfl
@[simp] theorem State.setPorts_strips (s : State) (v : Ports) : (s.setPorts v).strips = s.strips := rfl
@[simp] theorem State.setPorts_engine (s : State) (v : Ports) : (s.setPorts v).engine = s.engine := rfl
@[simp] theorem State.setPorts_tx (s : State) (v : Ports) : (s.setPorts v).tx = s.tx := rfl
@[simp] theorem State.setPorts_peers (s : State) (v : Ports) : (s.setPorts v).peers = s.peers := rfl
@[simp] theorem State.setPorts_summer (s : State) (v : Ports) : (s.setPorts v).summer = s.summer := rfl
@[simp] theorem State.setPorts_group (s : State) (v : Ports) : (s.setPorts v).group = s.group := rfl
@[simp] theorem State.setPorts_surface (s : State) (v : Ports) : (s.setPorts v).surface = s.surface := rfl
@[simp] theorem State.setPorts_playback (s : State) (v : Ports) : (s.setPorts v).playback = s.playback := rfl
@[simp] theorem State.setPorts_pass (s : State) (v : Ports) : (s.setPorts v).pass = s.pass := rfl
@[simp] theorem State.setPorts_ports (s : State) (v : Ports) : (s.setPorts v).ports = v := rfl
@[simp] theorem State.setPorts_control (s : State) (v : Ports) : (s.setPorts v).control = s.control := rfl

@[simp] theorem State.setControl_pending (s : State) (v : Control) : (s.setControl v).pending = s.pending := rfl
@[simp] theorem State.setControl_resetPin (s : State) (v : Control) : (s.setControl v).resetPin = s.resetPin := rfl
@[simp] theorem State.setControl_straps (s : State) (v : Control) : (s.setControl v).straps = s.straps := rfl
@[simp] theorem State.setControl_clock (s : State) (v : Control) : (s.setControl v).clock = s.clock := rfl
@[simp] theorem State.setControl_strips (s : State) (v : Control) : (s.setControl v).strips = s.strips := rfl
@[simp] theorem State.setControl_engine (s : State) (v : Control) : (s.setControl v).engine = s.engine := rfl
@[simp] theorem State.setControl_tx (s : State) (v : Control) : (s.setControl v).tx = s.tx := rfl
@[simp] theorem State.setControl_peers (s : State) (v : Control) : (s.setControl v).peers = s.peers := rfl
@[simp] theorem State.setControl_summer (s : State) (v : Control) : (s.setControl v).summer = s.summer := rfl
@[simp] theorem State.setControl_group (s : State) (v : Control) : (s.setControl v).group = s.group := rfl
@[simp] theorem State.setControl_surface (s : State) (v : Control) : (s.setControl v).surface = s.surface := rfl
@[simp] theorem State.setControl_playback (s : State) (v : Control) : (s.setControl v).playback = s.playback := rfl
@[simp] theorem State.setControl_pass (s : State) (v : Control) : (s.setControl v).pass = s.pass := rfl
@[simp] theorem State.setControl_ports (s : State) (v : Control) : (s.setControl v).ports = s.ports := rfl
@[simp] theorem State.setControl_control (s : State) (v : Control) : (s.setControl v).control = v := rfl

end Sys2Proof.Machine
end

