-- ==== Sys2Proof/Laws/Ops.lean ====
section
/-! SUPPORT. The shared operations of Machine/Ops.lean and Machine/Flags.lean: what each leaves, said once. -/

namespace Sys2Proof.Machine

/-! ### Vectors -/

@[simp] theorem mapFin_get {α β : Type} {n : Nat} (v : Vector α n) (f : Fin n → α → β) (i : Fin n) :
    (mapFin v f)[i] = f i v[i] := by
  simp [mapFin]

theorem set_get {α : Type} {n : Nat} (v : Vector α n) (i j : Fin n) (x : α) :
    (v.set i x)[j] = if i = j then x else v[j] := by
  simp [Vector.getElem_set, Fin.ext_iff]

/-! ### Level ramps: what a settled ramp holds, and what a new target leaves -/

@[simp] theorem LevelRamp.settled_current (x y z : Int) (n : Nat) : (LevelRamp.settled x y z n).current = x := rfl
@[simp] theorem LevelRamp.settled_target (x y z : Int) (n : Nat) : (LevelRamp.settled x y z n).target = y := rfl
@[simp] theorem LevelRamp.settled_step (x y z : Int) (n : Nat) : (LevelRamp.settled x y z n).step = z := rfl
@[simp] theorem LevelRamp.settled_count (x y z : Int) (n : Nat) : (LevelRamp.settled x y z n).count = n := rfl
@[simp] theorem LevelRamp.settled_base (x y z : Int) (n : Nat) : (LevelRamp.settled x y z n).base = ⟨y, z, n⟩ := rfl
@[simp] theorem LevelRamp.take_current (r : LevelRamp) (g : Int) : (r.take g).current = r.current := rfl
@[simp] theorem LevelRamp.take_base (r : LevelRamp) (g : Int) : (r.take g).base = r.base := rfl
@[simp] theorem LevelRamp.retarget_current (r : LevelRamp) (g : Int) : (r.retarget g).current = r.current := rfl
@[simp] theorem LevelRamp.retarget_base (r : LevelRamp) (g : Int) : (r.retarget g).base = r.base := rfl
@[simp] theorem LevelRamp.courseFrom_target (r : LevelRamp) (c : Course) (g : Int) : (r.courseFrom c g).target = g := by
  unfold LevelRamp.courseFrom
  split
  · next h => exact h.symm
  · split <;> rfl
@[simp] theorem LevelRamp.take_target (r : LevelRamp) (g : Int) : (r.take g).target = g :=
  LevelRamp.courseFrom_target r r.course g
@[simp] theorem LevelRamp.retarget_target (r : LevelRamp) (g : Int) : (r.retarget g).target = g :=
  LevelRamp.courseFrom_target r r.base g
@[simp] theorem LevelRamp.snap_current (r : LevelRamp) : r.snap.current = r.target := rfl

/-! ### The walk over the existing strips -/

/-- A property that every existing strip's work keeps, the whole walk keeps. -/
theorem forStrips_induct {P : State → Prop} {f : Fin 64 → State → State} {s : State} (h : P s)
    (step : ∀ i t, t.hasStrip i = true → P t → P (f i t)) : P (forStrips f s) := by
  unfold forStrips
  generalize List.finRange 64 = l
  induction l generalizing s with
  | nil => exact h
  | cons i l ih =>
    refine ih ?_
    by_cases hi : s.hasStrip i = true
    · simpa [hi] using step i s hi h
    · simpa [hi] using h

/-! ### Causes (R171) -/

theorem Cause.position_lt (c : Cause) : c.position < 15 := by cases c <;> decide

theorem Cause.position_inj {c d : Cause} (h : c.position = d.position) : c = d := by
  revert h; cases c <;> cases d <;> decide

/-- What raising a cause does to the cause set. -/
@[simp] theorem causeSet_raise (c d : Cause) (s : State) : (raise c s).causeSet d = (s.causeSet d || d == c) := by
  have key : (BitVec.ofNat 15 (2 ^ c.position)).getLsbD d.position = (d == c) := by
    cases c <;> cases d <;> rfl
  simp only [raise, State.causeSet, State.setControl_control, BitVec.getLsbD_or, key]

/-! ### What raising a cause leaves -/

@[simp] theorem raise_pending (c : Cause) (s : State) : (raise c s).pending = s.pending := rfl
@[simp] theorem raise_resetPin (c : Cause) (s : State) : (raise c s).resetPin = s.resetPin := rfl
@[simp] theorem raise_straps (c : Cause) (s : State) : (raise c s).straps = s.straps := rfl
@[simp] theorem raise_clock (c : Cause) (s : State) : (raise c s).clock = s.clock := rfl
@[simp] theorem raise_strips (c : Cause) (s : State) : (raise c s).strips = s.strips := rfl
@[simp] theorem raise_engine (c : Cause) (s : State) : (raise c s).engine = s.engine := rfl
@[simp] theorem raise_tx (c : Cause) (s : State) : (raise c s).tx = s.tx := rfl
@[simp] theorem raise_peers (c : Cause) (s : State) : (raise c s).peers = s.peers := rfl
@[simp] theorem raise_summer (c : Cause) (s : State) : (raise c s).summer = s.summer := rfl
@[simp] theorem raise_group (c : Cause) (s : State) : (raise c s).group = s.group := rfl
@[simp] theorem raise_surface (c : Cause) (s : State) : (raise c s).surface = s.surface := rfl
@[simp] theorem raise_playback (c : Cause) (s : State) : (raise c s).playback = s.playback := rfl
@[simp] theorem raise_pass (c : Cause) (s : State) : (raise c s).pass = s.pass := rfl
@[simp] theorem raise_ports (c : Cause) (s : State) : (raise c s).ports = s.ports := rfl
@[simp] theorem raise_mask (c : Cause) (s : State) : (raise c s).control.mask = s.control.mask := rfl
@[simp] theorem raise_reply (c : Cause) (s : State) : (raise c s).control.reply = s.control.reply := rfl

@[simp] theorem raiseIf_pending (b : Bool) (c : Cause) (s : State) : (raiseIf b c s).pending = s.pending := by cases b <;> rfl
@[simp] theorem raiseIf_resetPin (b : Bool) (c : Cause) (s : State) : (raiseIf b c s).resetPin = s.resetPin := by cases b <;> rfl
@[simp] theorem raiseIf_straps (b : Bool) (c : Cause) (s : State) : (raiseIf b c s).straps = s.straps := by cases b <;> rfl
@[simp] theorem raiseIf_clock (b : Bool) (c : Cause) (s : State) : (raiseIf b c s).clock = s.clock := by cases b <;> rfl
@[simp] theorem raiseIf_strips (b : Bool) (c : Cause) (s : State) : (raiseIf b c s).strips = s.strips := by cases b <;> rfl
@[simp] theorem raiseIf_engine (b : Bool) (c : Cause) (s : State) : (raiseIf b c s).engine = s.engine := by cases b <;> rfl
@[simp] theorem raiseIf_tx (b : Bool) (c : Cause) (s : State) : (raiseIf b c s).tx = s.tx := by cases b <;> rfl
@[simp] theorem raiseIf_peers (b : Bool) (c : Cause) (s : State) : (raiseIf b c s).peers = s.peers := by cases b <;> rfl
@[simp] theorem raiseIf_summer (b : Bool) (c : Cause) (s : State) : (raiseIf b c s).summer = s.summer := by cases b <;> rfl
@[simp] theorem raiseIf_group (b : Bool) (c : Cause) (s : State) : (raiseIf b c s).group = s.group := by cases b <;> rfl
@[simp] theorem raiseIf_surface (b : Bool) (c : Cause) (s : State) : (raiseIf b c s).surface = s.surface := by cases b <;> rfl
@[simp] theorem raiseIf_playback (b : Bool) (c : Cause) (s : State) : (raiseIf b c s).playback = s.playback := by cases b <;> rfl
@[simp] theorem raiseIf_pass (b : Bool) (c : Cause) (s : State) : (raiseIf b c s).pass = s.pass := by cases b <;> rfl
@[simp] theorem raiseIf_ports (b : Bool) (c : Cause) (s : State) : (raiseIf b c s).ports = s.ports := by cases b <;> rfl
@[simp] theorem raiseIf_mask (b : Bool) (c : Cause) (s : State) : (raiseIf b c s).control.mask = s.control.mask := by cases b <;> rfl
@[simp] theorem raiseIf_reply (b : Bool) (c : Cause) (s : State) : (raiseIf b c s).control.reply = s.control.reply := by cases b <;> rfl
@[simp] theorem causeSet_raiseIf (b : Bool) (c d : Cause) (s : State) :
    (raiseIf b c s).causeSet d = (s.causeSet d || (b && d == c)) := by
  cases b <;> simp [raiseIf]

end Sys2Proof.Machine
end

