-- ==== Sys2Proof/Laws/Boundary.lean ====
section
/-! SUPPORT. What the work of a frame boundary does, said once for each operation and then for the boundary as a whole, block by
block. -/

namespace Sys2Proof.Machine

/-- The work of the summer and its neighbours: nothing outside the blocks it names changes, and no set cause is cleared. -/
structure SumFrame (s t : State) : Prop where
  pending : t.pending = s.pending
  resetPin : t.resetPin = s.resetPin
  straps : t.straps = s.straps
  clock : t.clock = s.clock
  strips : t.strips = s.strips
  group : t.group = s.group
  surface : t.surface = s.surface
  playback : t.playback = s.playback
  pass : t.pass = s.pass
  map : t.ports.map = s.ports.map
  inputs : t.ports.inputs = s.ports.inputs
  handed : t.engine.handed = s.engine.handed
  drive : t.tx.drive = s.tx.drive
  mask : t.control.mask = s.control.mask
  reply : t.control.reply = s.control.reply
  causes : ∀ c, s.causeSet c = true → t.causeSet c = true

theorem SumFrame.refl (s : State) : SumFrame s s := by constructor <;> first | rfl | exact fun _ h => h

theorem SumFrame.trans {s t u : State} (h : SumFrame s t) (k : SumFrame t u) : SumFrame s u where
  pending := k.pending.trans h.pending
  resetPin := k.resetPin.trans h.resetPin
  straps := k.straps.trans h.straps
  clock := k.clock.trans h.clock
  strips := k.strips.trans h.strips
  group := k.group.trans h.group
  surface := k.surface.trans h.surface
  playback := k.playback.trans h.playback
  pass := k.pass.trans h.pass
  map := k.map.trans h.map
  inputs := k.inputs.trans h.inputs
  handed := k.handed.trans h.handed
  drive := k.drive.trans h.drive
  mask := k.mask.trans h.mask
  reply := k.reply.trans h.reply
  causes := fun c hc => k.causes c (h.causes c hc)

theorem sumFrame_setSummer (s : State) (v : Summer) : SumFrame s (s.setSummer v) := by
  constructor <;> first | rfl | exact fun _ h => h

theorem sumFrame_setPeers (s : State) (v : Vector Peer 16) : SumFrame s (s.setPeers v) := by
  constructor <;> first | rfl | exact fun _ h => h

theorem sumFrame_raiseIf (b : Bool) (c : Cause) (s : State) : SumFrame s (raiseIf b c s) := by
  constructor <;> simp +contextual

theorem sumFrame_putInForce (s : State) : SumFrame s (putInForce s) := by
  unfold putInForce
  dsimp only
  split
  · exact .refl s
  · exact (sumFrame_setSummer s _).trans (sumFrame_raiseIf _ _ _)

theorem sumFrame_requestPeers (tag : Tag) (s : State) : SumFrame s (requestPeers tag s) :=
  (sumFrame_setPeers s _).trans (sumFrame_raiseIf _ _ _)

theorem sumFrame_decideSuspensions (given : List (Fin 16 × LaneFrame × Nat)) (s : State) :
    SumFrame s (decideSuspensions given s) :=
  (sumFrame_setSummer s _).trans (sumFrame_raiseIf _ _ _)

theorem sumFrame_updateMeters (totals : BusList) (s : State) : SumFrame s (updateMeters totals s) :=
  (sumFrame_setSummer s _).trans (sumFrame_raiseIf _ _ _)

theorem sumFrame_completeStems (sample : Nat) (terms : BusList) (s : State) : SumFrame s (completeStems sample terms s) := by
  unfold completeStems handOverB
  dsimp only
  split <;> constructor <;> first | rfl | exact fun _ h => h

theorem sumFrame_setTotals (s : State) (totals : BusList) (handed : Bool) :
    SumFrame s (s.setPorts { s.ports with totals := totals, totalsHanded := handed }) := by
  constructor <;> first | rfl | exact fun _ h => h

/-- What the summer's work at a boundary leaves. -/
theorem sumFrame_summerBoundary (tag : Tag) (sample : Nat) (s : State) : SumFrame s (summerBoundary tag sample s) := by
  unfold summerBoundary
  dsimp only
  refine .trans ?_ (sumFrame_completeStems _ _ _)
  refine .trans ?_ (sumFrame_setTotals _ _ _)
  refine .trans ?_ (sumFrame_updateMeters _ _)
  refine .trans ?_ (sumFrame_setSummer _ _)
  refine .trans ?_ (sumFrame_decideSuspensions _ _)
  refine .trans ?_ (sumFrame_setPeers _ _)
  exact (sumFrame_putInForce s).trans (sumFrame_requestPeers tag _)

/-! ### The boundary, block by block -/

/-- What the hand-over of the input samples leaves of the fields that the summer's work reads or keeps. -/
theorem handInputs_keeps (s : State) :
    (handInputs s).pending = s.pending ∧ (handInputs s).resetPin = s.resetPin ∧ (handInputs s).straps = s.straps ∧
    (handInputs s).clock = s.clock ∧ (handInputs s).strips = s.strips ∧ (handInputs s).tx = s.tx ∧ (handInputs s).peers = s.peers ∧
    (handInputs s).summer = s.summer ∧ (handInputs s).group = s.group ∧ (handInputs s).surface = s.surface ∧
    (handInputs s).playback = s.playback ∧ (handInputs s).pass = s.pass ∧ (handInputs s).ports.map = s.ports.map ∧
    (handInputs s).control.mask = s.control.mask ∧ (handInputs s).control.reply = s.control.reply := by
  refine ⟨?_, ?_, ?_, ?_, ?_, ?_, ?_, ?_, ?_, ?_, ?_, ?_, ?_, ?_, ?_⟩ <;> simp [handInputs]

/-- What the merge at a boundary leaves: of the part it changes the lists of one strip, the pass record and the causes. -/
theorem mergeBoundary_keeps (s : State) :
    (mergeBoundary s).pending = s.pending ∧ (mergeBoundary s).resetPin = s.resetPin ∧ (mergeBoundary s).straps = s.straps ∧
    (mergeBoundary s).clock = s.clock ∧ (mergeBoundary s).strips = s.strips ∧ (mergeBoundary s).engine = s.engine ∧
    (mergeBoundary s).tx = s.tx ∧ (mergeBoundary s).peers = s.peers ∧ (mergeBoundary s).summer = s.summer ∧
    (mergeBoundary s).group = s.group ∧ (mergeBoundary s).surface = s.surface ∧ (mergeBoundary s).ports = s.ports ∧
    (mergeBoundary s).control.mask = s.control.mask ∧ (mergeBoundary s).control.reply = s.control.reply := by
  unfold mergeBoundary
  split
  · dsimp only
    split <;> simp [endPass, modAuto]
  · simp

/-- The boundary's work on the blocks whose rules need no peer and no sum: ramps, refresh count, silence count, and what every
boundary leaves alone. -/
theorem boundaryWork_blocks (tag : Tag) (sample : Nat) (s : State) :
    (boundaryWork tag sample s).pending = s.pending ∧ (boundaryWork tag sample s).resetPin = s.resetPin ∧
    (boundaryWork tag sample s).straps = s.straps ∧ (boundaryWork tag sample s).clock = s.clock ∧
    (boundaryWork tag sample s).strips = (advanceRamps s).strips ∧
    (boundaryWork tag sample s).group = s.group.boundary s.rate ∧
    (boundaryWork tag sample s).surface = s.surface.boundary s.rate ∧
    (boundaryWork tag sample s).ports.map = s.ports.map ∧ (boundaryWork tag sample s).control.mask = s.control.mask ∧
    (boundaryWork tag sample s).control.reply = s.control.reply := by
  have hs := sumFrame_summerBoundary tag sample (handInputs (advanceRamps s))
  have hh := handInputs_keeps (advanceRamps s)
  unfold boundaryWork
  dsimp only
  generalize summerBoundary tag sample (handInputs (advanceRamps s)) = v at hs ⊢
  generalize handInputs (advanceRamps s) = u at hs hh
  obtain ⟨h1, h2, h3, h4, h5, -, -, -, h9, h10, -, -, h13, h14, h15⟩ := hh
  have hm := mergeBoundary_keeps (((v.setPlayback (v.playback.boundary v.rate)).setGroup (v.group.boundary v.rate)).setSurface
    (v.surface.boundary v.rate))
  have hr : v.rate = s.rate := by simp [State.rate, hs.straps, h3, advanceRamps]
  obtain ⟨m1, m2, m3, m4, m5, -, -, -, -, m10, m11, m12, m13, m14⟩ := hm
  refine ⟨m1.trans ?_, m2.trans ?_, m3.trans ?_, m4.trans ?_, m5.trans ?_, m10.trans ?_, m11.trans ?_, (congrArg Ports.map m12).trans ?_,
    m13.trans ?_, m14.trans ?_⟩
  · simp [hs.pending, h1, advanceRamps]
  · simp [hs.resetPin, h2, advanceRamps]
  · simp [hs.straps, h3, advanceRamps]
  · simp [hs.clock, h4, advanceRamps]
  · simp [hs.strips, h5]
  · simp [hs.group, h9, hr, advanceRamps]
  · simp [hs.surface, h10, hr, advanceRamps]
  · simp [hs.map, h13, advanceRamps]
  · simp [hs.mask, h14, advanceRamps]
  · simp [hs.reply, h15, advanceRamps]

/-! ### The expiry of the loss window (R115) -/

/-- A boundary leaves the mark of an expiry that an edge met. -/
@[simp] theorem Clock.boundary_expiryMet (time : Nat) (realign : Bool) (c : Clock) : (c.boundary time realign).expiryMet = c.expiryMet := rfl

/-- All that LOSS WINDOW EXPIRY can do: nothing, or the loss of the reference from LOCKING or LOCKED, where it is not the expiry that came
with the latest edge. -/
theorem execLossWindowExpiry_cases {s t : State} (h : execLossWindowExpiry s = .next t) :
    t = s ∨ ∃ e, s.resetPin = false ∧ s.expirySuperseded = false ∧ (s.clock.state = .locking ∨ s.clock.state = .locked) ∧
      s.clock.latestEdge = some e ∧ t = loseReference e s := by
  unfold execLossWindowExpiry onEvent at h
  cases hp : s.resetPin <;> cases hx : s.expirySuperseded <;> simp [hp, hx] at h
  · cases hc : s.clock.state <;> cases he : s.clock.latestEdge <;> simp [hc, he] at h <;> simp [h]
  all_goals exact .inl h.symm

end Sys2Proof.Machine
end

