-- ==== Sys2Proof/Laws/Enqueues.lean ====
section
/-! SUPPORT. The small lemmas of the enqueues that the statements speak of: what no enqueue does, and what a run of them does. -/

namespace Sys2Proof.Machine

@[simp] theorem GroupLine.enqueueAll_nil (g : GroupLine) : g.enqueueAll [] = g := rfl

@[simp] theorem GroupLine.enqueueAll_cons (g : GroupLine) (kind : MsgKind) (number : Nat) (value : Int)
    (rest : List (MsgKind × Nat × Int)) :
    g.enqueueAll ((kind, number, value) :: rest) = (g.enqueue kind number value).enqueueAll rest := rfl

theorem GroupLine.enqueueAll_append (g : GroupLine) (first then_ : List (MsgKind × Nat × Int)) :
    g.enqueueAll (first ++ then_) = (g.enqueueAll first).enqueueAll then_ := List.foldl_append ..

@[simp] theorem TableEntry.takeAll_nil (g : Fin 32) (slot : Fin 16) (e : TableEntry) : e.takeAll g slot [] = e := rfl

@[simp] theorem changedCuts_nil (g : Fin 32) (held : Bool) : changedCuts g held [] = [] := rfl

/-- A cut that does not change is not enqueued. -/
@[simp] theorem changedCuts_same (g : Fin 32) (held : Bool) (rest : List Bool) :
    changedCuts g held (held :: rest) = changedCuts g held rest := by
  simp [changedCuts]

/-- With nothing to enqueue the group line stays as it stands, but for the mastered set. -/
theorem State.enqueues_nil (s : State) (g after : GroupLine) : s.enqueues g [] after ↔ after = { g with mastered := after.mastered } := by
  unfold State.enqueues
  constructor
  · intro ⟨h, _, hl⟩
    cases lo : s.listenOnly
    · simpa using h lo (.inr rfl)
    · obtain ⟨hk, ht⟩ := hl lo
      have : after.table = g.table := Vector.ext fun i hi => by simpa using ht ⟨i, hi⟩
      rw [this] at hk
      exact hk
  · intro h
    refine ⟨fun _ _ => h, fun _ _ _ _ _ _ _ hn => (by simp at hn), fun _ => ⟨?_, ?_⟩⟩
    · rw [h]
    · intro i; rw [h]; simp

end Sys2Proof.Machine
end

