-- ==== Sys2Proof/Laws/Frames.lean ====
section
/-! SUPPORT. What each shared operation can change, said once: three frames, from the narrowest to the widest, and one lemma for each
operation naming the frame it keeps. -/

namespace Sys2Proof.Machine

/-! ### The frames -/

/-- Two strip records agree in everything but the effective level and cut and the two ramps. -/
def Strip.SameInputs (a b : Strip) : Prop :=
  b = { a with effLevel := b.effLevel, effCut := b.effCut, levelRamp := b.levelRamp, cutRamp := b.cutRamp }

/-- The work of strips, group line, automation engine and pass record: everything else of the part is unchanged, and no set cause is
cleared. -/
structure Inner (s t : State) : Prop where
  pending : t.pending = s.pending
  resetPin : t.resetPin = s.resetPin
  straps : t.straps = s.straps
  clock : t.clock = s.clock
  engine : t.engine = s.engine
  tx : t.tx = s.tx
  peers : t.peers = s.peers
  summer : t.summer = s.summer
  surface : t.surface = s.surface
  ports : t.ports = s.ports
  mask : t.control.mask = s.control.mask
  reply : t.control.reply = s.control.reply
  causes : ∀ c, s.causeSet c = true → t.causeSet c = true

/-- The work of the group line and of the evaluation of strips: the automation engine and the pass record, and every strip's inputs,
are unchanged as well. -/
structure LineFrame (s t : State) : Prop where
  inner : Inner s t
  playback : t.playback = s.playback
  pass : t.pass = s.pass
  strips : ∀ i : Fin 64, Strip.SameInputs s.strips[i] t.strips[i]

/-- Two strip records agree in every field the card processor and the surface port write: only what the automation engine hands to the
strip and what follows from it differ. -/
def Strip.SameDesk (a b : Strip) : Prop :=
  b = { a with
    levelSource := b.levelSource, storeLevel := b.storeLevel, cutSource := b.cutSource, storeCut := b.storeCut
    effLevel := b.effLevel, effCut := b.effCut, levelRamp := b.levelRamp, cutRamp := b.cutRamp }

/-- The work of the automation engine and the pass record: inside the inner frame, and no strip's desk fields change. -/
structure RideFrame (s t : State) : Prop where
  inner : Inner s t
  strips : ∀ i : Fin 64, Strip.SameDesk s.strips[i] t.strips[i]

/-- The work of the journal: of the part only the pass record changes. -/
structure JournalFrame (s t : State) : Prop where
  inner : Inner s t
  strips : t.strips = s.strips
  group : t.group = s.group
  playback : t.playback = s.playback

theorem Strip.SameInputs.refl (a : Strip) : Strip.SameInputs a a := rfl

theorem Strip.SameInputs.trans {a b c : Strip} (h : Strip.SameInputs a b) (k : Strip.SameInputs b c) : Strip.SameInputs a c := by
  unfold Strip.SameInputs at *
  rw [k, h]

theorem Strip.sameInputs_retune (table : Vector TableEntry 32) (soloActive : Bool) (st : Strip) :
    Strip.SameInputs st (st.retune table soloActive) := rfl

theorem Inner.refl (s : State) : Inner s s := by constructor <;> first | rfl | exact fun _ h => h

theorem Inner.trans {s t u : State} (h : Inner s t) (k : Inner t u) : Inner s u where
  pending := k.pending.trans h.pending
  resetPin := k.resetPin.trans h.resetPin
  straps := k.straps.trans h.straps
  clock := k.clock.trans h.clock
  engine := k.engine.trans h.engine
  tx := k.tx.trans h.tx
  peers := k.peers.trans h.peers
  summer := k.summer.trans h.summer
  surface := k.surface.trans h.surface
  ports := k.ports.trans h.ports
  mask := k.mask.trans h.mask
  reply := k.reply.trans h.reply
  causes := fun c hc => k.causes c (h.causes c hc)

theorem LineFrame.refl (s : State) : LineFrame s s := ⟨.refl s, rfl, rfl, fun _ => rfl⟩

theorem LineFrame.trans {s t u : State} (h : LineFrame s t) (k : LineFrame t u) : LineFrame s u :=
  ⟨h.inner.trans k.inner, k.playback.trans h.playback, k.pass.trans h.pass, fun i => (h.strips i).trans (k.strips i)⟩

theorem JournalFrame.refl (s : State) : JournalFrame s s := ⟨.refl s, rfl, rfl, rfl⟩

theorem JournalFrame.trans {s t u : State} (h : JournalFrame s t) (k : JournalFrame t u) : JournalFrame s u :=
  ⟨h.inner.trans k.inner, k.strips.trans h.strips, k.group.trans h.group, k.playback.trans h.playback⟩

theorem Inner.hasStrip {s t : State} (h : Inner s t) (i : Fin 64) : t.hasStrip i = s.hasStrip i :=
  congrArg (fun p : Straps => decide (i.val < p.rate.strips)) h.straps

theorem Inner.rate {s t : State} (h : Inner s t) : t.rate = s.rate := by simp [State.rate, h.straps]

theorem Inner.listenOnly {s t : State} (h : Inner s t) : t.listenOnly = s.listenOnly := by simp [State.listenOnly, h.tx]

theorem Strip.SameDesk.refl (a : Strip) : Strip.SameDesk a a := rfl

theorem Strip.SameDesk.trans {a b c : Strip} (h : Strip.SameDesk a b) (k : Strip.SameDesk b c) : Strip.SameDesk a c := by
  unfold Strip.SameDesk at *
  rw [k, h]

theorem Strip.SameInputs.desk {a b : Strip} (h : Strip.SameInputs a b) : Strip.SameDesk a b := by
  unfold Strip.SameInputs Strip.SameDesk at *
  rw [h]

theorem RideFrame.refl (s : State) : RideFrame s s := ⟨.refl s, fun _ => rfl⟩

theorem RideFrame.trans {s t u : State} (h : RideFrame s t) (k : RideFrame t u) : RideFrame s u :=
  ⟨h.inner.trans k.inner, fun i => (h.strips i).trans (k.strips i)⟩

theorem LineFrame.ride {s t : State} (h : LineFrame s t) : RideFrame s t := ⟨h.inner, fun i => (h.strips i).desk⟩

theorem JournalFrame.ride {s t : State} (h : JournalFrame s t) : RideFrame s t :=
  ⟨h.inner, fun i => by rw [h.strips]; exact .refl _⟩

/-- A frame that every existing strip's work keeps, the whole walk keeps. -/
theorem forStrips_ride {f : Fin 64 → State → State} (h : ∀ i t, RideFrame t (f i t)) (s : State) : RideFrame s (forStrips f s) :=
  forStrips_induct (P := fun t => RideFrame s t) (.refl s) fun i t _ ht => ht.trans (h i t)

theorem forStrips_inner {f : Fin 64 → State → State} (h : ∀ i t, Inner t (f i t)) (s : State) : Inner s (forStrips f s) :=
  forStrips_induct (P := fun t => Inner s t) (.refl s) fun i t _ ht => ht.trans (h i t)

theorem forStrips_journal {f : Fin 64 → State → State} (h : ∀ i t, JournalFrame t (f i t)) (s : State) :
    JournalFrame s (forStrips f s) :=
  forStrips_induct (P := fun t => JournalFrame s t) (.refl s) fun i t _ ht => ht.trans (h i t)

/-- Work done under a condition keeps a frame that the work before it and the work itself keep. -/
theorem Inner.whenDone {s t u : State} {c : Prop} [Decidable c] (h : Inner s t) (k : Inner t u) : Inner s (if c then u else t) := by
  split
  · exact h.trans k
  · exact h

theorem Inner.unlessDone {s t u : State} {c : Prop} [Decidable c] (h : Inner s t) (k : Inner t u) :
    Inner s (if c then t else u) := by
  split
  · exact h
  · exact h.trans k

theorem RideFrame.whenDone {s t u : State} {c : Prop} [Decidable c] (h : RideFrame s t) (k : RideFrame t u) :
    RideFrame s (if c then u else t) := by
  split
  · exact h.trans k
  · exact h

theorem RideFrame.unlessDone {s t u : State} {c : Prop} [Decidable c] (h : RideFrame s t) (k : RideFrame t u) :
    RideFrame s (if c then t else u) := by
  split
  · exact h
  · exact h.trans k

theorem LineFrame.whenDone {s t u : State} {c : Prop} [Decidable c] (h : LineFrame s t) (k : LineFrame t u) :
    LineFrame s (if c then u else t) := by
  split
  · exact h.trans k
  · exact h

/-! ### Single updates -/

theorem inner_setStrips (s : State) (v : Vector Strip 64) : Inner s (s.setStrips v) := by
  constructor <;> first | rfl | exact fun _ h => h

theorem inner_setGroup (s : State) (v : GroupLine) : Inner s (s.setGroup v) := by
  constructor <;> first | rfl | exact fun _ h => h

theorem inner_setPlayback (s : State) (v : Playback) : Inner s (s.setPlayback v) := by
  constructor <;> first | rfl | exact fun _ h => h

theorem inner_setPass (s : State) (v : Pass) : Inner s (s.setPass v) := by
  constructor <;> first | rfl | exact fun _ h => h

theorem lineFrame_setGroup (s : State) (v : GroupLine) : LineFrame s (s.setGroup v) :=
  ⟨inner_setGroup s v, rfl, rfl, fun _ => rfl⟩

theorem journalFrame_setPass (s : State) (v : Pass) : JournalFrame s (s.setPass v) :=
  ⟨inner_setPass s v, rfl, rfl, rfl⟩

theorem inner_raise (c : Cause) (s : State) : Inner s (raise c s) := by
  constructor <;> first | rfl | (intro d h; simp [h])

theorem lineFrame_raise (c : Cause) (s : State) : LineFrame s (raise c s) := ⟨inner_raise c s, rfl, rfl, fun _ => rfl⟩

theorem journalFrame_raise (c : Cause) (s : State) : JournalFrame s (raise c s) := ⟨inner_raise c s, rfl, rfl, rfl⟩

theorem lineFrame_raiseIf (b : Bool) (c : Cause) (s : State) : LineFrame s (raiseIf b c s) := by
  cases b
  · exact .refl s
  · exact lineFrame_raise c s

theorem inner_modStrip (i : Fin 64) (f : Strip → Strip) (s : State) : Inner s (modStrip i f s) := inner_setStrips _ _

theorem inner_modAuto (i : Fin 64) (f : AutoStrip → AutoStrip) (s : State) : Inner s (modAuto i f s) := inner_setPlayback _ _

theorem journalFrame_modPunches (i : Fin 64) (f : Punches → Punches) (s : State) : JournalFrame s (modPunches i f s) :=
  journalFrame_setPass _ _

/-! ### Strips and the group line -/

theorem lineFrame_retuneWhere (p : Strip → Bool) (s : State) : LineFrame s (retuneWhere p s) := by
  unfold retuneWhere
  refine ⟨inner_setStrips _ _, State.setStrips_playback _ _, State.setStrips_pass _ _, fun i => ?_⟩
  rw [State.setStrips_strips, mapFin_get]
  split
  · exact Strip.sameInputs_retune _ _ _
  · exact .refl _

theorem lineFrame_retuneOne (i : Fin 64) (s : State) :
    LineFrame s (modStrip i (Strip.retune s.group.table s.group.soloLevel) s) := by
  refine ⟨inner_setStrips _ _, rfl, rfl, fun j => ?_⟩
  simp only [modStrip, State.setStrips_strips, set_get]
  split
  · next h => subst h; exact Strip.sameInputs_retune _ _ _
  · exact .refl _

theorem lineFrame_takeGroup (kind : Kind) (g : Fin 32) (value : Int) (slot : Fin 16) (s : State) :
    LineFrame s (takeGroup kind g value slot s) := by
  unfold takeGroup
  dsimp only
  refine LineFrame.trans ?_ (lineFrame_raiseIf _ _ _)
  exact (lineFrame_setGroup s _).whenDone (lineFrame_retuneWhere _ _)

theorem lineFrame_markInFlight (s : State) : LineFrame s (markInFlight s) := by
  unfold markInFlight
  split
  · exact .refl s
  · split
    · exact .refl s
    · exact lineFrame_setGroup _ _

theorem lineFrame_startIfIdle (s : State) : LineFrame s (startIfIdle s) := by
  unfold startIfIdle
  split
  · exact lineFrame_markInFlight s
  · exact .refl s
  · exact .refl s

theorem lineFrame_enqueueGroup (kind : Kind) (g : Fin 32) (value : Int) (s : State) :
    LineFrame s (enqueueGroup kind g value s) := by
  unfold enqueueGroup
  split
  · exact lineFrame_takeGroup _ _ _ _ _
  · exact (lineFrame_setGroup s _).trans (lineFrame_startIfIdle _)

theorem lineFrame_modMaster (g : Fin 32) (f : Master → Master) (s : State) : LineFrame s (modMaster g f s) :=
  lineFrame_setGroup _ _

theorem lineFrame_refreshGroup (g : Fin 32) (s : State) : LineFrame s (refreshGroup g s) := by
  unfold refreshGroup
  split
  · exact .refl s
  · exact ((lineFrame_modMaster _ _ _).trans (lineFrame_enqueueGroup _ _ _ _)).trans (lineFrame_enqueueGroup _ _ _ _)

theorem lineFrame_enqueueOffsets (s : State) : LineFrame s (enqueueOffsets s) := by
  unfold enqueueOffsets
  generalize s.group.mastered = l
  suffices h : ∀ t, LineFrame s t → LineFrame s (l.foldl _ t) from h s (.refl s)
  induction l with
  | nil => exact fun t h => h
  | cons m l ih =>
    intro t h
    refine ih _ (h.trans ?_)
    dsimp only
    split
    · exact .refl t
    · exact (lineFrame_modMaster _ _ _).trans (lineFrame_enqueueGroup _ _ _ _)

theorem lineFrame_handMaster (g : Fin 32) (offset : Int) (cut : Bool) (s : State) : LineFrame s (handMaster g offset cut s) := by
  unfold handMaster
  split
  · exact .refl s
  · dsimp only
    split
    · exact lineFrame_modMaster _ _ _
    · exact (lineFrame_modMaster _ _ _).trans (lineFrame_enqueueGroup _ _ _ _)

theorem lineFrame_evalStrip (i : Fin 64) (s : State) : LineFrame s (evalStrip i s) := by
  unfold evalStrip
  split
  · exact lineFrame_retuneOne i s
  · exact lineFrame_handMaster _ _ _ s

theorem lineFrame_becomeMaster (i : Fin 64) (g : Fin 32) (s : State) : LineFrame s (becomeMaster i g s) :=
  (lineFrame_setGroup s _).trans (lineFrame_refreshGroup g _)

theorem lineFrame_ceaseMaster (g : Fin 32) (s : State) : LineFrame s (ceaseMaster g s) := lineFrame_setGroup _ _

theorem lineFrame_changeRole (i : Fin 64) (before : Role) (s : State) : LineFrame s (changeRole i before s) := by
  unfold changeRole
  have h : LineFrame s (match before with
      | .audio => s
      | .groupMaster g => modStrip i (Strip.retune (ceaseMaster g s).group.table (ceaseMaster g s).group.soloLevel)
          (ceaseMaster g s)) := by
    split
    · exact .refl s
    · exact (lineFrame_ceaseMaster _ _).trans (lineFrame_retuneOne i _)
  dsimp only
  split
  · exact h
  · exact h.trans (lineFrame_becomeMaster _ _ _)

theorem lineFrame_lineError (s : State) : LineFrame s (lineError s) := (lineFrame_setGroup s _).trans (lineFrame_raise _ _)

theorem lineFrame_seek (s : State) : LineFrame s (seek s) := lineFrame_setGroup _ _

theorem lineFrame_loseArbitration (s : State) : LineFrame s (loseArbitration s) := lineFrame_setGroup _ _

theorem lineFrame_meetFault (s : State) : LineFrame s (meetFault s) :=
  ((lineFrame_setGroup s _).trans (lineFrame_lineError _)).trans (lineFrame_seek _)

/-! ### The journal -/

theorem journalFrame_refuseRecord (s : State) : JournalFrame s (refuseRecord s) :=
  (journalFrame_setPass s _).trans (journalFrame_raise _ _)

theorem journalFrame_appendRecord (r : Record) (s : State) : JournalFrame s (appendRecord r s) := journalFrame_setPass _ _

theorem journalFrame_offerMove (i : Fin 64) (position : Nat) (v : MoveValue) (s : State) :
    JournalFrame s (offerMove i position v s) := by
  unfold offerMove
  split
  · exact (journalFrame_appendRecord _ _).trans (journalFrame_modPunches _ _ _)
  · exact journalFrame_refuseRecord s

theorem journalFrame_offerPunchIn (i : Fin 64) (kind : Kind) (position : Nat) (opening : MoveValue) (s : State) :
    JournalFrame s (offerPunchIn i kind position opening s) := by
  unfold offerPunchIn
  split
  · exact ((journalFrame_appendRecord _ _).trans (journalFrame_modPunches _ _ _)).trans (journalFrame_offerMove _ _ _ _)
  · exact journalFrame_refuseRecord s

theorem journalFrame_punchOut (i : Fin 64) (kind : Kind) (position : Nat) (s : State) :
    JournalFrame s (punchOut i kind position s) := (journalFrame_appendRecord _ _).trans (journalFrame_modPunches _ _ _)

theorem journalFrame_punchIn (i : Fin 64) (kind : Kind) (position : Nat) (s : State) :
    JournalFrame s (punchIn i kind position s) := by
  unfold punchIn
  split
  · exact journalFrame_offerPunchIn _ _ _ _ _
  · exact .refl s

theorem journalFrame_punchInAll (position : Nat) (s : State) : JournalFrame s (punchInAll position s) :=
  forStrips_journal (fun _ _ => (journalFrame_punchIn _ _ _ _).trans (journalFrame_punchIn _ _ _ _)) s

theorem journalFrame_closePunch (i : Fin 64) (kind : Kind) (position : Nat) (s : State) :
    JournalFrame s (closePunch i kind position s) := by
  unfold closePunch
  split
  · refine JournalFrame.trans ?_ (journalFrame_punchOut _ _ _ _)
    split
    · exact journalFrame_offerMove _ _ _ _
    · exact .refl s
  · exact .refl s

theorem journalFrame_closePunches (i : Fin 64) (position : Nat) (s : State) : JournalFrame s (closePunches i position s) :=
  (journalFrame_closePunch _ _ _ _).trans (journalFrame_closePunch _ _ _ _)

theorem journalFrame_closeAllPunches (position : Nat) (s : State) : JournalFrame s (closeAllPunches position s) :=
  forStrips_journal (fun _ _ => journalFrame_closePunches _ _ _) s

theorem journalFrame_recordGlideStart (i : Fin 64) (position code : Nat) (s : State) :
    JournalFrame s (recordGlideStart i position code s) := by
  unfold recordGlideStart
  split
  · exact journalFrame_offerMove _ _ _ _
  · exact .refl s

theorem journalFrame_recordGlideEnd (i : Fin 64) (position : Nat) (s : State) :
    JournalFrame s (recordGlideEnd i position s) := by
  unfold recordGlideEnd
  split
  · exact journalFrame_punchOut _ _ _ _
  · exact .refl s

theorem journalFrame_recordStep (i : Fin 64) (kind : Kind) (s : State) : JournalFrame s (recordStep i kind s) := by
  unfold recordStep
  dsimp only
  split
  · exact journalFrame_offerMove _ _ _ _
  · exact .refl s

/-! ### The automation engine -/

theorem ride_setPlayback (s : State) (v : Playback) : RideFrame s (s.setPlayback v) := ⟨inner_setPlayback s v, fun _ => rfl⟩

theorem ride_setPass (s : State) (v : Pass) : RideFrame s (s.setPass v) := ⟨inner_setPass s v, fun _ => rfl⟩

theorem ride_setGroup (s : State) (v : GroupLine) : RideFrame s (s.setGroup v) := (lineFrame_setGroup s v).ride

theorem ride_raise (c : Cause) (s : State) : RideFrame s (raise c s) := (lineFrame_raise c s).ride

theorem ride_modAuto (i : Fin 64) (f : AutoStrip → AutoStrip) (s : State) : RideFrame s (modAuto i f s) := ride_setPlayback _ _

theorem ride_modStrip (i : Fin 64) (f : Strip → Strip) (s : State) (h : ∀ st, Strip.SameDesk st (f st)) :
    RideFrame s (modStrip i f s) := by
  refine ⟨inner_modStrip i f s, fun j => ?_⟩
  unfold modStrip
  rw [State.setStrips_strips, set_get]
  split
  · next e => subst e; exact h _
  · exact .refl _

theorem Strip.sameDesk_takeLevel (a : AutoStrip) (st : Strip) : Strip.SameDesk st (st.takeLevel a) := by
  unfold Strip.takeLevel Strip.followLevel
  repeat' split
  all_goals rfl

theorem Strip.sameDesk_takeCut (a : AutoStrip) (st : Strip) : Strip.SameDesk st (st.takeCut a) := by
  unfold Strip.takeCut Strip.followCut
  dsimp only
  repeat' split
  all_goals rfl

theorem ride_evalStrip (i : Fin 64) (s : State) : RideFrame s (evalStrip i s) := (lineFrame_evalStrip i s).ride

theorem ride_modEval (i : Fin 64) (f : Strip → Strip) (s : State) (h : ∀ st, Strip.SameDesk st (f st)) :
    RideFrame s (evalStrip i (modStrip i f s)) := (ride_modStrip i f s h).trans (ride_evalStrip i _)

theorem ride_readStrip (i : Fin 64) (s : State) : RideFrame s (readStrip i s) := ride_modAuto _ _ _

theorem ride_handLevel (i : Fin 64) (s : State) : RideFrame s (handLevel i s) :=
  ride_modEval _ _ _ (Strip.sameDesk_takeLevel _)

theorem ride_handCut (i : Fin 64) (s : State) : RideFrame s (handCut i s) :=
  ride_modEval _ _ _ (Strip.sameDesk_takeCut _)

theorem ride_handValues (i : Fin 64) (s : State) : RideFrame s (handValues i s) := (ride_handLevel i s).trans (ride_handCut i _)

theorem ride_handGlideCode (i : Fin 64) (code : Nat) (s : State) : RideFrame s (handGlideCode i code s) :=
  ride_modEval _ _ _ fun _ => rfl

theorem ride_returnLevel (i : Fin 64) (s : State) : RideFrame s (returnLevel i s) := by
  unfold returnLevel
  dsimp only
  split
  · exact (ride_modAuto _ _ _).trans (ride_handGlideCode _ _ _)
  · exact (ride_modAuto _ _ _).trans (ride_handLevel _ _)

theorem ride_advanceGlide (i : Fin 64) (s : State) : RideFrame s (advanceGlide i s) := by
  unfold advanceGlide
  dsimp only
  split
  · exact .refl s
  · split
    · exact (ride_modAuto _ _ _).trans (ride_handLevel _ _)
    · exact (ride_modAuto _ _ _).trans (ride_handGlideCode _ _ _)

theorem ride_goLive (i : Fin 64) (s : State) : RideFrame s (goLive i s) := (ride_modAuto _ _ _).trans (ride_handLevel _ _)

theorem ride_touchStrip (i : Fin 64) (s : State) : RideFrame s (touchStrip i s) := by
  unfold touchStrip
  dsimp only
  split
  · exact ((ride_modAuto _ _ _).trans (ride_goLive _ _)).trans (journalFrame_punchIn _ _ _ _).ride
  · exact ride_modAuto _ _ _

theorem ride_releaseStrip (i : Fin 64) (s : State) : RideFrame s (releaseStrip i s) := by
  unfold releaseStrip
  dsimp only
  have h := ride_modAuto i (fun a => { a with touched := false }) s
  refine h.unlessDone ?_
  generalize modAuto i (fun a => { a with touched := false }) s = t
  split
  · exact (ride_modAuto _ _ _).trans (ride_handLevel _ _)
  · have k := ((ride_readStrip i t).trans (ride_returnLevel i _)).trans (ride_handCut i _)
    split
    · exact k.whenDone (journalFrame_recordGlideStart _ _ _ _).ride
    · exact k.trans (journalFrame_closePunch _ _ _ _).ride

theorem ride_changeCut (i : Fin 64) (s : State) : RideFrame s (changeCut i s) := by
  unfold changeCut
  dsimp only
  split
  · exact RideFrame.whenDone ((ride_modAuto _ _ _).trans (ride_handCut _ _)) (journalFrame_punchIn _ _ _ _).ride
  · exact ride_evalStrip _ _

theorem ride_changeMode (i : Fin 64) (s : State) : RideFrame s (changeMode i s) := by
  unfold changeMode
  dsimp only
  refine RideFrame.trans ?_ (journalFrame_punchIn _ _ _ _).ride
  refine RideFrame.trans ?_ (journalFrame_punchIn _ _ _ _).ride
  refine RideFrame.trans ?_ (ride_handValues _ _)
  have h := (journalFrame_closePunches i s.playback.position s).ride.trans
    (ride_modAuto i (fun a => { a with phase := .follow, cutLive := false }) _)
  exact (h.whenDone (ride_readStrip _ _)).whenDone (ride_modAuto _ _ _)

theorem ride_endLive (i : Fin 64) (s : State) : RideFrame s (endLive i s) := by
  unfold endLive
  dsimp only
  have h := ((ride_readStrip i s).trans (ride_returnLevel i _)).trans (ride_handCut i _)
  exact ((RideFrame.refl s).whenDone h).whenDone ((ride_modAuto _ _ _).trans (ride_handCut _ _))

theorem ride_stopPlay (s : State) : RideFrame s (stopPlay s) :=
  (forStrips_ride ride_endLive s).trans (journalFrame_closeAllPunches _ _).ride

theorem ride_jumpTo (position : Nat) (s : State) : RideFrame s (jumpTo position s) :=
  ((ride_setPlayback s _).trans (journalFrame_closeAllPunches _ _).ride).trans (journalFrame_punchInAll _ _).ride

theorem ride_adopt (position : Nat) (transport : Transport) (s : State) : RideFrame s (adopt position transport s) :=
  ride_setPlayback _ _

theorem ride_takePosition (position : Nat) (transport : Transport) (s : State) : RideFrame s (takePosition position transport s) := by
  unfold takePosition
  split
  · dsimp only
    split
    · exact ride_adopt _ _ _
    · exact ride_jumpTo _ _
  · exact (ride_stopPlay s).trans (ride_adopt _ _ _)
  · exact (ride_adopt _ _ _).trans (journalFrame_punchInAll _ _).ride
  · exact ride_adopt _ _ _

theorem ride_takePassOpen (n : Nat) (s : State) : RideFrame s (takePassOpen n s) := by
  unfold takePassOpen
  split
  · exact (ride_setPass s _).trans (journalFrame_punchInAll _ _).ride
  · split
    · exact .refl s
    · exact (ride_setPass s _).trans (ride_raise _ _)
  · exact (ride_setPass s _).trans (ride_raise _ _)
  · exact (ride_setPass s _).trans (ride_raise _ _)

theorem ride_takePassClose (n : Nat) (s : State) : RideFrame s (takePassClose n s) := by
  unfold takePassClose
  split
  · exact ((journalFrame_closeAllPunches _ _).ride.trans (ride_setPass _ _)).trans (forStrips_ride ride_endLive _)
  · exact .refl s

theorem ride_handMessage (m : Message) (s : State) : RideFrame s (handMessage m s) := by
  unfold handMessage
  split
  · exact ride_takePassOpen _ _
  · exact ride_takePassClose _ _
  · split
    · exact (lineFrame_takeGroup _ _ _ _ _).ride
    · exact .refl s
  · split
    · exact (lineFrame_takeGroup _ _ _ _ _).ride
    · exact .refl s

theorem ride_judgeMessage (bits : BitVec 38) (s : State) : RideFrame s (judgeMessage bits s) := by
  unfold judgeMessage
  refine (lineFrame_seek s).ride.trans ?_
  split
  · exact (lineFrame_lineError _).ride
  · exact (ride_setGroup _ _).trans (ride_handMessage _ _)

theorem ride_stepRead (i : Fin 64) (s : State) : RideFrame s (stepRead i s) := by
  unfold stepRead
  split
  · exact (ride_readStrip _ _).trans (ride_handValues _ _)
  · exact .refl s

theorem journalFrame_stepRecord (before : State) (i : Fin 64) (s : State) : JournalFrame s (stepRecord before i s) := by
  unfold stepRecord
  dsimp only
  refine JournalFrame.trans ?_ ((journalFrame_recordStep _ _ _).trans (journalFrame_recordStep _ _ _))
  split
  · exact journalFrame_recordGlideEnd _ _ _
  · exact .refl s

theorem ride_automationStepWork (s : State) : RideFrame s (automationStepWork s) := by
  unfold automationStepWork
  dsimp only
  refine RideFrame.trans ?_ (lineFrame_enqueueOffsets _).ride
  refine RideFrame.trans ?_ (forStrips_ride (fun i t => (journalFrame_stepRecord _ i t).ride) _)
  exact (forStrips_ride ride_stepRead s).trans (forStrips_ride ride_advanceGlide _)

theorem ride_endPass (s : State) : RideFrame s (endPass s) := ride_setPass _ _

theorem ride_mergeBoundary (s : State) : RideFrame s (mergeBoundary s) := by
  unfold mergeBoundary
  split
  · dsimp only
    split
    · exact (((ride_modAuto _ _ _).trans (ride_setPass _ _)).trans (ride_endPass _)).trans (ride_raise _ _)
    · exact (ride_modAuto _ _ _).trans (ride_setPass _ _)
  · exact .refl s

theorem inner_writeStripWork (i : Fin 64) (d : StripData) (s : State) : Inner s (writeStripWork i d s) := by
  unfold writeStripWork
  dsimp only
  have h := inner_modStrip i (Strip.store d) s
  exact (((h.unlessDone (lineFrame_changeRole _ _ _).inner).unlessDone (ride_changeCut _ _).inner).whenDone
    (ride_evalStrip _ _).inner).unlessDone (ride_changeMode _ _).inner

end Sys2Proof.Machine
end

