-- ==== Sys2Proof/Laws/Lanes.lean ====
section
/-! SUPPORT. What a due request can leave of a peer queue (R57, R60, R70). -/

namespace Sys2Proof.Machine

/-- Tags that stand equally far from one tag are the same. -/
theorem tag_eq_of_tagDiff_eq {a b tag : Tag} (h : tagDiff a tag = tagDiff b tag) : a = b :=
  (BitVec.sub_left_inj _).mp (BitVec.toInt_inj.mp h)

@[simp] theorem tagDiff_self (tag : Tag) : tagDiff tag tag = 0 := by simp [tagDiff]

@[simp] theorem olderThan_eq_false {tag : Tag} {f : LaneFrame} : olderThan tag f = false ↔ 0 ≤ tagDiff f.tag tag := by
  simp [olderThan]

/-- Placing a frame brings no other frame in. -/
theorem mem_of_mem_placeQueued {tag : Tag} {f g : LaneFrame} {l : List LaneFrame} (h : g ∈ placeQueued tag f l) :
    g = f ∨ g ∈ l := by
  fun_induction placeQueued tag f l <;> grind

/-- Placing a frame leaves every frame that stood there. -/
theorem mem_placeQueued_of_mem {tag : Tag} {f g : LaneFrame} {l : List LaneFrame} (h : g ∈ l) : g ∈ placeQueued tag f l := by
  fun_induction placeQueued tag f l <;> grind

/-- A frame placed among frames of other tags stands there. -/
theorem mem_placeQueued_self {tag : Tag} {f : LaneFrame} {l : List LaneFrame} (h : ∀ g ∈ l, g.tag ≠ f.tag) :
    f ∈ placeQueued tag f l := by
  fun_induction placeQueued tag f l <;> grind

/-- Placing a frame keeps the frames ascending from the tag requested. -/
theorem placeQueued_ascending {tag : Tag} (f : LaneFrame) {l : List LaneFrame}
    (h : l.Pairwise fun a b => tagDiff a.tag tag < tagDiff b.tag tag) :
    (placeQueued tag f l).Pairwise fun a b => tagDiff a.tag tag < tagDiff b.tag tag := by
  fun_induction placeQueued tag f l with
  | case1 => simp
  | case2 g rest lt =>
    refine List.pairwise_cons.mpr ⟨fun a ha => ?_, h⟩
    rcases List.mem_cons.mp ha with rfl | ha
    · exact lt
    · exact lt.trans (List.rel_of_pairwise_cons h ha)
  | case3 g rest _ eq => exact h
  | case4 g rest ge ne ih =>
    have key : ∀ a ∈ placeQueued tag f rest, tagDiff g.tag tag < tagDiff a.tag tag := fun a ha => by
      rcases mem_of_mem_placeQueued ha with rfl | ha
      · exact lt_of_le_of_ne (not_lt.mp ge) fun e => ne (tag_eq_of_tagDiff_eq e).symm
      · exact List.rel_of_pairwise_cons h ha
    exact List.pairwise_cons.mpr ⟨key, ih h.of_cons⟩

/-- A placed frame lengthens the list by one at most, and by one exactly among frames of other tags. -/
theorem length_placeQueued {tag : Tag} {f : LaneFrame} {l : List LaneFrame} :
    (placeQueued tag f l).length ≤ l.length + 1 ∧
      ((∀ g ∈ l, g.tag ≠ f.tag) → (placeQueued tag f l).length = l.length + 1) := by
  fun_induction placeQueued tag f l <;> grind

/-- What a due request leaves of a queue, before it takes the frame due: queued frames, none of them older than the tag requested, in
ascending order from it, and of every tag that is not older the frame that arrived last (R57, R60, R70). -/
theorem Peer.dueQueue_spec (tag : Tag) (p : Peer) :
    (∀ f ∈ p.dueQueue tag, f ∈ p.queue ∧ 0 ≤ tagDiff f.tag tag) ∧
    (p.dueQueue tag).Pairwise (fun f g => tagDiff f.tag tag < tagDiff g.tag tag) ∧
    (∀ before f after, p.queue = before ++ f :: after → 0 ≤ tagDiff f.tag tag → (∀ g ∈ after, g.tag ≠ f.tag) →
      f ∈ p.dueQueue tag) ∧
    (p.dueQueue tag).length ≤ p.queue.length ∧
    ((p.queue.map LaneFrame.tag).Nodup →
      (p.dueQueue tag).length + p.queue.countP (fun f => decide (tagDiff f.tag tag < 0)) = p.queue.length) := by
  simp only [Peer.dueQueue]
  induction p.queue with
  | nil => simp
  | cons x l ih =>
    obtain ⟨sub, ascends, last, short, full⟩ := ih
    by_cases hx : 0 ≤ tagDiff x.tag tag
    · rw [List.filter_cons_of_pos (by simp [hx]), List.foldr_cons]
      refine ⟨fun f hf => ?_, placeQueued_ascending x ascends, fun before f after h hf hl => ?_, ?_, fun nodup => ?_⟩
      · rcases mem_of_mem_placeQueued hf with rfl | hf
        · exact ⟨List.mem_cons_self, hx⟩
        · exact ⟨List.mem_cons_of_mem _ (sub f hf).1, (sub f hf).2⟩
      · cases before with
        | nil =>
          obtain ⟨rfl, rfl⟩ := List.cons.inj h
          exact mem_placeQueued_self fun g hg => hl g (sub g hg).1
        | cons b before => exact mem_placeQueued_of_mem (last before f after (List.cons.inj h).2 hf hl)
      · exact length_placeQueued.1.trans (by simpa using short)
      · obtain ⟨fresh, nodup⟩ := List.nodup_cons.mp nodup
        rw [length_placeQueued.2 fun g hg e => fresh (List.mem_map.mpr ⟨g, (sub g hg).1, e⟩),
          List.countP_cons_of_neg (by simpa using hx), List.length_cons, ← full nodup]
        omega
    · rw [List.filter_cons_of_neg (by simpa using hx)]
      refine ⟨fun f hf => ⟨List.mem_cons_of_mem _ (sub f hf).1, (sub f hf).2⟩, ascends, fun before f after h hf hl => ?_,
        short.trans (by simp), fun nodup => ?_⟩
      · cases before with
        | nil => exact absurd ((List.cons.inj h).1 ▸ hf) hx
        | cons b before => exact last before f after (List.cons.inj h).2 hf hl
      · rw [List.countP_cons_of_pos (by simpa using hx), List.length_cons, ← full (List.nodup_cons.mp nodup).2]
        omega

/-- Every tag queued and not older stands in the queue left. -/
theorem Peer.exists_mem_dueQueue {tag : Tag} {p : Peer} {f : LaneFrame} (h : f ∈ p.queue) (hf : 0 ≤ tagDiff f.tag tag) :
    ∃ g ∈ p.dueQueue tag, g.tag = f.tag := by
  have placed (x : LaneFrame) (l : List LaneFrame) : ∃ g ∈ placeQueued tag x l, g.tag = x.tag := by
    fun_induction placeQueued tag x l <;> grind
  simp only [Peer.dueQueue]
  replace h : f ∈ p.queue.filter fun f => !olderThan tag f := by simp [h, hf]
  generalize p.queue.filter (fun f => !olderThan tag f) = l at h
  induction l with
  | nil => cases h
  | cons x l ih =>
    rcases List.mem_cons.mp h with rfl | h
    · exact placed f _
    · obtain ⟨g, hg, e⟩ := ih h
      exact ⟨g, mem_placeQueued_of_mem hg, e⟩

/-- Of two tags that are not older than one tag, the one further ahead of it is newer. -/
theorem tagDiff_pos_of_lt {a b tag : Tag} (ha : 0 ≤ tagDiff a tag) (h : tagDiff a tag < tagDiff b tag) : 0 < tagDiff b a := by
  have hb := BitVec.toInt_lt (x := b - tag)
  have e : b - a = (b - tag) - (a - tag) := by bv_omega
  simp only [tagDiff] at *
  rw [e, BitVec.toInt_sub, Int.bmod_eq_of_le] <;> omega

/-- A due request leaves a queue of at most 4 frames, each newer than the one before it, of any queue of at most 4 (R57). -/
theorem Peer.queueSafe_dueQueue (tag : Tag) {p : Peer} (h : p.queue.length ≤ 4) : queueSafe (p.dueQueue tag) := by
  obtain ⟨sub, ascends, -, short, -⟩ := p.dueQueue_spec tag
  refine ⟨short.trans h, List.Pairwise.isChain (ascends.imp_of_mem fun hf _ lt => tagDiff_pos_of_lt (sub _ hf).2 lt)⟩

/-- What a due request takes: where the queue holds a frame of the tag requested, one of that tag, from the head; where it takes none, the
frames left are newer (R60, R70). -/
theorem Peer.onTime_spec (tag : Tag) (p : Peer) :
    (∀ f, p.onTime tag = some f → f.tag = tag ∧ p.dueQueue tag = f :: (p.dueQueue tag).tail) ∧
    (p.onTime tag = none → ∀ f ∈ p.dueQueue tag, 0 < tagDiff f.tag tag) ∧
    (p.onTime tag = none ↔ ∀ f ∈ p.queue, f.tag ≠ tag) := by
  obtain ⟨sub, ascends, -⟩ := p.dueQueue_spec tag
  have found : (∃ f ∈ p.queue, f.tag = tag) → ∃ f ∈ p.dueQueue tag, f.tag = tag := fun ⟨f, h, e⟩ =>
    have ⟨g, hg, eg⟩ := Peer.exists_mem_dueQueue h (tag := tag) (by simp [e])
    ⟨g, hg, eg.trans e⟩
  have zero {f : LaneFrame} (h : tagDiff f.tag tag = 0) : f.tag = tag :=
    tag_eq_of_tagDiff_eq (h.trans (tagDiff_self tag).symm)
  simp only [Peer.onTime]
  generalize p.dueQueue tag = l at sub ascends found ⊢
  match l with
  | [] => simpa using fun g hg e => by simpa using found ⟨g, hg, e⟩
  | f :: rest =>
    have after : ∀ g ∈ rest, tagDiff f.tag tag < tagDiff g.tag tag := fun _ => List.rel_of_pairwise_cons ascends
    have := (sub f List.mem_cons_self).2
    by_cases e : f.tag = tag
    · grind
    · have : 0 < tagDiff f.tag tag := lt_of_le_of_ne this fun h => e (zero h.symm)
      have newer : ∀ g ∈ f :: rest, 0 < tagDiff g.tag tag := fun g hg => by
        rcases List.mem_cons.mp hg with rfl | hg
        · exact this
        · exact this.trans (after g hg)
      have none_due : ∀ g ∈ p.queue, g.tag ≠ tag := fun g hg eg => by
        obtain ⟨x, hx, ex⟩ := found ⟨g, hg, eg⟩
        simpa [ex] using newer x hx
      simpa [e] using ⟨by simpa using newer, none_due⟩

/-- What a due request does to the queue and its counters: the stale counter rises by the frames discarded; an on-time request takes the
head left, and a missed one leaves it (R60). -/
theorem Peer.request_queue (tag : Tag) (p : Peer) :
    (p.request tag).stale = count16 p.stale (p.queue.length - (p.dueQueue tag).length) ∧
    (p.request tag).queue = (match p.onTime tag with
      | some _ => (p.dueQueue tag).tail
      | none => p.dueQueue tag) := by
  cases h : p.onTime tag <;> simp [Peer.request, h, Peer.answered, Peer.unanswered]

end Sys2Proof.Machine
end

