-- ==== Sys2Proof/Tests/Slice0.lean ====
section
/-! SUPPORT. The model's own tests. Expected values come from the worked sequences and tables of spec/, or from hand calculation with
the rule each test names. The second half holds the witnesses: for each statement with hypotheses, states and operands that meet them
together. -/

namespace Sys2Proof.Tests

open Sys2Proof Sys2Proof.Machine

set_option maxRecDepth 20000
set_option Elab.async false

/-- The state after a command. -/
def after (c : Instr) (s : State) : State :=
  match exec c s with
  | .next t => t
  | .fault _ => s
  | .refused _ => s

/-! ### WellFormed and decoding -/

/-- Data longer than the length byte can count is refused (R181). -/
theorem test_wellFormed_refuses_long_data : (Instr.readStrip 0 (List.replicate 256 0)).wellFormed = false := by decide

/-- A byte that names a command cannot be said to name none (R181). -/
theorem test_wellFormed_refuses_named_command : (Instr.commandByteNamesNoCommand 24 0 []).wellFormed = false := by decide

/-- 255 data bytes and command byte 19h are well-formed (R181). -/
theorem test_wellFormed_takes_the_limits : (Instr.readStrip 0 (List.replicate 255 0)).wellFormed = true ∧
    (Instr.commandByteNamesNoCommand 0x19 0 []).wellFormed = true := by decide

/-- READ STATUS is 01h and ENGINE RESTART 18h; the address is sent high byte first (R175, R181). -/
theorem test_decode_requests : decodeRequest [0x01, 0, 0, 0] = .readStatus 0 [] ∧ decodeRequest [0x18, 0, 0, 0, 0xAA] = .engineRestart 0 [] ∧
    decodeRequest [0x07, 0x01, 0x02, 2, 9, 8] = .writeSend 0x0102 [9, 8] := by decide

/-- A request with a data byte missing is abandoned; byte 19h names no command (R169, R181). -/
theorem test_decode_short_and_unnamed : decodeRequest [0x07, 0, 2, 2, 9] = .controlRequestAbandoned ∧
    decodeRequest [0x19, 0, 2, 1, 9] = .commandByteNamesNoCommand 0x19 2 [9] := by decide

/-- No row of the table gives bits. -/
theorem test_decodeTableWord_reads_none : decodeTableWord 8 1 = none := by decide

/-! ### Gain arithmetic (chapter 1) -/

/-- The halves of R4: 617,283.5 and −617,283.5. -/
theorem test_product_rounds_halves_up : product 1234567 2097152 = 617284 ∧ product (-1234567) 2097152 = -617283 := by decide

/-- A product past the wide range saturates (R4, R5). -/
theorem test_product_saturates : product 2147483647 16697825 = 2147483647 ∧ product (-2147483648) 16697825 = -2147483648 := by decide

/-- The anchors of R2. -/
theorem test_coefficient_anchors : coefficient 0 = 0 ∧ coefficient 1 = 134 ∧ coefficient 780 = 1053562 ∧ coefficient 880 = 3331654 ∧
    coefficient 900 = 4194304 ∧ coefficient 1020 = 16697825 := by decide +kernel

/-- The worked level ramps of 1.5. -/
theorem test_level_ramp_worked :
    LevelRamp.advance^[10] ((LevelRamp.atRest 4194304).take 3331654) = .settled 4059524 3331654 (-13478) 54 ∧
    LevelRamp.advance^[63] ((LevelRamp.settled 4059524 3331654 (-13478) 54).take 0) = .settled 63434 0 (-63430) 1 ∧
    (LevelRamp.settled 63434 0 (-63430) 1).advance = .atRest 0 := by decide

/-- The ramp of 2.8 restarted by an offset: (4,194,304 − 4,059,524) / 64 truncates to 2,105. -/
theorem test_level_ramp_restarts :
    ((LevelRamp.settled 4059524 3331654 (-13478) 54).take 4194304).advance = .settled 4061629 4194304 2105 63 := by decide

/-- A strip's ramp on its way to A that is handed B and then A with no boundary between them goes on to A as if B had never come (R27). -/
theorem test_strip_ramp_forgets_what_no_boundary_saw :
    let r := LevelRamp.settled 4059524 3331654 (-13478) 54
    (r.retarget 4194304).retarget 3331654 = r ∧ ((r.retarget 0).retarget 4194304) = r.retarget 4194304 := by decide

/-- A premix master's ramp handed B and then A starts a fresh ramp of 64 boundaries to A (R11). -/
theorem test_master_ramp_starts_afresh :
    let r := (LevelRamp.settled 4059524 3331654 (-13478) 54).take 4194304
    (r.take 3331654).course = ⟨3331654, -11372, 64⟩ ∧ (r.take 4194304) = r := by decide

/-- The stems of the first boundary after a restart carry no strip sum, also where a frame was processed in between (R31). -/
theorem test_restart_leaves_terms_alone :
    (⟨none, [(70, 9)], true⟩ : Engine).completing = [] ∧ (⟨none, [(70, 9)], false⟩ : Engine).completing = [(70, 9)] := by decide

/-- A full cut takes 64 boundaries, and a reversal goes on from where the gain stands (R14). -/
theorem test_cut_ramp : CutRamp.advance^[64] (CutRamp.reset.take true) = ⟨0, .cutting⟩ ∧
    CutRamp.advance^[2] (((⟨2097152, .cutting⟩ : CutRamp)).take false) = ⟨2228224, .opening⟩ := by decide

/-- The examples of R17 and of 4.7. -/
theorem test_fade_terms : fadeTerm 7000000 128 = 3500000 ∧ fadeTerm 7000000 200 = 5468750 ∧ fadeTerm (-5) 128 = -2 ∧
    fadeTerm 7000000 1 = 27344 ∧ fadeTerm 1000000 1 = 3906 := by decide

/-- The examples of R18: an interpolated code lags its end in both directions. -/
theorem test_interpolation : interpolate 880 900 1 3 = 886 ∧ interpolate 900 880 1 3 = 894 := by decide

/-- Strip 1 of 2.9: u = P(−300,001, 2,097,152) is −150,000. -/
theorem test_cut_sample_of_worked_frame : product (product (-300001) 4194304) 2097152 = -150000 := by decide

/-! ### Strips (chapter 2) -/

/-- The sequence of 2.8: code 900 under offsets −1020 and +20 clamps to 0, under −20 and +20 it stays 900. -/
theorem test_effective_level_under_groups :
    clampCode (900 + ([(-1020 : Int), 20]).sum) = 0 ∧ clampCode (900 + ([(-20 : Int), 20]).sum) = 900 := by decide

/-- A master at code 0 hands −1020, at 880 it hands −20 (R33). -/
theorem test_master_offset : masterOffset 0 = -1020 ∧ masterOffset 880 = -20 ∧ masterOffset 1020 = 120 := by decide

/-- The data of a WRITE STRIP: GROUP MASTER of group 5, no input, trim 1100 as carried, solo on, mode LATCH (R182). -/
theorem test_strip_data :
    readStripData [0x85, 0xFF, 0x04, 0x4C, 2, 2, 1, 31, 40, 0, 3, 0x0B, 0xB9, 0x03, 0x84] =
      some ⟨.groupMaster 5, none, 1100, false, true, false, [1, 31], .latch, 3001, 900⟩ ∧
    readStripData [0xA0, 0xFF, 4, 0, 0, 0, 0, 0, 0, 0, 0, 0, 0, 0, 0] = none ∧
    readStripData [0, 0xFF, 4, 0, 0, 2, 7, 7, 0, 0, 0, 0, 0, 0, 0] = none := by decide

/-- WRITE STRIP clamps trim to 1020 and glide steps to 3000 (R35). -/
theorem test_writeStrip_clamps :
    let t := after (.writeStrip 3 [0, 9, 0x04, 0x4C, 2, 0, 0, 0, 0, 0, 1, 0x0B, 0xB9, 0x03, 0x84]) State.reset
    t.strips[3].trim = 1020 ∧ t.strips[3].glideSteps = 3000 ∧ t.strips[3].staticCode = 900 ∧
      t.strips[3].levelRamp = ⟨0, 4194304, 65536, 64, ⟨0, 0, 0⟩⟩ := by decide +kernel

/-- WRITE SEND to bus 128 is refused with RANGE (R36). -/
theorem test_writeSend_refuses_bus_128 :
    (after (.writeSend 3 [0, 128, 3, 132, 1]) State.reset).control.reply = some ⟨.range, []⟩ := by decide +kernel

/-! ### Lanes and peers (chapters 3 and 4) -/

/-- The frame tagged n + 1 of 3.10: three entries, 29 bytes; its head byte is slot 4, LOCKED (R176). -/
theorem test_lane_frame_of_worked_sequence :
    let f : LaneFrame := ⟨4, .locked, 9, [3], [(3, 0)], [(69, 1850000), (70, 0)]⟩
    (laneFrameBytes f).length = 29 ∧ (laneFrameBody f).take 12 = [0x48, 9, 0x10, 0, 0, 0, 0, 0, 0, 0, 1, 3] ∧
      (laneFrameBody f).drop 16 = [2, 69, 0x00, 0x1C, 0x3A, 0x90, 70, 0, 0, 0, 0] := by decide +kernel

/-- The check of R47 over the nine digits "123456789" is 29B1h, as for every CRC-16 of this polynomial and initial value. -/
theorem test_crc16 : crc16 [0x31, 0x32, 0x33, 0x34, 0x35, 0x36, 0x37, 0x38, 0x39] = 0x29B1 := by decide

/-- A peer of 4.7 at its 16th on-time request enters LIVE with k in force 0, which then rises to 1. -/
theorem test_peer_joins :
    let f : LaneFrame := ⟨9, .locked, 15, [], [], [(69, 7000000)]⟩
    let p : Peer := { Peer.reset with state := .acquiring, good := 15, last := some f, queue := [f] }
    ((p.request 15).state, (p.request 15).good) = (.live, 16) := by decide

/-- A request after a realign discards every older frame, behind a newer head too (R60, R70): with 126 to 129 queued and 0 requested, 128 and
129 are stale and the request misses; with 127 to 129 and 0, the frame due is taken on time. The last row of 4.9 loses 254 and 255. -/
theorem test_due_request_discards_every_older_frame :
    let ask (tag : Tag) (tags : List Tag) : List Tag × Nat × Nat × Nat :=
      let p := { Peer.reset with queue := tags.map fun n => ⟨9, .locked, n, [], [], []⟩ }.request tag
      (p.queue.map LaneFrame.tag, p.stale, p.used, p.missed)
    ask 0 [126, 127, 128, 129] = ([126, 127], 2, 0, 1) ∧ ask 0 [127, 128, 129, 0] = ([127], 2, 1, 0) ∧
      ask 0 [254, 255, 0] = ([], 2, 1, 0) ∧ ask 200 [1, 127, 210] = ([210, 1], 1, 0, 1) := by decide

/-- The tag distance of 4.9: 0 is newer than 255 by 1, and 254 is older than 0 by 2. -/
theorem test_tag_distance : tagDiff 0 255 = 1 ∧ tagDiff 254 0 = -2 ∧ tagDiff 128 0 = -128 := by decide

/-- The second mismatch of 3.12 declares a slot conflict. -/
theorem test_slot_conflict :
    let t := after (.laneFrameCompletion [] true)
      { State.reset with tx := ⟨.driving, some ⟨0, .free, 0, [], [], []⟩, none, [], 1⟩ }
    t.tx.drive = .conflictSilent ∧ t.listenOnly = true ∧ t.control.causes = 2 := by decide +kernel

/-! ### Bus summer (chapter 5) -/

/-- The accumulation set of 5.8 at 96 kHz, before and after window 1 is widened. -/
theorem test_accumulation_set :
    let w (base mask : BitVec 7) : Window := ⟨base, mask, true⟩
    let small := buildConfig .khz96 [3, 10, 11] #v[w 64 15, w 96 7, w 3 0, w 80 9]
    let wide := buildConfig .khz96 [3, 10, 11] #v[w 64 15, w 96 15, w 3 0, w 80 9]
    small.buses.length = 31 ∧ small.oversubscribed = false ∧
      wide.buses.drop 19 = [80, 81, 88, 89, 96, 97, 98, 99, 100, 101, 102, 103, 104] ∧ wide.oversubscribed = true := by
  decide +kernel

/-- WRITE PREMIX puts the channel into the pending owned set only (R75). -/
theorem test_writePremix_is_pending :
    let t := after (.writePremix 3 [1, 3, 132, 5, 3, 132, 255, 0, 0]) State.reset
    t.summer.pending.owned = [3] ∧ t.summer.config.owned = [] ∧ t.summer.premix[3].send0 = ⟨some 5, 900⟩ := by decide +kernel

/-! ### Group line (chapter 6) -/

/-- GROUP LEVEL of group 4 with −1020: class 10, slot 3, kind 11, number 4, value C04h, end bits 11 (R93, R177). -/
theorem test_group_message_bits :
    let bits := messageBits ⟨.groupLevel, 3, 4, -1020⟩
    bits.extractLsb' 36 2 = 2#2 ∧ bits.extractLsb' 32 4 = 3#4 ∧ bits.extractLsb' 30 2 = 3#2 ∧ bits.extractLsb' 22 8 = 4#8 ∧
      bits.extractLsb' 10 12 = 0xC04#12 ∧ bits.extractLsb' 0 2 = 3#2 ∧ readMessage bits = some ⟨.groupLevel, 3, 4, -1020⟩ := by decide

/-- The contention of 6.10: class 1 beats class 2, and slot 1 beats slot 3. -/
theorem test_arbitration_order :
    (messageBits ⟨.groupCut, 9, 4, 1⟩).toNat < (messageBits ⟨.groupLevel, 1, 7, 0⟩).toNat ∧
      (messageBits ⟨.groupLevel, 1, 7, 0⟩).toNat < (messageBits ⟨.groupLevel, 3, 4, -20⟩).toNat := by decide

/-- The coalescing of 6.11: −30 replaces −26 in flight, and the completed message leaves the entry with −30. -/
theorem test_coalesced_entry_stays :
    let g : GroupLine := { GroupLine.reset with mastered := [⟨2, -30, false, -30⟩], queue := [⟨.groupLevel, 2, -26, some (-26)⟩] }
    (g.enqueue .groupLevel 2 (-30)).queue = [⟨.groupLevel, 2, -30, some (-26)⟩] ∧
      (g.enqueue .groupLevel 2 (-30)).settle.queue = [⟨.groupLevel, 2, -30, none⟩] := by decide +kernel

/-! ### Clock unit (chapter 7) -/

/-- The first edge of 7.7, 188 periods after the boundary at 512, is early: LOCKING, no boundary, CLOCK CHANGE. -/
theorem test_first_edge_is_early :
    let t := after (.referenceEdge false 700) { State.reset with clock := { Clock.reset .khz48 with latestBoundary := 512, tag := 1 } }
    t.clock.state = .locking ∧ t.clock.tag = 1 ∧ t.clock.latestBoundary = 512 ∧ t.control.causes = 16 := by decide +kernel

/-- The remainder of 7.8: 224 + 56 decides a frame of 513 periods and leaves 24; 24 + 56 one of 512. -/
theorem test_holdover_length :
    let c : Clock := { Clock.reset .khz48 with
      state := .holdover, remainder := 224, window := List.replicate 200 512 ++ List.replicate 56 513 }
    c.decideLength.holdoverLength = 513 ∧ c.decideLength.remainder = 24 ∧ c.decideLength.decideLength.holdoverLength = 512 := by
  decide +kernel

/-- The marked edge of 7.7: tag 45 becomes 0, and the realign is counted. -/
theorem test_marked_edge_realigns :
    let c := Clock.boundary 154300 true { Clock.reset .khz48 with state := .locked, tag := 44 }
    c.tag = 0 ∧ c.realigns = 1 := by decide

/-- The edge of R115, one loss window after the edge before it, LOCKED: taken first it makes the one boundary and ends in LOCKING, and the
expiry that came with it is not taken; taken second it is early, and LOCKING too is where it ends. -/
theorem test_edge_and_expiry_come_together :
    let c : Clock := { Clock.reset .khz48 with
      state := .locked, acquisition := 256, latestEdge := some 1000, latestBoundary := 1000, tag := 7 }
    let s := State.reset.setClock c
    let first := after .lossWindowExpiry (after (.referenceEdge false 1768) s)
    let second := after (.referenceEdge false 1768) (after .lossWindowExpiry s)
    (first.clock.state, first.clock.tag, first.clock.latestBoundary, first.clock.latestEdge) = (.locking, 8, 1768, some 1768) ∧
      (second.clock.state, second.clock.tag, second.clock.latestBoundary, second.clock.latestEdge) = (.locking, 8, 1768, some 1768) := by
  decide +kernel

/-! ### Surface port (chapter 8) -/

/-- The codes of 8.8 with L = 200 and H = 3,900. -/
theorem test_fader_codes :
    let f : Fader := { Fader.reset with low := 200, high := 3900 }
    (f.codeOf 3464, f.codeOf 3468, f.codeOf 3472, f.codeOf 3461, f.codeOf 3392) = (900, 901, 902, 899, 880) := by decide

/-- The acceptances of 8.8, and the motor target 3,392 for code 880. -/
theorem test_fader_acceptance :
    let f : Fader := { Fader.reset with low := 200, high := 3900, lastCode := 900, acceptNext := false }
    f.accepts 901 = false ∧ f.accepts 902 = true ∧ f.target 880 = 3392 := by decide

/-- The touch of 8.9: three readings at or above 40 declare it, three below 25 release it. -/
theorem test_touch_sequence :
    let f : Fader := { Fader.reset with present := true, baseline := some 1000, untouchedScans := 5 }
    let run (l : List Nat) : Fader × TouchEvent := l.foldl (fun p c => p.1.sense c) (f, .none)
    (run [1010, 968, 962]).1.debounce = 2 ∧ (run [1010, 968, 962, 955]).2 = .touch ∧
      (run [1010, 968, 962, 955, 980, 988, 992, 996]).2 = .release ∧
      (run [1010, 968, 962, 955, 980, 988, 992, 996]).1.baseline = some 1010 := by decide

/-- The stuck knob of 8.9: at the 60,000th touched scan the fader is given up and its baseline set to the count. -/
theorem test_stuck_touch :
    let f : Fader := { Fader.reset with present := true, baseline := some 1010, touched := true, touchedScans := 59999 }
    (f.sense 955).2 = .stuck ∧ (f.sense 955).1.baseline = some 955 ∧ (f.sense 955).1.touched = false := by decide

/-- A scan of no reading, with its check, is good; with another check it is bad and counted (R121). -/
theorem test_bad_scan_is_counted :
    readScan (withCheck [0]) = some [] ∧ (after (.scanArrival [0, 0, 0]) State.reset).surface.scanErrors = 1 := by decide +kernel

/-! ### Automation (chapters 9 and 10) -/

/-- The LEVEL list of strip 20 in 9.8. -/
def rideList : List LevelMove := [⟨1000, 900, true⟩, ⟨4200, 800, false⟩]

/-- The readings of 9.8, before the list, along the glide, and past its end. -/
theorem test_reading_of_the_ride :
    [10, 1984, 2600, 2720, 50000].map (readLevelAt rideList) =
      [some (900, false), some (870, true), some (850, true), some (847, true), some (800, false)] := by decide

/-- The glide codes of 9.8: 925, 900, 874, 847. -/
theorem test_glide_codes :
    let a : AutoStrip := { AutoStrip.reset with glideStart := 950, glideLength := 4 }
    (glideCode a 850 1, glideCode a 849 2, glideCode a 848 3, glideCode a 847 4) = (925, 900, 874, 847) := by decide

/-- The journal of the ride in 10.3. -/
def rideJournal : List Record :=
  [.punchIn 20 .level 2000, .move 20 2000 (.level 870 false), .move 20 2016 (.level 910 false), .move 20 2048 (.level 950 false),
    .move 20 2600 (.level 950 true), .punchOut 20 .level 2720]

/-- The merge of 10.4. -/
theorem test_merge_of_the_ride :
    (rangesFrom 20 .level pickLevel none rideJournal).foldl (mergeLevelRange 0) rideList =
      [⟨1000, 900, true⟩, ⟨2000, 870, false⟩, ⟨2016, 910, false⟩, ⟨2048, 950, false⟩, ⟨2600, 950, true⟩, ⟨2720, 847, true⟩,
        ⟨4200, 800, false⟩] ∧
    moveRecords rideJournal + punchInRecords rideJournal = 5 := by decide

/-- The readings after the keep in 10.4: 902 at 2,656 and 839 at 3,000. -/
theorem test_reading_after_the_merge :
    let kept := (rangesFrom 20 .level pickLevel none rideJournal).foldl (mergeLevelRange 0) rideList
    (readLevelAt kept 2656, readLevelAt kept 3000) = (some (902, true), some (839, true)) := by decide

/-- A position record of 9 bytes is read back, and its last byte changed makes it bad (R178, R137). -/
theorem test_position_record : readPositionRecord (positionBytes 50000 .playing) = some (50000, .playing) ∧
    readPositionRecord ((positionBytes 50000 .playing).set 8 0) = none := by decide +kernel

/-- A move at an existing position replaces it, and another takes its place in order (R139). -/
theorem test_insert_replaces : insertLevel ⟨1000, 5, false⟩ rideList = [⟨1000, 5, false⟩, ⟨4200, 800, false⟩] ∧
    insertLevel ⟨2000, 5, false⟩ rideList = [⟨1000, 900, true⟩, ⟨2000, 5, false⟩, ⟨4200, 800, false⟩] := by decide

/-- PASS DROP and PASS KEEP in IDLE are refused with WRONG STATE (R160, R163). -/
theorem test_pass_commands_in_idle : (after (.passDrop 0 []) State.reset).control.reply = some ⟨.wrongState, []⟩ ∧
    (after (.passKeep 0 []) State.reset).control.reply = some ⟨.wrongState, []⟩ := by decide +kernel

/-- On a listen-only station PASS OPEN opens the pass at once (R106, R153). -/
theorem test_passOpen_listen_only :
    let t := after (.passOpen 7 []) (State.resetWith ⟨3, .khz96, true⟩)
    t.pass.state = .recording ∧ t.pass.number = some 7 := by decide +kernel

/-! ### Ports and control (chapter 11) -/

/-- The stopped input of 11.7: a RUNNING port that holds nothing turns SILENT and raises INPUT SILENT. -/
theorem test_input_silent :
    let t := handInputs { State.reset with ports := { Ports.reset with inputs := Ports.reset.inputs.set 2 ⟨true, none⟩ } }
    t.ports.inputs[2] = ⟨false, none⟩ ∧ t.control.causes = 256 := by decide +kernel

/-- The port clamp of R7. -/
theorem test_port_clamp : clampPort 8388608 = 8388607 ∧ clampPort (-8388609) = -8388608 ∧ clampPort (-5) = -5 := by decide

/-- READ CAUSES after reset reports no cause, and CLEAR CAUSES clears the selected alone (R171, R181). -/
theorem test_causes :
    (after (.readCauses 0 []) State.reset).control.reply = some ⟨.ok, [0, 0]⟩ ∧
      (after (.clearCauses 0 [0x01, 0x01]) { State.reset with control := ⟨0x4103, 0, none⟩ }).control.causes = 0x4002 := by
  decide +kernel

/-- READ MOVES of an empty list reports no move, two counts of 0 and a clear mark (R140, R182). -/
theorem test_readMoves_empty :
    (after (.readMoves 3 [0, 0, 0, 0, 0, 0, 0]) State.reset).control.reply = some ⟨.ok, [0, 0, 0, 0, 0, 0]⟩ := by decide +kernel

/-- At the 32nd boundary an automation step is due at 48 kHz, and the position does not move while STOPPED (R136). -/
theorem test_step_due :
    let p := Playback.boundary .khz48 { Playback.reset with stepCount := 31, position := 9 }
    p.stepDue = true ∧ p.stepCount = 0 ∧ p.position = 9 := by decide +kernel

/-- The own contribution of the first boundary after a restart is 0, also where a frame was processed in between (R91). -/
theorem test_restart_leaves_no_own_share :
    let s := State.reset.setSummer { Summer.reset with ownPremix := [(0, [(3, 9)])] }
    s.ownContribution 3 = 9 ∧ (s.setEngine ⟨none, [], true⟩).ownContribution 3 = 0 := by decide +kernel

/-- The restart lifts a slot conflict, and a strap stays (R53). -/
theorem test_restart_lifts_conflict :
    (restartTx { State.reset with tx := ⟨.conflictSilent, none, none, [], 0⟩ }).tx.drive = .driving ∧
      (restartTx { State.reset with tx := ⟨.strapSilent, none, none, [], 0⟩ }).tx.drive = .strapSilent := by decide +kernel

/-- A step takes the front command and leaves the rest (log entry 2). -/
theorem test_step_takes_front :
    (match step (State.reset.setPending [.passDrop 0 [], .lineRest]) with
      | .next t => t.pending
      | .fault _ => []
      | .refused _ => []) = [.lineRest] := by decide +kernel

/-! ### States for the witnesses -/

/-- A station of slot 3 at 96 kHz, strapped listen-only, with a command waiting. -/
def station96 : State := (State.resetWith ⟨3, .khz96, true⟩).setPending [.dividerBoundary]

/-- A station at 48 kHz with a command waiting. -/
def station48 : State := State.reset.setPending [.dividerBoundary]

/-- A LOCKED clock whose latest edge made the boundary at 1,000. -/
def lockedClock : Clock :=
  { Clock.reset .khz48 with state := .locked, acquisition := 256, latestEdge := some 1000, latestBoundary := 1000, tag := 255 }

/-- A LOCKING clock one edge short of LOCKED. -/
def lockingClock : Clock := { lockedClock with state := .locking, acquisition := 255 }

/-- A HOLDOVER clock whose carried remainder reaches 256 at the next boundary. -/
def heldClock : Clock :=
  { Clock.reset .khz48 with
    state := .holdover, latestBoundary := 1768, holdoverLength := 512, remainder := 255, window := List.replicate 255 512 ++ [513] }

/-- A lane frame of slot 1. -/
def frameOf (tag : Tag) : LaneFrame := ⟨1, .locked, tag, [3], [(3, 2147483647)], [(69, -2147483648)]⟩

/-- A peer LIVE on its first frame, with the next one queued. -/
def livePeer : Peer := { Peer.reset with state := .live, good := 16, fade := 1, last := some (frameOf 9), queue := [frameOf 10] }

/-- A pass record RECORDING pass 7, with the LEVEL punch of strip 20 open. -/
def openPass : Pass :=
  { Pass.reset with
    state := .recording, number := some 7
    journal := [.punchIn 20 .level 2000, .move 20 2000 (.level 870 false)]
    punches := Pass.reset.punches.set 20 ⟨some (some 870), none⟩ }

/-- PLAYING at 2,600 with strip 20's ride in the store and its level LATCHED. -/
def ridePlayback : Playback :=
  { Playback.reset with
    position := 2600, transport := .playing
    strips := Playback.reset.strips.set 20 { AutoStrip.reset with levelMoves := rideList, phase := .latched } }

/-- A station recording the ride. -/
def recordingStation : State := (State.reset.setPass openPass).setPlayback ridePlayback

/-- Every state whose strips are at reset and whose mastered set is empty is tuned. -/
theorem tuned_of_reset_strips (s : State) (hs : s.strips = Vector.ofFn Strip.reset) (hg : s.group.mastered = [])
    (ht : s.group.soloLevel = false) : StripsTuned s := by
  refine ⟨?_, ?_, ?_, ?_⟩
  · intro i _
    simp [State.tuned, hs, ht, Strip.reset, Strip.levelUnder, Strip.cutUnder, Strip.faderCode, Strip.deskCode, Strip.modeCut]
  · intro i j g _ _ h
    simp [hs, Strip.reset] at h
  · simp [hg]
  · simp [hg]

/-- Every pass record at reset is safe. -/
theorem passSafe_of_reset (s : State) (h : s.pass = Pass.reset) : PassSafe s := by
  refine ⟨?_, ?_, ?_, ?_, ?_⟩
  · rw [h]; decide +kernel
  · intro i k hk
    rw [h] at hk
    cases k <;> simp [Pass.isOpen, Pass.reset] at hk
  all_goals simp [h, Pass.reset]

/-- The recording station's pass record is safe. -/
theorem passSafe_recording : PassSafe recordingStation := by
  refine ⟨by decide +kernel, ?_, by decide +kernel, by decide +kernel, by decide +kernel⟩
  intro i k hk
  refine ⟨rfl, rfl, ?_⟩
  exact decide_eq_true i.isLt

/-- Every peer of a station with reset peers but a LIVE slot 1 is safe. -/
theorem peers_safe (s : State) (h : s.peers = (Vector.replicate 16 Peer.reset).set 1 livePeer) : ∀ j : Fin 16, s.peers[j].safe := by
  intro j
  have hr : Peer.reset.safe := by simp [Peer.safe, queueSafe, Peer.reset]
  have hl : livePeer.safe := by simp [Peer.safe, queueSafe, livePeer, Peer.reset]
  by_cases hj : j = 1
  · subst hj; simpa [h] using hl
  · have : (1 : Nat) ≠ j.val := fun e => hj (Fin.ext e.symm)
    simp [h, this, hr]

/-- A reset station's ramps are safe. -/
theorem rampsSafe_of_reset (s : State) (hs : s.strips = Vector.ofFn Strip.reset) (hp : s.summer = Summer.reset) : RampsSafe s := by
  have hl : LevelRamp.reset.wf := by
    simp [LevelRamp.wf, LevelRamp.reset, LevelRamp.atRest, LevelRamp.settled, LevelRamp.course, Course.wf]
  have hc : CutRamp.reset.wf := by simp [CutRamp.wf, CutRamp.reset]
  have h0 : coefficient 0 = 0 := by decide +kernel
  have h : rampsFor 0 false LevelRamp.reset CutRamp.reset := ⟨by decide, hl, by simp [LevelRamp.reset, LevelRamp.atRest, LevelRamp.settled, h0], hc, rfl⟩
  constructor
  · intro i; simpa [hs, Strip.reset] using h
  · intro p; simpa [hp, Summer.reset, PremixMaster.reset] using h

/-! ### Witnesses: the whole part -/

/-- Hypotheses of StepTakesFrontCommand: a part with an empty queue. -/
theorem test_witness_StepTakesFrontCommand : State.reset.pending = [] := by decide

/-- Hypotheses of SettingsChangeOnlyByTheirCommands: LINE REST is none of the commands its clauses except, nor a boundary. -/
theorem test_witness_SettingsChangeOnlyByTheirCommands :
    ¬ isReset .lineRest ∧ ¬ makesBoundary State.reset .lineRest ∧ (∀ m k, Instr.lineRest ≠ .referenceEdge m k) ∧
      (∀ a d, Instr.lineRest ≠ .readStatus a d) ∧ (∀ a d, Instr.lineRest ≠ .writeAttentionMask a d) ∧
      (∀ a d, Instr.lineRest ≠ .writeOutput a d) ∧ (∀ a d, Instr.lineRest ≠ .writeCalibration a d) ∧
      (∀ a d, Instr.lineRest ≠ .writeTouch a d) ∧ (∀ a d, Instr.lineRest ≠ .writeStrip a d) ∧
      (∀ a d, Instr.lineRest ≠ .writeSend a d) ∧ (∀ a d, Instr.lineRest ≠ .writePremix a d) ∧
      ∀ a d, Instr.lineRest ≠ .writeWindow a d := by simp [isReset, makesBoundary]

/-- Hypotheses of CausesRiseByTheirRulesAndStay: PEER CHANGE is set and stays over LINE REST; LINE FAULT then has LINE ERROR set. -/
theorem test_witness_CausesRiseByTheirRulesAndStay :
    let s : State := { State.reset with control := ⟨1, 0, none⟩, group := { GroupLine.reset with queue := [⟨.passOpen, 7, 0, some 0⟩] } }
    PassSafe s ∧ s.causeSet .peerChange = true ∧ (after .lineRest s).causeSet .peerChange = true ∧
      (after .lineFault s).causeSet .lineError = true ∧ ∃ t, exec .lineFault s = .next t :=
  ⟨passSafe_of_reset _ rfl, by decide, by decide +kernel, by decide +kernel, _, rfl⟩

/-- A send queue with 40 entries. -/
def fullGroup : GroupLine := { GroupLine.reset with queue := (List.range 40).map fun n => ⟨.passOpen, n, 0, none⟩ }

/-- Hypotheses of RefusedCommandsChangeNothing: a refusal for want of state, and the full queue. -/
theorem test_witness_RefusedCommandsChangeNothing :
    (Instr.passDrop 0 []).request ≠ none ∧ State.reset.resetPin = false ∧
      (∃ t, exec (.passDrop 0 []) State.reset = .next t ∧ t.control.reply = some ⟨.wrongState, []⟩) ∧ Status.wrongState ≠ .ok ∧
      (after (.passOpen 50 []) (State.reset.setGroup fullGroup)).control.reply = some ⟨.busy, []⟩ :=
  ⟨by decide, by decide, ⟨_, rfl, by decide +kernel⟩, by decide, by decide +kernel⟩

/-- Hypotheses of ResetHoldAndEventsNotDueHaveNoEffect, clause by clause. -/
theorem test_witness_ResetHoldAndEventsNotDueHaveNoEffect :
    (State.reset.setResetPin true).resetPin = true ∧ ¬ isReset .lineRest ∧ (State.reset.setClock lockedClock).clock.state ≠ .free ∧
      State.reset.clock.state = .free ∧ State.reset.clock.state ≠ .holdover ∧ State.reset.playback.stepDue = false ∧
      State.reset.group.refreshDue = none ∧ State.reset.surface.silence < State.reset.rate.silenceWindow ∧
      State.reset.engine.handed = none ∧ State.reset.tx.inFlight = none ∧ State.reset.ports.totalsHanded = false ∧
      State.reset.group.sending = none ∧ State.reset.group.line ≠ .message ∧
      (State.reset.setGroup { GroupLine.reset with line := .idle }).group.line ≠ .seeking ∧
      (State.reset.setGroup { GroupLine.reset with line := .message }).group.line = .message := by
  refine ⟨rfl, by simp [isReset], ?_⟩
  decide +kernel

/-! ### Witnesses: clock and gains -/

/-- Hypotheses of ClockMakesItsOwnBoundaries: FREE, LOCKED with a latest edge, an expiry that an edge met, HOLDOVER. -/
theorem test_witness_ClockMakesItsOwnBoundaries :
    State.reset.resetPin = false ∧ State.reset.clock.state = .free ∧ lockedClock.state = .locked ∧
      lockedClock.latestEdge = some 1000 ∧ heldClock.state = .holdover ∧ (State.reset.setClock lockedClock).expirySuperseded = false ∧
      (after (.referenceEdge false 1768) (State.reset.setClock lockedClock)).expirySuperseded = true := by decide +kernel

/-- The clock states of the witnesses are safe. -/
theorem test_clocks_safe : ClockSafe station48 ∧ ClockSafe station96 ∧ ClockSafe (station48.setClock lockedClock) ∧
    ClockSafe (station48.setClock lockingClock) ∧ ClockSafe (station48.setClock heldClock) := by
  unfold ClockSafe; decide +kernel

/-- Hypotheses of ReferenceEdgeIsJudgedThenTaken: safe clocks in each state, and edges at both ends of the tolerance and of half a
frame. -/
theorem test_witness_ReferenceEdgeIsJudgedThenTaken :
    ClockSafe (station48.setClock lockedClock) ∧ ClockSafe (station48.setClock lockingClock) ∧ ClockSafe (station48.setClock heldClock) ∧
      (512 - 1 ≤ 1511 - 1000 ∧ 1513 - 1000 ≤ 512 + 1) ∧ (1510 - 1000 < 512 - 1 ∧ 512 + 1 < 1514 - 1000) ∧
      (1255 - 1000 < Rate.khz48.half ∧ Rate.khz48.half ≤ 1256 - 1000 ∧ 1000 + Rate.khz48.lossWindow ≤ 1768) ∧ (station48.setClock lockedClock).resetPin = false ∧
      (after (.referenceEdge true 1512) (station48.setClock lockedClock)).clock.state = .locked :=
  ⟨test_clocks_safe.2.2.1, test_clocks_safe.2.2.2.1, test_clocks_safe.2.2.2.2, by decide, by decide, by decide, rfl, by decide +kernel⟩

/-- Hypotheses of HoldoverFramesSpanTheMeasuredPeriod. -/
theorem test_witness_HoldoverFramesSpanTheMeasuredPeriod :
    (station48.setClock lockedClock).resetPin = false ∧ (station48.setClock lockedClock).clock.state = .locked ∧
      (station48.setClock lockedClock).clock.latestEdge = some 1000 ∧ (station48.setClock lockedClock).expirySuperseded = false ∧
      1 ≤ 256 := by decide

/-- Hypotheses of StepKeepsClockSafe. -/
theorem test_witness_StepKeepsClockSafe :
    ClockSafe (station48.setClock heldClock) ∧ ∃ t, step (station48.setClock heldClock) = .next t := ⟨test_clocks_safe.2.2.2.2, _, rfl⟩

/-- Hypotheses of CoefficientsAreTheRoundedPowersOfTen: both ends of the range. -/
theorem test_witness_CoefficientsAreTheRoundedPowersOfTen : (1 ≤ 1 ∧ 1 ≤ 1020) ∧ (1 ≤ 1020 ∧ 1020 ≤ 1020) := by decide

/-- Hypotheses of ProductRoundsHalvesUpAndSaturates: the ends of the wide range, the upper one odd. -/
theorem test_witness_ProductRoundsHalvesUpAndSaturates :
    (-2147483648 : Int) ≤ 2147483647 ∧ (2147483647 : Int) % 2 = 1 ∧ (-2147483647 : Int) % 2 = 1 := by decide

/-- Hypotheses of FadesAndInterpolationsStayBetweenTheirEnds. -/
theorem test_witness_FadesAndInterpolationsStayBetweenTheirEnds :
    256 ≤ 256 ∧ 1020 ≤ 1020 ∧ 0 ≤ 1020 ∧ 0 < 3 ∧ 3 ≤ 3 := by decide

/-- Hypotheses of RampsRunTheirCourse: the target held, the one the latest boundary left behind a later one, a target at current, a new target,
and a cut ramp in travel. -/
theorem test_witness_RampsRunTheirCourse :
    let r := LevelRamp.settled 10 20 0 5
    (20 : Int) = r.base.target ∧ (20 : Int) = (r.retarget 30).base.target ∧ (20 : Int) ≠ (r.retarget 30).target ∧ (20 : Int) = r.target ∧
      r.base = r.course ∧ (10 : Int) ≠ r.target ∧ (7 : Int) ≠ r.target ∧
      (10 : Int) ≠ r.base.target ∧ (10 : Int) = r.current ∧ (7 : Int) ≠ r.base.target ∧ (7 : Int) ≠ r.current ∧ 63 ≤ 63 ∧ 64 ≤ 64 ∧
      1 ≤ 1 ∧
      (⟨2097152, .cutting⟩ : CutRamp).wf := by
  unfold CutRamp.wf; decide

/-- Hypotheses of GainsMoveOnlyAtBoundaries: a boundary, and a command that is none. -/
theorem test_witness_GainsMoveOnlyAtBoundaries :
    station48.resetPin = false ∧ makesBoundary station48 .dividerBoundary ∧ ¬ makesBoundary station48 .lineRest ∧ ¬ isReset .lineRest ∧
      ∀ a d, Instr.lineRest ≠ .engineRestart a d := by
  refine ⟨rfl, rfl, ?_⟩
  simp [makesBoundary, isReset]

/-- Hypotheses of StepKeepsRampsSafe. -/
theorem test_witness_StepKeepsRampsSafe : RampsSafe station96 ∧ ∃ t, step station96 = .next t :=
  ⟨rampsSafe_of_reset _ rfl rfl, _, rfl⟩

/-! ### Witnesses: strips -/

/-- A WRITE STRIP that makes its strip the master of group 5. -/
def masterData : List Byte := [0x85, 0xFF, 0x03, 0x84, 2, 0, 0, 0, 0, 0, 3, 0, 0, 0x03, 0x84]

/-- A station whose strip 4, in READ, is the master of group 5. -/
def masterStation : State :=
  (State.reset.setStrips (State.reset.strips.set 4 { Strip.reset 4 with role := .groupMaster 5, mode := .read })).setGroup
    { GroupLine.reset with mastered := [⟨5, -1020, false, -1020⟩] }

/-- The role of each strip of the master station. -/
theorem masterStation_role (i : Fin 64) : masterStation.strips[i].role = if i = 4 then .groupMaster 5 else .audio := by
  revert i; decide +kernel

/-- The master station is tuned. -/
theorem tuned_masterStation : StripsTuned masterStation := by
  refine ⟨?_, ?_, ?_, ?_⟩
  · intro i _
    by_cases h : i = 4
    · subst h; exact ⟨⟨5, -1020, false, -1020⟩, by decide +kernel, by decide +kernel, by decide +kernel⟩
    · have hi : (4 : Nat) ≠ i.val := fun e => h (Fin.ext e.symm)
      have hs : masterStation.strips[i] = Strip.reset i := by
        simp [masterStation, State.setStrips, State.setGroup, hi, State.reset, State.resetWith]
      have ht : masterStation.group.soloLevel = false := rfl
      unfold State.tuned
      rw [hs]
      simp [ht, Strip.reset, Strip.levelUnder, Strip.cutUnder, Strip.faderCode, Strip.deskCode, Strip.modeCut]
  · intro i j g _ _ hi hj
    rw [masterStation_role] at hi hj
    split at hi <;> split at hj <;> simp_all
  · intro m hm
    obtain rfl : m = ⟨5, -1020, false, -1020⟩ := by simpa [masterStation, State.setGroup] using hm
    exact ⟨4, by decide, by decide +kernel⟩
  · decide

/-- Hypotheses of WriteStripStoresItsFields: the last strip takes the write, with its mode changed, and becomes a master; a master gives
its role up; no such strip, bad data, and a second master refuse it. -/
theorem test_witness_WriteStripStoresItsFields :
    ((63 : BitVec 16).toNat = (63 : Fin 64).val ∧ (63 : Fin 64).val < State.reset.rate.strips) ∧
      readStripData masterData = some ⟨.groupMaster 5, none, 900, false, true, false, [], .latch, 0, 900⟩ ∧
      (∀ j : Fin 64, State.reset.strips[j].role ≠ .groupMaster 5) ∧ State.reset.rate.strips ≤ (64 : BitVec 16).toNat ∧
      readStripData [] = none ∧ masterStation.strips[4].role = .groupMaster 5 ∧
      (after (.writeStrip 3 masterData) masterStation).control.reply = some ⟨.range, []⟩ ∧
      StripsTuned State.reset ∧ State.reset.strips[63].mode ≠ .latch ∧ State.reset.listenOnly = false ∧
      State.reset.group.queue.length ≤ 36 ∧ StripsTuned masterStation ∧
      (after (.writeStrip 4 (0 :: masterData.tail)) masterStation).group.mastered = [] ∧
      StripsTuned station96 ∧ station96.listenOnly = true := by
  refine ⟨by decide, by decide, ?_, by decide, by decide, by decide +kernel, by decide +kernel, tuned_of_reset_strips _ rfl rfl rfl,
    by decide +kernel, by decide, by decide, tuned_masterStation, by decide +kernel, tuned_of_reset_strips _ rfl rfl rfl, by decide⟩
  intro j; simp [State.reset, State.resetWith, Strip.reset]

/-- Hypotheses of WriteSendStoresOneSend: the last strip, send and bus, and one past each. -/
theorem test_witness_WriteSendStoresOneSend :
    ((63 : BitVec 16).toNat = (63 : Fin 64).val ∧ (63 : Fin 64).val < State.reset.rate.strips ∧ (3 : Byte).toNat = (3 : Fin 4).val ∧
      (127 : Byte).toNat = (127 : Fin 128).val) ∧ State.reset.rate.strips ≤ (64 : BitVec 16).toNat ∧ 3 < (4 : Byte).toNat ∧
      127 < (128 : Byte).toNat := by decide

/-- Hypotheses of WriteOutputStoresOneEntry at 96 kHz: entry 31, bus 127, strip 31, and one past each. -/
theorem test_witness_WriteOutputStoresOneEntry :
    station96.resetPin = false ∧ (31 : BitVec 16).toNat = (31 : Fin 64).val ∧ (31 : Fin 64).val < station96.rate.strips ∧
      (127 : Byte).toNat = (127 : Fin 128).val ∧ station96.rate.strips ≤ (32 : BitVec 16).toNat ∧ 2 < (3 : Byte).toNat ∧
      127 < (128 : Byte).toNat ∧ station96.rate.strips ≤ (32 : Byte).toNat := by decide

/-- Hypotheses of FaderWritesStoreOrRefuse: L = 3,583 with H = 4,095 is taken and L = 3,584 is not; thresholds 1 and 1 are taken. -/
theorem test_witness_FaderWritesStoreOrRefuse :
    (3583 ≤ 4095 ∧ 4095 ≤ 4095 ∧ 3583 + 512 ≤ 4095) ∧ 4095 < 3584 + 512 ∧ 4095 < 256 * (16 : Byte).toNat + (0 : Byte).toNat ∧
      (1 ≤ 1 ∧ 1 ≤ 1) ∧ (0 : Nat) = 0 ∧ 1 < 2 ∧ (63 : Fin 64).val < State.reset.rate.strips := by decide

/-- Hypotheses of StripFrameProcessFormsTheContributions, listen-only and driving, idle and sending. -/
theorem test_witness_StripFrameProcessFormsTheContributions :
    let s := State.reset.setEngine ⟨some (Vector.replicate 64 5), [], false⟩
    s.resetPin = false ∧ s.engine.handed = some (Vector.replicate 64 5) ∧ s.listenOnly = false ∧ s.tx.inFlight = none ∧
      station96.listenOnly = true ∧ (s.setTx ⟨.driving, some (frameOf 1), none, [], 0⟩).tx.inFlight ≠ none := by
  decide +kernel

/-- Hypotheses of SoloLineChangeRecutsTheStrips; strip 40 does not exist at 96 kHz. -/
theorem test_witness_SoloLineChangeRecutsTheStrips :
    station96.resetPin = false ∧ StripsTuned station96 ∧ RampsSafe station96 ∧ station96.hasStrip 31 = true ∧
      station96.strips[31].role = .audio ∧ station96.hasStrip 40 = false ∧ station96.soloDrive = false ∧
      (State.reset.setStrips (State.reset.strips.set 3 { Strip.reset 3 with solo := true })).soloDrive = true :=
  ⟨rfl, tuned_of_reset_strips _ rfl rfl rfl, rampsSafe_of_reset _ rfl rfl, by decide, by decide +kernel, by decide, by decide +kernel,
    by decide +kernel⟩

/-- Hypotheses of StepKeepsStripsTunedAndCodesInRange. -/
theorem test_witness_StepKeepsStripsTunedAndCodesInRange :
    StripsTuned station96 ∧ CodesInRange station96 ∧ ∃ t, step station96 = .next t := by
  refine ⟨tuned_of_reset_strips _ rfl rfl rfl, ⟨?_, ?_, ?_, ?_⟩, _, rfl⟩
  · intro i
    simp [station96, State.setPending, State.resetWith, Strip.inRange, Strip.reset, Send.reset]
  · intro i
    simp [station96, State.setPending, State.resetWith, AutoStrip.inRange, AutoStrip.reset, Playback.reset]
  · intro r hr
    simp [station96, State.setPending, State.resetWith, Pass.reset] at hr
  · intro i
    simp [station96, State.setPending, State.resetWith, Surface.reset, Fader.reset]

/-! ### Witnesses: lanes -/

/-- Hypotheses of LaneFrameReadsBack: a frame with one entry in each section, at the ends of the wide range. -/
theorem test_witness_LaneFrameReadsBack :
    let f := frameOf 9
    f.owned.Pairwise (· < ·) ∧ (∀ p ∈ f.owned, p < 64) ∧ (f.a.map Prod.fst).Pairwise (· < ·) ∧ (∀ e ∈ f.a, e.1 < 64) ∧
      f.a.length ≤ Rate.khz96.capacity ∧ (f.b.map Prod.fst).Pairwise (· < ·) ∧ (∀ e ∈ f.b, 64 ≤ e.1 ∧ e.1 < 128) ∧
      f.b.length ≤ Rate.khz96.capacity ∧ (∀ e ∈ f.a ++ f.b, -2147483648 ≤ e.2 ∧ e.2 ≤ 2147483647) ∧ (2 : Fin 16) ≠ f.slot ∧
      ([0, 0] : List Byte) ≠ beBytes 2 (crc16 (laneFrameBody f)).toNat := by decide +kernel

/-- Hypotheses of FrameArrivalIsTakenByItsPeer: the own lane, a malformed frame, a late one, a repeat, an append and a full queue. -/
theorem test_witness_FrameArrivalIsTakenByItsPeer :
    (0 : Fin 16) = State.reset.straps.slot ∧ (1 : Fin 16) ≠ State.reset.straps.slot ∧ readLaneFrame .khz48 1 [] = none ∧
      readLaneFrame .khz48 1 (laneFrameBytes (frameOf 9)) = some (frameOf 9) ∧ tagDiff 9 10 < 0 ∧ 0 ≤ tagDiff 9 9 ∧
      tagDiff 9 9 ≤ 0 ∧ 0 < tagDiff 9 8 ∧ [frameOf 7, frameOf 8] = [frameOf 7] ++ [frameOf 8] ∧ [frameOf 7, frameOf 8].length < 4 ∧
      4 ≤ [frameOf 5, frameOf 6, frameOf 7, frameOf 8].length ∧ State.reset.peers[(1 : Fin 16)].queue = [] := by decide +kernel

/-- Hypotheses of LaneFrameCompletionComparesTheReadBack: a match, a first and a second mismatch. -/
theorem test_witness_LaneFrameCompletionComparesTheReadBack :
    let s := State.reset.setTx ⟨.driving, some (frameOf 1), none, [], 1⟩
    s.resetPin = false ∧ s.tx.inFlight = some (frameOf 1) ∧ ([] : List Byte) ≠ laneFrameBytes (frameOf 1) ∧ 1 ≤ s.tx.mismatches ∧
      State.reset.tx.mismatches = 0 := by decide +kernel

/-- Hypotheses of DueRequestMovesEveryPeer: a boundary with a LIVE peer whose frame is due, and one whose frame is not. -/
theorem test_witness_DueRequestMovesEveryPeer :
    let peers := (Vector.replicate 16 Peer.reset).set 1 livePeer
    let s := (State.reset.setPeers peers).setClock { Clock.reset .khz48 with tag := 10 }
    s.resetPin = false ∧ makesBoundary s .dividerBoundary ∧ (∀ j : Fin 16, s.peers[j].safe) ∧ (1 : Fin 16) ≠ s.straps.slot ∧
      s.peers[(1 : Fin 16)].queue = [frameOf 10] ∧ (frameOf 10).tag = s.clock.tag ∧ s.peers[(2 : Fin 16)].queue = [] :=
  ⟨rfl, rfl, peers_safe _ rfl, by decide, by decide +kernel, by decide, by decide +kernel⟩

/-- Hypotheses of StepKeepsLanesSafe: a LIVE peer, and a waiting frame behind one in flight. -/
theorem test_witness_StepKeepsLanesSafe :
    let s := (station48.setPeers ((Vector.replicate 16 Peer.reset).set 1 livePeer)).setTx
      ⟨.driving, some (frameOf 1), some (frameOf 2), [], 1⟩
    LanesSafe s ∧ ∃ t, step s = .next t :=
  ⟨⟨peers_safe _ rfl, by decide, by decide, by decide⟩, _, rfl⟩

/-! ### Witnesses: bus summer -/

/-- A pending configuration at 96 kHz that owns 32 channels. -/
def fullConfig : SumConfig := buildConfig .khz96 (List.range 32) (Vector.replicate 4 ⟨0, 0, false⟩)

/-- The full configuration is safe. -/
theorem fullConfig_safe : fullConfig.safe .khz96 := by
  unfold SumConfig.safe; decide +kernel

/-- A summer at reset is safe. -/
theorem summerSafe_of_reset (s : State) (h : s.summer = Summer.reset) : SummerSafe s := by
  have hc : ∀ rate, SumConfig.reset.safe rate := by
    intro rate; cases rate <;> (unfold SumConfig.safe; decide +kernel)
  refine ⟨?_, ?_, ?_, ?_, ?_, ?_, ?_⟩ <;> rw [h]
  · exact hc _
  · exact hc _
  · decide
  · decide +kernel
  · decide +kernel
  · decide
  · decide

/-- Hypotheses of PremixAndWindowWritesReachThePendingCopy: channel 63 not owned, and a 33rd channel at 96 kHz. -/
theorem test_witness_PremixAndWindowWritesReachThePendingCopy :
    station48.resetPin = false ∧ station48.summer.pending.safe station48.rate ∧ (63 : BitVec 16).toNat = (63 : Fin 64).val ∧
      ((63 : Byte).toNat ≤ 63 ∨ (63 : Byte) = 0xFF#8) ∧ ¬ ((64 : Byte).toNat ≤ 63 ∨ (64 : Byte) = 0xFF#8) ∧
      fullConfig.safe .khz96 ∧ 40 ∉ fullConfig.owned ∧ Rate.khz96.capacity ≤ fullConfig.owned.length ∧
      ((3 : BitVec 16).toNat = (3 : Fin 4).val ∧ (127 : Byte).toNat ≤ 127 ∧ (1 : Byte).toNat ≤ 1) ∧ 3 < (4 : BitVec 16).toNat ∧
      127 < (128 : Byte).toNat ∧ 1 < (2 : Byte).toNat :=
  ⟨rfl, (summerSafe_of_reset station48 rfl).2.1, by decide, by decide, by decide, fullConfig_safe, by decide +kernel, by decide +kernel,
    by decide, by decide, by decide, by decide⟩

/-- Hypotheses of AccumulationSetHoldsOwnedThenLowestSelected: the set of 5.8, with bus 105 left out. -/
theorem test_witness_AccumulationSetHoldsOwnedThenLowestSelected :
    let w : Window := ⟨96, 15, true⟩
    ([3, 10, 11] : List Nat).Pairwise (· < ·) ∧ (∀ p ∈ ([3, 10, 11] : List Nat), p < 64) ∧
      ([3, 10, 11] : List Nat).length ≤ Rate.khz96.capacity ∧ 105 < 128 ∧ w.selects 105 = true ∧ 105 ∉ ([3, 10, 11] : List Nat) ∧
      (6 < 7 ∧ w.mask.getLsbD 6 = false) := by decide +kernel

/-- Hypotheses of BoundaryFormsTheTotals and BoundaryCompletesTheStems: a boundary, and the last bus. -/
theorem test_witness_BoundaryFormsTheTotals_and_CompletesTheStems :
    station96.resetPin = false ∧ makesBoundary station96 .dividerBoundary ∧ 127 < 128 := ⟨rfl, rfl, by decide⟩

/-- Hypotheses of BoundaryJudgesOwnersAndMeters. -/
theorem test_witness_BoundaryJudgesOwnersAndMeters :
    station96.resetPin = false ∧ makesBoundary station96 .dividerBoundary ∧ SummerSafe station96 := ⟨rfl, rfl, summerSafe_of_reset _ rfl⟩

/-- Hypotheses of ReadsClearWhatTheyReport: runs that end at the last bus and slot, and runs of none and past the end. -/
theorem test_witness_ReadsClearWhatTheyReport :
    State.reset.resetPin = false ∧ (1 ≤ (1 : Byte).toNat ∧ (127 : BitVec 16).toNat + (1 : Byte).toNat ≤ 128) ∧ (0 : Byte).toNat = 0 ∧
      128 < (127 : BitVec 16).toNat + (2 : Byte).toNat ∧ (15 : BitVec 16).toNat + (1 : Byte).toNat ≤ 16 ∧
      16 < (15 : BitVec 16).toNat + (2 : Byte).toNat := by decide

/-- Hypotheses of StepKeepsSummerSafe. -/
theorem test_witness_StepKeepsSummerSafe : SummerSafe station96 ∧ ∃ t, step station96 = .next t := ⟨summerSafe_of_reset _ rfl, _, rfl⟩

/-! ### Witnesses: group line -/

/-- Hypotheses of GroupMessageReadsBack: the last pass number, the last group and the ends of the value field. -/
theorem test_witness_GroupMessageReadsBack :
    255 < 256 ∧ 31 < 32 ∧ (-2048 : Int) ≤ -2048 ∧ (2047 : Int) ≤ 2047 ∧
      readMessage (messageBits ⟨.groupLevel, 15, 31, -2048⟩) = some ⟨.groupLevel, 15, 31, -2048⟩ := by decide

/-- A station in MESSAGE that is not sending. -/
def hearing : State := State.reset.setGroup { GroupLine.reset with line := .message }

/-- Hypotheses of GroupMessageEndReachesTheTable: a bad message, and a level and a cut of the last group. -/
theorem test_witness_GroupMessageEndReachesTheTable :
    hearing.resetPin = false ∧ hearing.group.line = .message ∧ hearing.group.sending = none ∧ StripsTuned hearing ∧
      readMessage 0 = none ∧ readMessage (messageBits ⟨.groupLevel, 9, 31, -20⟩) = some ⟨.groupLevel, 9, 31, -20⟩ ∧
      readMessage (messageBits ⟨.groupCut, 9, 31, 1⟩) = some ⟨.groupCut, 9, 31, 1⟩ ∧ hearing.hasStrip 63 = true ∧
      hearing.strips[63].role = .audio ∧ (31 : Fin 32) ∉ hearing.strips[63].groups :=
  ⟨rfl, rfl, by decide, tuned_of_reset_strips _ rfl rfl rfl, by decide, by decide, by decide, by decide, by decide +kernel,
    by decide +kernel⟩

/-- Hypotheses of OwnMessageEndSettlesItsEntry: the entry of 6.11 with its value changed and unchanged, its group mastered and not. -/
theorem test_witness_OwnMessageEndSettlesItsEntry :
    let e : QueueEntry := ⟨.groupLevel, 2, -30, some (-26)⟩
    let g : GroupLine := { GroupLine.reset with line := .message, mastered := [⟨2, -30, false, -30⟩], queue := [] ++ e :: [] }
    (State.reset.setGroup g).resetPin = false ∧ g.line = .message ∧ g.queue = [] ++ e :: [] ∧
      (∀ x ∈ ([] ++ [] : List QueueEntry), x.inFlight = none) ∧ e.inFlight = some (-26) ∧ (g.queue.map QueueEntry.key).Nodup ∧
      e.kind = .groupLevel ∧ e.number = (2 : Fin 32).val ∧ (-2048 : Int) ≤ -26 ∧ (-26 : Int) ≤ 2047 ∧ e.value ≠ -26 ∧
      (∃ m ∈ g.mastered, m.group = 2) ∧ ∀ m ∈ GroupLine.reset.mastered, m.group ≠ 2 := by decide +kernel

/-- The own PASS CLOSE of another pass is counted as sent and as taken, and leaves the queue (R97); also hypotheses of
OwnMessageEndSettlesItsEntry for the pass kinds. -/
theorem test_own_pass_message_settles :
    let e : QueueEntry := ⟨.passClose, 9, 0, some 0⟩
    let other : QueueEntry := ⟨.groupLevel, 2, -30, none⟩
    let s := State.reset.setGroup { GroupLine.reset with line := .message, queue := [other] ++ e :: [] }
    e.number ≤ 255 ∧ (s.group.queue.map QueueEntry.key).Nodup ∧
      (let t := after (.groupMessageEnd (messageBits ⟨.passClose, 0, 9, 0⟩)) s
       (t.group.queue, t.group.sent, t.group.taken, t.group.line) = ([other], 1, 1, .seeking)) := by decide +kernel

/-- Hypotheses of LineEventsStartAndWithdrawMessages: an empty queue; a cut behind a level and before a level; the same in flight. -/
theorem test_witness_LineEventsStartAndWithdrawMessages :
    let level (n : Nat) : QueueEntry := ⟨.groupLevel, n, 0, none⟩
    let cut : QueueEntry := ⟨.groupCut, 4, 1, none⟩
    State.reset.resetPin = false ∧ State.reset.group.queue = [] ∧ State.reset.group.line = .seeking ∧
      (∀ x ∈ [level 1] ++ [level 2], x.inFlight = none) ∧ (([level 1] ++ cut :: [level 2]).map QueueEntry.key).Nodup ∧
      State.reset.listenOnly = false ∧ cut.inFlight = none ∧ (∀ x ∈ [level 1], cut.kind.cls < x.kind.cls) ∧
      (∀ x ∈ [level 2], cut.kind.cls ≤ x.kind.cls) ∧ (⟨.groupCut, 4, 1, some 1⟩ : QueueEntry).inFlight = some 1 ∧
      ((messageBits ⟨.groupCut, 0, 3, 1⟩).toNat < (messageBits ⟨.groupCut, 0, 4, 1⟩).toNat ∧
        (messageBits ⟨.groupCut, 0, 4, 1⟩).toNat < (messageBits ⟨.groupCut, 0, 5, 1⟩).toNat) ∧
      ({ GroupLine.reset with line := .idle } : GroupLine).line = .idle := by decide +kernel

/-- Hypotheses of RefreshEnqueuesLevelAndCut: room at 37, none at 38 and at 40, a coalescing key, and a mastered and a free group. -/
theorem test_witness_RefreshEnqueuesLevelAndCut :
    let e : QueueEntry := ⟨.groupLevel, 2, -26, none⟩
    let g : GroupLine := { GroupLine.reset with refreshDue := some 2, mastered := [⟨2, -30, false, -26⟩] }
    e.key = (.groupLevel, 2) ∧ (([] ++ e :: []).map QueueEntry.key).Nodup ∧ (∀ x ∈ fullGroup.queue, x.key ≠ (.passOpen, 50)) ∧
      (fullGroup.queue.take 37).length < 38 ∧ 38 ≤ (fullGroup.queue.take 38).length ∧ (fullGroup.queue.take 38).length < 40 ∧
      40 ≤ fullGroup.queue.length ∧ (State.reset.setGroup g).resetPin = false ∧ g.refreshDue = some 2 ∧
      (∀ m ∈ GroupLine.reset.mastered, m.group ≠ 2) ∧ g.mastered = [] ++ ⟨2, -30, false, -26⟩ :: [] ∧
      (State.reset.setGroup g).listenOnly = false ∧ g.line ≠ .idle ∧ station96.listenOnly = true ∧
      ({ g with line := .idle }).line = .idle ∧ ({ g with line := .idle }).queue = [] := by decide +kernel

/-- Hypotheses of StepKeepsGroupSafe: an entry in flight in MESSAGE. -/
theorem test_witness_StepKeepsGroupSafe :
    let s := station48.setGroup { GroupLine.reset with line := .message, queue := [⟨.groupLevel, 2, -30, some (-26)⟩] }
    GroupSafe s ∧ ∃ t, step s = .next t := by
  refine ⟨?_, _, rfl⟩
  unfold GroupSafe; decide +kernel

/-! ### Witnesses: surface port -/

/-- A scan of one reading of fader 3. -/
def scan3 : List Byte := withCheck [1, 3, 0x08, 0x00, 0x03, 0xE8]

/-- A surface with fader 3 present, calibrated and touched. -/
def touchedSurface : Surface :=
  { Surface.reset with
    link := .active, silence := 4800
    faders := Surface.reset.faders.set 3 { Fader.reset with present := true, baseline := some 1010, touched := true, touchedScans := 4 } }

/-- Hypotheses of ScanArrivalIsTakenFaderByFader: a bad scan; a scan that carries fader 3, whose code is accepted, and not fader 5. -/
theorem test_witness_ScanArrivalIsTakenFaderByFader :
    State.reset.resetPin = false ∧ readScan [] = none ∧ readScan scan3 = some [⟨3, 2048, 1000⟩] ∧ (3 : Fin 64).val < State.reset.rate.strips ∧
      Fader.reset.accepts (Fader.reset.codeOf 2048) = true ∧
      ({ Fader.reset with acceptNext := false, lastCode := 510 } : Fader).accepts 511 = false ∧
      (∀ r ∈ ([⟨3, 2048, 1000⟩] : List Reading), r.fader ≠ 5) ∧ State.reset.surface.faders[(5 : Fin 64)].present = false ∧
      touchedSurface.faders[(3 : Fin 64)].present = true ∧ station96.rate.strips ≤ (32 : Fin 64).val ∧ State.reset.hasStrip 63 = true ∧
      station96.hasStrip 32 = false := by decide +kernel

/-- Hypotheses of FaderCodeIsCalibratedAndJudged, at both ends of a calibration. -/
theorem test_witness_FaderCodeIsCalibratedAndJudged :
    Fader.reset.low + 512 ≤ Fader.reset.high ∧ 0 ≤ Fader.reset.low ∧ Fader.reset.high ≤ 4095 ∧ Fader.reset.low ≤ 1 ∧
      1 ≤ Fader.reset.high := by decide

/-- Hypotheses of TouchCountsDeclareTouchAndRelease: records at the limit of each count, and deltas at the thresholds. -/
theorem test_witness_TouchCountsDeclareTouchAndRelease :
    let f : Fader := { Fader.reset with present := true, baseline := some 1010 }
    Fader.reset.safe ∧ Fader.reset.baseline = none ∧ ({ f with debounce := 2, untouchedScans := 15 } : Fader).safe ∧
      ({ f with touched := true, debounce := 2, touchedScans := 59999 } : Fader).safe ∧
      f.onThreshold ≤ max 1010 970 - 970 ∧ max 1010 971 - 971 < f.onThreshold ∧ max 1010 986 - 986 < f.offThreshold ∧
      f.offThreshold ≤ max 1010 985 - 985 ∧ 59998 < 59999 := by
  refine ⟨?_, rfl, ?_, ?_, by decide⟩ <;> (unfold Fader.safe; decide)

/-- Hypotheses of SilenceWindowExpiryDropsTheFaders: an ACTIVE link with a touched fader, and a SILENT one. -/
theorem test_witness_SilenceWindowExpiryDropsTheFaders :
    (State.reset.setSurface touchedSurface).resetPin = false ∧
      (State.reset.setSurface touchedSurface).rate.silenceWindow ≤ touchedSurface.silence ∧ touchedSurface.link = .active ∧
      ({ touchedSurface with link := .silent } : Surface).link = .silent ∧ touchedSurface.faders[(3 : Fin 64)].present = true ∧
      touchedSurface.faders[(3 : Fin 64)].touched = true ∧ touchedSurface.faders[(5 : Fin 64)].present = false := by decide +kernel

/-- Hypotheses of StepKeepsSurfaceSafe. -/
theorem test_witness_StepKeepsSurfaceSafe :
    SurfaceSafe (station48.setSurface touchedSurface) ∧ ∃ t, step (station48.setSurface touchedSurface) = .next t := by
  refine ⟨⟨?_, by decide, by decide, by decide⟩, _, rfl⟩
  unfold Fader.safe; decide +kernel

/-! ### Witnesses: automation -/

/-- Hypotheses of PositionRecordMovesTheTransport: a bad record, a quiet one 48 samples off, a jump of 49, a stop, and a start. -/
theorem test_witness_PositionRecordMovesTheTransport :
    recordingStation.resetPin = false ∧ readPositionRecord [] = none ∧
      readPositionRecord (positionBytes 2648 .playing) = some (2648, .playing) ∧
      readPositionRecord (positionBytes 2600 .stopped) = some (2600, .stopped) ∧ recordingStation.playback.transport = .playing ∧
      (2648 ≤ 2600 + recordingStation.rate.quietWindow ∧ 2600 ≤ 2648 + recordingStation.rate.quietWindow) ∧
      2600 + recordingStation.rate.quietWindow < 2649 ∧ PassSafe recordingStation ∧
      recordingStation.playback.strips[(20 : Fin 64)].phase = .latched ∧ State.reset.playback.transport ≠ .playing ∧
      State.reset.pass.state ≠ .recording ∧ (State.reset.setPass openPass).pass.state = .recording :=
  ⟨rfl, by decide, by decide +kernel, by decide +kernel, rfl, by decide +kernel, by decide +kernel, passSafe_recording, by decide +kernel,
    by decide +kernel, by decide +kernel, rfl⟩

/-- Hypotheses of ReadingFollowsTheLists: the ride's list, before its first move, at it, before the last and at the last. -/
theorem test_witness_ReadingFollowsTheLists :
    (rideList.map LevelMove.position).Pairwise (· < ·) ∧ 999 < 1000 ∧ (1000 ≤ 4199 ∧ 4199 < 4200) ∧ 4200 ≤ 4200 ∧
      rideList = [] ++ ⟨1000, 900, true⟩ :: ⟨4200, 800, false⟩ :: [] ∧ rideList = [⟨1000, 900, true⟩] ++ [⟨4200, 800, false⟩] ∧
      (([⟨1000, true⟩, ⟨4200, false⟩] : List CutMove).map CutMove.position).Pairwise (· < ·) := by decide

/-- Hypotheses of AutomationStepReadsGlidesAndEnqueues: a due step while PLAYING, a strip in READ that follows, one in GLIDE with a level and
one without, a strip in OFF, and at 96 kHz one that does not exist. -/
theorem test_witness_AutomationStepReadsGlidesAndEnqueues :
    let s := (State.reset.setPlayback { ridePlayback with
      stepDue := true
      strips := (ridePlayback.strips.set 21 { AutoStrip.reset with phase := .glide, glideLength := 4, readLevel := some 850 }).set 22
        { AutoStrip.reset with phase := .glide } }).setStrips
        ((State.reset.strips.set 20 { Strip.reset 20 with mode := .read }).set 22 { Strip.reset 22 with mode := .touch })
    s.resetPin = false ∧ s.playback.stepDue = true ∧ s.hasStrip 20 = true ∧ s.playback.transport = .playing ∧
      s.strips[20].mode = .read ∧ (20 : Fin 64) ∉ s.pass.mergeList ∧ s.playback.strips[(19 : Fin 64)].phase = .follow ∧
      s.playback.strips[(21 : Fin 64)].phase = .glide ∧ s.playback.strips[(21 : Fin 64)].readLevel = some 850 ∧
      s.playback.strips[(22 : Fin 64)].phase = .glide ∧ s.strips[(22 : Fin 64)].mode.ridden = true ∧
      (s.playback.strips[(22 : Fin 64)].readAt s.playback.position).readLevel = none ∧ s.strips[(19 : Fin 64)].mode = .off ∧
      station96.hasStrip 32 = false := by decide +kernel

/-- A due step while PLAYING that reads a level and a cut of the master strip 4, the line in a given state. -/
def steppingMaster (line : LineState) (listenOnly : Bool) : State :=
  { masterStation with
    tx := { masterStation.tx with drive := if listenOnly then .strapSilent else .driving }
    group := { masterStation.group with line := line }
    playback := { ridePlayback with
      stepDue := true
      strips := ridePlayback.strips.set 4 { AutoStrip.reset with levelMoves := [⟨0, 800, false⟩], cutMoves := [⟨0, true⟩] } } }

/-- What the step of the master station enqueues, also hypotheses of AutomationStepReadsGlidesAndEnqueues: in SEEKING, from IDLE, and on a
listen-only station. -/
theorem test_step_enqueues_cut_then_level :
    let s (line : LineState) (listenOnly : Bool) := steppingMaster line listenOnly
    (∀ line listenOnly, StripsTuned (s line listenOnly)) ∧ (s .seeking false).playback.stepDue = true ∧
      (s .idle false).group.queue = [] ∧ (s .idle false).listenOnly = false ∧ (s .seeking true).listenOnly = true ∧
      (s .seeking false).stepEnqueues (after .automationStep (s .seeking false)) = [(.groupCut, 5, 1), (.groupLevel, 5, -100)] ∧
      (after .automationStep (s .idle false)).group.queue = [⟨.groupCut, 5, 1, some 1⟩, ⟨.groupLevel, 5, -100, none⟩] ∧
      (after .automationStep (s .seeking true)).group.table[(5 : Fin 32)] = ⟨-100, true, some 0, true⟩ :=
  ⟨fun _ _ => tuned_masterStation, by decide +kernel, by decide +kernel, by decide +kernel, by decide +kernel, by decide +kernel,
    by decide +kernel, by decide +kernel⟩

/-- A WRITE STRIP that cuts the master strip 4 by hand, in READ as before. -/
def masterCutWrite : Instr := .writeStrip 4 [0x85, 0xFF, 0x03, 0x84, 1, 0, 0, 0, 0, 0, 1, 0, 0, 0, 0]

/-- A master's written cut is enqueued at once in SEEKING, starts its message in IDLE, and is taken on a listen-only station (R33, R102, R106);
also hypotheses of WriteStripStoresItsFields for a master that stays one. -/
theorem test_master_cut_write_enqueues :
    (∀ line listenOnly, StripsTuned (steppingMaster line listenOnly) ∧ (steppingMaster line listenOnly).strips[4].role = .groupMaster 5) ∧
      (after masterCutWrite (steppingMaster .seeking false)).group.queue = [⟨.groupCut, 5, 1, none⟩] ∧
      (after masterCutWrite (steppingMaster .idle false)).group.queue = [⟨.groupCut, 5, 1, some 1⟩] ∧
      (after masterCutWrite (steppingMaster .seeking true)).group.table[(5 : Fin 32)] = ⟨0, true, some 0, true⟩ :=
  ⟨fun _ _ => ⟨tuned_masterStation, (by decide +kernel : masterStation.strips[4].role = .groupMaster 5)⟩, by decide +kernel, by decide +kernel, by decide +kernel⟩

/-- The record and sources of strip 20 of the ride, LATCHED in LATCH, after a stop and after a pass close: it glides from the desk to the
reading 850; also hypotheses of State.liveEnded in PositionRecordMovesTheTransport and PassesOpenAndCloseByTheirMessages. -/
theorem test_latched_strip_returns_by_a_glide :
    let s := recordingStation.setStrips (State.reset.strips.set 20 { Strip.reset 20 with mode := .latch, glideSteps := 4, staticCode := 870 })
    s.hasStrip 20 = true ∧ s.strips[20].mode.ridden = true ∧ s.playback.strips[(20 : Fin 64)].phase = .latched ∧
      [stopPlay s, takePassClose 7 s].map (fun t => (t.playback.strips[(20 : Fin 64)].phase, t.playback.strips[(20 : Fin 64)].readLevel,
        t.strips[20].levelSource, t.strips[20].storeLevel)) =
        List.replicate 2 (.glide, some 850, .store, 870) := by decide +kernel

/-- Hypotheses of TouchesCutsAndModesMoveAStrip: a strip in TOUCH with glide steps, one in LATCH recording, one LATCHED, one in OFF. -/
theorem test_witness_TouchesCutsAndModesMoveAStrip :
    let s := recordingStation.setStrips
      ((State.reset.strips.set 20 { Strip.reset 20 with mode := .touch, glideSteps := 4 }).set 21 { Strip.reset 21 with mode := .latch })
    s.strips[20].mode = .touch ∧ s.strips[21].mode = .latch ∧ s.strips[22].mode = .off ∧ s.pass.state = .recording ∧
      s.playback.transport = .playing ∧ s.playback.strips[(20 : Fin 64)].phase = .latched ∧
      s.playback.strips[(21 : Fin 64)].phase ≠ .latched ∧ 0 < s.strips[20].glideSteps ∧ s.strips[21].glideSteps = 0 ∧
      (readLevelAt s.playback.strips[(20 : Fin 64)].levelMoves s.playback.position).map Prod.fst = some 850 ∧
      (readLevelAt s.playback.strips[(21 : Fin 64)].levelMoves s.playback.position).map Prod.fst = none := by decide +kernel

/-- The store of the recording station is safe, and so is an empty one. -/
theorem test_stores_safe : StoreSafe recordingStation ∧ StoreSafe station96 := by
  unfold StoreSafe; decide +kernel

/-- Hypotheses of StoreCommandsEditAndReadTheLists: the ride's list with a move at 1,000 and none at 1,001, both kinds, and MERGING. -/
theorem test_witness_StoreCommandsEditAndReadTheLists :
    recordingStation.resetPin = false ∧ StoreSafe recordingStation ∧ ([0, 0, 0, 0, 3, 0xE8] : List Byte).length = 6 ∧
      ofBytes [0, 0, 0, 0, 3, 0xE8] = 1000 ∧ recordingStation.pass.state ≠ .merging ∧
      ((20 : BitVec 16).toNat = (20 : Fin 64).val ∧ (20 : Fin 64).val < recordingStation.rate.strips) ∧
      (∃ m ∈ recordingStation.playback.strips[(20 : Fin 64)].levelMoves, m.position = 1000) ∧
      (∀ m ∈ recordingStation.playback.strips[(20 : Fin 64)].levelMoves, m.position ≠ 1001) ∧ recordingStation.storeCount < 8192 ∧
      recordingStation.rate.strips ≤ (64 : BitVec 16).toNat ∧ 1 < (2 : Byte).toNat ∧ 1000 ≤ 1000 ∧ 999 < 1000 ∧
      (State.reset.setPass { Pass.reset with state := .merging, number := some 7, mergeList := [20] }).pass.state = .merging :=
  ⟨rfl, test_stores_safe.1, by decide, by decide, by decide +kernel, by decide +kernel, by decide +kernel, by decide +kernel,
    by decide +kernel, by decide +kernel, by decide, by decide, by decide, rfl⟩

/-! ### Witnesses: passes -/

/-- Hypotheses of PassesOpenAndCloseByTheirMessages: the commands by state, number and queue; the messages heard while IDLE and PLAYING,
RECORDING the pass and another, and the own one. -/
theorem test_witness_PassesOpenAndCloseByTheirMessages :
    255 < (256 : BitVec 16).toNat ∧ (255 : BitVec 16).toNat ≤ 255 ∧ State.reset.pass.state = .idle ∧ openPass.state = .recording ∧
      openPass.number ≠ some 8 ∧ 40 ≤ fullGroup.queue.length ∧ (∀ e ∈ fullGroup.queue, e.key ≠ (.passOpen, 255)) ∧
      State.reset.group.queue.length < 40 ∧ State.reset.listenOnly = false ∧ station96.listenOnly = true ∧
      (hearing.resetPin = false ∧ hearing.group.line = .message ∧ PassSafe hearing ∧ hearing.group.sending = none) ∧
      readMessage (messageBits ⟨.passOpen, 0, 7, 0⟩) = some ⟨.passOpen, 0, 7, 0⟩ ∧
      readMessage (messageBits ⟨.passClose, 0, 7, 0⟩) = some ⟨.passClose, 0, 7, 0⟩ ∧
      (PassSafe (recordingStation.setGroup hearing.group) ∧ (recordingStation.setGroup hearing.group).pass.number = some 7) ∧
      messageBits (State.reset.ownMessage ⟨.passOpen, 7, 0, some 0⟩) = messageBits ⟨.passOpen, 0, 7, 0⟩ ∧
      (({ GroupLine.reset with line := .idle } : GroupLine).line = .idle ∧
        ({ GroupLine.reset with line := .idle } : GroupLine).queue = []) :=
  ⟨by decide, by decide, rfl, rfl, by decide, by decide +kernel, by decide +kernel, by decide, by decide, by decide,
    ⟨rfl, rfl, passSafe_of_reset _ rfl, by decide⟩, by decide, by decide, ⟨passSafe_recording, rfl⟩, by decide, by decide⟩

/-- Hypotheses of PassDropEmptiesTheJournal: data where none is carried, and each pass state. -/
theorem test_witness_PassDropEmptiesTheJournal :
    State.reset.resetPin = false ∧ ([0] : List Byte) ≠ [] ∧ (1 : BitVec 16) ≠ 0 ∧ ({ openPass with state := .review } : Pass).state = .review ∧
      State.reset.pass.state = .idle ∧ ({ openPass with state := .merging } : Pass).state = .merging := by decide

/-- Hypotheses of PassKeepMergesRangeByRange: a journal with a punch and one without, a boundary while MERGING, and the ride's range. -/
theorem test_witness_PassKeepMergesRangeByRange :
    let review := recordingStation.setPass { Pass.reset with state := .review, number := some 7, journal := rideJournal }
    let merging := recordingStation.setPass { Pass.reset with
      state := .merging, number := some 7, journal := rideJournal, mergeList := [20] }
    let range : Range LevelMove := ⟨[2000, 2000, 2720], [⟨2000, 870, false⟩]⟩
    let cuts : Range CutMove := ⟨[2000, 2000, 2720], [⟨2000, true⟩]⟩
    let inside : List Record := [.move 20 2016 (.level 910 false), .punchIn 20 .cut 2020]
    review.resetPin = false ∧ review.pass.state = .review ∧
      review.storeCount + moveRecords review.pass.journal + punchInRecords review.pass.journal ≤ 8192 ∧
      Record.punchIn 20 .level 2000 ∈ review.pass.journal ∧ (∀ i k p, Record.punchIn i k p ∉ ([] : List Record)) ∧
      makesBoundary merging .dividerBoundary ∧ merging.pass.state = .merging ∧ merging.pass.mergeList = 20 :: [] ∧
      (∀ r ∈ inside, ¬ r.bounds 20 .level) ∧ (∀ r ∈ inside, ¬ r.bounds 21 .cut) ∧
      (∀ p, Record.punchIn 20 .cut 2020 ≠ .punchIn 20 .level p) ∧ (∀ p, Record.punchOut 20 .cut 5 ≠ .punchIn 20 .cut p) ∧
      (rideList.map LevelMove.position).Pairwise (· < ·) ∧ range.wf LevelMove.position ∧ cuts.wf CutMove.position ∧
      (range.lo ≤ 2000 ∧ 2720 ≤ range.hi ∧ 1000 < range.lo ∧ range.hi < 4200) := by
  refine ⟨rfl, rfl, by decide +kernel, by decide, by simp, rfl, rfl, rfl, ?_, ?_, by simp, by simp, by decide, ?_, ?_, by decide⟩
  · simp [Record.bounds]
  · simp [Record.bounds]
  · simp [Range.wf]
  · simp [Range.wf]

/-- Hypotheses of StepKeepsStoreAndPassSafe. -/
theorem test_witness_StepKeepsStoreAndPassSafe :
    let s := recordingStation.setPending [.dividerBoundary]
    StoreSafe s ∧ PassSafe s ∧ ∃ t, step s = .next t := ⟨test_stores_safe.1, passSafe_recording, _, rfl⟩

/-! ### Witnesses: ports, control and restart -/

/-- Hypotheses of PortsTakeAndGiveTheirFrames at 96 kHz: the last channel of the last port, a channel on no port, the last step, a refresh
count at the place of no group, and totals and DIRECT values handed. -/
theorem test_witness_PortsTakeAndGiveTheirFrames :
    station96.resetPin = false ∧ makesBoundary station96 .dividerBoundary ∧ (3 < station96.rate.channels ∧
      (31 : Fin 64).val = (7 : Fin 8).val * station96.rate.channels + 3) ∧ 8 * station96.rate.channels ≤ (32 : Fin 64).val ∧
      62 + 1 < station96.rate.stepFrames ∧ 63 + 1 = station96.rate.stepFrames ∧
      (after .dividerBoundary station96).group.refreshCount = 1 ∧ (∀ g : Fin 32, 1 ≠ station96.rate.refreshSpacing * g.val) ∧
      ({ Ports.reset with totalsHanded := true, direct := some (Vector.replicate 64 1) } : Ports).direct = some (Vector.replicate 64 1) ∧
      (31 : Fin 64).val / station96.rate.channels = (7 : Fin 8).val := by
  refine ⟨rfl, rfl, by decide, by decide, by decide, by decide, by decide +kernel, by decide, by decide, by decide⟩

/-- PASS DROP in IDLE, with ten bytes clocked: 00h for the four request bytes and the turnaround, the status 03h, then 00h (R169, R181). -/
theorem test_sent_bytes_of_passDrop :
    let sent (received : List Byte) : List Byte := (after (decodeRequest received) State.reset).sentBytes received
    sent [0x16, 0, 0, 0, 9, 9, 9, 9, 9, 9] = [0, 0, 0, 0, 0, 0, 3, 0, 0, 0] ∧ sent [0x16, 0, 0] = [0, 0, 0] := by decide +kernel

/-- Hypotheses of ControlPortReadsAndWritesItsRegisters: a tuned part and its last strip, a part held in RESET, a whole request and an
abandoned one. -/
theorem test_witness_ControlPortReadsAndWritesItsRegisters :
    station96.resetPin = false ∧ ((31 : BitVec 16).toNat = (31 : Fin 64).val ∧ (31 : Fin 64).val < station96.rate.strips) ∧
      station96.rate.strips ≤ (32 : BitVec 16).toNat ∧ StripsTuned station96 ∧ (station96.setResetPin true).resetPin = true ∧
      (Instr.readCauses 1 []).request = some (2, 1, []) ∧ namesNoObject 2 = true ∧
      (Instr.writeSend 0 [0, 0, 0, 0]).request = some (7, 0, [0, 0, 0, 0]) ∧ commandLength 7 = 5 ∧
      (decodeRequest [1, 0, 0, 0, 9]).request = some (1, 0, []) ∧ (∃ t, exec (decodeRequest [1, 0, 0, 0, 9]) station96 = .next t) ∧
      decodeRequest [1, 0] = .controlRequestAbandoned :=
  ⟨rfl, by decide, by decide, tuned_of_reset_strips _ rfl rfl rfl, rfl, by decide, by decide, by decide, by decide, by decide, ⟨_, rfl⟩,
    by decide⟩

/-- Hypotheses of ControlRequestsReadBack: a command with data, a shorter request, and the data of a WRITE STRIP. -/
theorem test_witness_ControlRequestsReadBack :
    (Instr.writeOutput 3 [1, 127]).wellFormed = true ∧ (Instr.writeOutput 3 [1, 127]).encodeRequest = some [10, 0, 3, 2, 1, 127] ∧
      5 < 6 ∧ decodeRequest [10, 0, 3, 2, 1, 127] ≠ .controlRequestAbandoned ∧ ([] : List Byte).length ≠ 15 ∧
      (readStripData masterData).isSome = true := by decide

/-- Hypotheses of EngineRestartTakesEveryBlock: a driving station that masters a group, a strapped one, a pass and none. -/
theorem test_witness_EngineRestartTakesEveryBlock :
    recordingStation.resetPin = false ∧ recordingStation.pass.state ≠ .idle ∧ State.reset.pass.state = .idle ∧
      State.reset.tx.drive ≠ .strapSilent ∧ station96.tx.drive = .strapSilent ∧ recordingStation.hasStrip 20 = true ∧
      (readLevelAt recordingStation.playback.strips[(20 : Fin 64)].levelMoves 2600).map Prod.fst = some 850 ∧
      masterStation.group.mastered.length ≤ 19 ∧ masterStation.tx.drive ≠ .strapSilent ∧ StripsTuned masterStation ∧
      StripsTuned station96 :=
  ⟨rfl, by decide, by decide, by decide, by decide, by decide, by decide +kernel, by decide, by decide, tuned_masterStation,
    tuned_of_reset_strips _ rfl rfl rfl⟩

end Sys2Proof.Tests
end

section
/-! Gain arithmetic (chapter 1): the product rule, fade scaling, interpolated codes, the coefficient table and the course of a ramp. -/

namespace Sys2Proof.Machine

/-! ### The product rule (R4) and saturation (R5) -/

/-- Saturation, as the two cases in which it acts. -/
theorem satWide_eq_ite (n : Int) :
    satWide n = if 2147483647 < n then 2147483647 else if n < -2147483648 then -2147483648 else n := by
  unfold satWide
  split
  · omega
  · split <;> omega

theorem satWide_of_mem {n : Int} (lo : -2147483648 ≤ n) (hi : n ≤ 2147483647) : satWide n = n := by
  unfold satWide
  omega

/-- Settles O12. -/
theorem productRoundsHalvesUpAndSaturates : Obligations.ProductRoundsHalvesUpAndSaturates := by
  intro v c
  refine ⟨⟨(v * c + 2097152) / 4194304, by omega, by omega, satWide_eq_ite _⟩, ?_, fun lo hi => ⟨?_, fun odd => ?_⟩⟩
  · simp [product, satWide]
  · have quotient : (v * 4194304 + 2097152) / 4194304 = v := by omega
    rw [product, quotient, satWide_of_mem lo hi]
  · have quotient : (v * 2097152 + 2097152) / 4194304 = (v + 1) / 2 := by omega
    rw [product, quotient, satWide_of_mem] <;> omega

/-! ### Fade scaling (R17) and interpolated codes (R18) -/

/-- A value scaled by a fade position of at most 256 lies between 0 and the value. -/
theorem fadeTerm_between (v : Int) {k : Nat} (hk : k ≤ 256) : min 0 v ≤ fadeTerm v k ∧ fadeTerm v k ≤ max 0 v := by
  unfold fadeTerm
  rcases le_total 0 v with hv | hv
  · have lo : 0 ≤ v * k := by positivity
    have hi : v * k ≤ v * 256 := mul_le_mul_of_nonneg_left (by exact_mod_cast hk) hv
    omega
  · have hi : v * k ≤ 0 := mul_nonpos_of_nonpos_of_nonneg hv (by positivity)
    have lo : v * 256 ≤ v * k := mul_le_mul_of_nonpos_left (by exact_mod_cast hk) hv
    omega

/-- A truncated quotient of a part `num` of `den` lies between 0 and the whole. -/
theorem tdiv_part_between (d : Int) {num den : Nat} (hden : 0 < den) (h : num ≤ den) :
    min 0 d ≤ (d * num).tdiv den ∧ (d * num).tdiv den ≤ max 0 d := by
  have whole : (d * den).tdiv den = d := Int.mul_tdiv_cancel d (by omega)
  have hden' : (0 : Int) < den := by exact_mod_cast hden
  have hnum : (num : Int) ≤ den := by exact_mod_cast h
  rcases le_total 0 d with hd | hd
  · have lo := Int.tdiv_nonneg (a := d * num) (b := den) (by positivity) hden'.le
    have hi := Int.tdiv_le_tdiv hden' (mul_le_mul_of_nonneg_left hnum hd)
    omega
  · have hi := Int.tdiv_le_tdiv (a := d * num) (b := 0) hden' (mul_nonpos_of_nonpos_of_nonneg hd (by positivity))
    have lo := Int.tdiv_le_tdiv hden' (mul_le_mul_of_nonpos_left hnum hd)
    rw [Int.zero_tdiv] at hi
    omega

theorem clampCode_le (v : Int) : clampCode v ≤ 1020 := by
  unfold clampCode
  omega

/-- The clamp leaves a code that lies in range. -/
theorem coe_clampCode {v : Int} (lo : 0 ≤ v) (hi : v ≤ 1020) : (clampCode v : Int) = v := by
  unfold clampCode
  omega

/-- Between two codes in range the clamp of an interpolated code never acts (R18). -/
theorem coe_interpolate {a b num den : Nat} (ha : a ≤ 1020) (hb : b ≤ 1020) (hden : 0 < den) (h : num ≤ den) :
    (interpolate a b num den : Int) = a + (((b : Int) - a) * num).tdiv den := by
  have := tdiv_part_between ((b : Int) - a) hden h
  exact coe_clampCode (by omega) (by omega)

/-- Settles O13. -/
theorem fadesAndInterpolationsStayBetweenTheirEnds : Obligations.FadesAndInterpolationsStayBetweenTheirEnds := by
  refine ⟨fun v k => ⟨?_, ?_, fun hk => ?_, ?_, ?_⟩, fun a b num den ha hb hden h => ?_⟩
  · unfold fadeTerm; omega
  · simp [fadeTerm]
  · have := fadeTerm_between v hk
    omega
  · unfold fadeTerm; omega
  · unfold fadeTerm; omega
  · have code := coe_interpolate ha hb hden h
    have start := coe_interpolate ha hb hden (Nat.zero_le den)
    have finish := coe_interpolate ha hb hden le_rfl
    have between := tdiv_part_between ((b : Int) - a) hden h
    rw [Int.mul_tdiv_cancel _ (by omega)] at finish
    simp only [Nat.cast_zero, mul_zero, Int.zero_tdiv, add_zero] at start
    exact ⟨code, by omega, by omega, by omega, by omega⟩

end Sys2Proof.Machine
end

section
/-! The coefficient table (R2): the rounding of every entry, evaluated once over the table, and what it gives for each code. -/

namespace Sys2Proof.Machine

/-- Whether a coefficient follows the one before it and is the rounded value of its code, over the naturals (R2). -/
def roundsCode (code before c : Nat) : Bool :=
  decide (before < c) && decide ((2 * c - 1) ^ 200 * 10 ^ 900 ≤ 8388608 ^ 200 * 10 ^ code) &&
    decide (8388608 ^ 200 * 10 ^ code < (2 * c + 1) ^ 200 * 10 ^ 900)

/-- Whether the entries of a table from a code on rise and are each the rounded value of their code (R2). -/
def roundsFrom : Nat → Nat → List Nat → Bool
  | _, _, [] => true
  | code, before, c :: rest => roundsCode code before c && roundsFrom (code + 1) c rest

theorem roundsCode_of_roundsFrom {code before : Nat} {l : List Nat} (h : roundsFrom code before l = true) {j : Nat}
    (hj : j < l.length) : roundsCode (code + j) ((before :: l).getD j 0) (l.getD j 0) = true := by
  induction l generalizing code before j with
  | nil => simp at hj
  | cons c rest ih =>
    obtain ⟨first, others⟩ : roundsCode code before c = true ∧ roundsFrom (code + 1) c rest = true := by
      simpa [roundsFrom] using h
    cases j with
    | zero => simpa using first
    | succ j => simpa [Nat.add_right_comm, Nat.add_assoc] using ih others (j := j) (by simpa using hj)

theorem roundsFrom_coefficientTable : roundsFrom 1 0 coefficientTable.tail = true := by decide +kernel

theorem length_coefficientTable : coefficientTable.length = 1021 := by decide +kernel

theorem coefficientTable_eq_cons : coefficientTable = 0 :: coefficientTable.tail := by decide +kernel

/-- Every code from 1 on has the rounded coefficient, and a greater one than the code before it. -/
theorem roundsCode_coefficientTable {k : Nat} (one : 1 ≤ k) (top : k ≤ 1020) :
    roundsCode k (coefficientTable.getD (k - 1) 0) (coefficientTable.getD k 0) = true := by
  obtain ⟨j, rfl⟩ : ∃ j, k = j + 1 := ⟨k - 1, by omega⟩
  have len := length_coefficientTable
  have := roundsCode_of_roundsFrom roundsFrom_coefficientTable (j := j) (by simp [len]; omega)
  rw [← coefficientTable_eq_cons] at this
  rw [coefficientTable_eq_cons, List.getD_cons_succ, Nat.add_sub_cancel, ← coefficientTable_eq_cons, Nat.add_comm]
  exact this

/-- The rounding bounds of a coefficient, read over the integers. -/
theorem rounding_bounds_cast {c lo hi : Nat} (pos : 1 ≤ c) (below : (2 * c - 1) ^ 200 * lo ≤ hi)
    (above : hi < (2 * c + 1) ^ 200 * lo) :
    (2 * (c : Int) - 1) ^ 200 * lo ≤ hi ∧ (hi : Int) < (2 * (c : Int) + 1) ^ 200 * lo := by
  have odd : (2 * (c : Int) - 1) = ((2 * c - 1 : Nat) : Int) := by omega
  rw [odd]
  exact ⟨by exact_mod_cast below, by exact_mod_cast above⟩

/-- Settles O11. -/
theorem coefficientsAreTheRoundedPowersOfTen : Obligations.CoefficientsAreTheRoundedPowersOfTen := by
  refine ⟨by decide +kernel, by decide +kernel, fun k one top => ?_⟩
  have rounds := roundsCode_coefficientTable one top
  simp only [roundsCode, Bool.and_eq_true, decide_eq_true_eq] at rounds
  obtain ⟨⟨rise, below⟩, above⟩ := rounds
  have bounds := rounding_bounds_cast (Nat.one_le_of_lt rise) below above
  simp only [Nat.cast_mul, Nat.cast_pow, Nat.cast_ofNat] at bounds
  exact ⟨Int.ofNat_lt.mpr rise, bounds⟩

/-! ### The range of the coefficients (R2) -/

theorem coefficient_nonneg (code : Nat) : 0 ≤ coefficient code := Int.natCast_nonneg _

theorem coefficientTable_le : ∀ c ∈ coefficientTable, c ≤ 16697825 := by decide +kernel

theorem coefficient_le (code : Nat) : coefficient code ≤ 16697825 := by
  have entry : coefficientTable.getD code 0 ≤ 16697825 := by
    by_cases h : code < coefficientTable.length
    · rw [List.getD_eq_getElem _ _ h]
      exact coefficientTable_le _ (List.getElem_mem h)
    · simp [List.getD, List.getElem?_eq_none (not_lt.mp h)]
  exact Int.ofNat_le.mpr entry

theorem coefficient_zero : coefficient 0 = 0 := by decide +kernel

end Sys2Proof.Machine
end

section
/-! The course of a ramp (R11, R12, R14): what a boundary does to a ramp, iterated, and the targets a ramp takes. -/

namespace Sys2Proof.Machine

/-! ### A level ramp at a boundary, by its count (R12) -/

/-- A boundary leaves a ramp whose base is its own course. -/
theorem LevelRamp.advance_base (r : LevelRamp) : r.advance.base = r.advance.course := by
  unfold LevelRamp.advance
  split <;> rfl

/-- A boundary before the last takes one step. -/
theorem LevelRamp.advance_running {r : LevelRamp} {n : Nat} (h : r.count = n + 2) :
    r.advance.current = r.current + r.step ∧ r.advance.course = ⟨r.target, r.step, n + 1⟩ := by
  simp [LevelRamp.advance, h, LevelRamp.course]

/-- The last boundary of a ramp brings it to rest at its target. -/
theorem LevelRamp.advance_last {r : LevelRamp} (h : r.count = 1) : r.advance = .atRest r.target := by
  simp [LevelRamp.advance, h]

@[simp] theorem LevelRamp.advance_atRest (g : Int) : (LevelRamp.atRest g).advance = .atRest g := rfl

/-- The boundaries of a running ramp before its last: a step each. -/
theorem LevelRamp.advance_iterate_running {r : LevelRamp} {n : Nat} (h : r.count = n + 1) {k : Nat} (hk : k ≤ n) :
    (LevelRamp.advance^[k] r).current = r.current + k * r.step ∧
      (LevelRamp.advance^[k] r).course = ⟨r.target, r.step, n + 1 - k⟩ := by
  induction k with
  | zero => simp [LevelRamp.course, h]
  | succ k ih =>
    obtain ⟨current, course⟩ := ih (by omega)
    obtain ⟨target, step, count⟩ := (Course.mk.injEq ..).mp course
    obtain ⟨m, hm⟩ : ∃ m, n + 1 - k = m + 2 := ⟨n - 1 - k, by omega⟩
    rw [Function.iterate_succ_apply']
    obtain ⟨current', course'⟩ := LevelRamp.advance_running (count.trans hm)
    rw [current', course', current, target, step, show n + 1 - (k + 1) = m + 1 by omega]
    refine ⟨?_, rfl⟩
    push_cast
    ring

/-- From its last boundary on, a ramp rests at its target. -/
theorem LevelRamp.advance_iterate_ended {r : LevelRamp} {n : Nat} (h : r.count = n + 1) {k : Nat} (hk : n + 1 ≤ k) :
    LevelRamp.advance^[k] r = .atRest r.target := by
  induction k, hk using Nat.le_induction with
  | base =>
    obtain ⟨-, course⟩ := LevelRamp.advance_iterate_running h le_rfl
    obtain ⟨target, -, count⟩ := (Course.mk.injEq ..).mp course
    rw [Function.iterate_succ_apply', LevelRamp.advance_last (count.trans (by omega)), target]
  | succ k _ ih => rw [Function.iterate_succ_apply', ih, LevelRamp.advance_atRest]

/-! ### Steps that never pass the target (R12, R15) -/

/-- Up to 64 truncated 64ths of a way lie between its ends. -/
theorem truncated_steps_between (d : Int) {k : Nat} (hk : k ≤ 64) :
    min 0 d ≤ k * d.tdiv 64 ∧ k * d.tdiv 64 ≤ max 0 d := by
  have hk' : (k : Int) ≤ 64 := by exact_mod_cast hk
  rcases le_total 0 d with hd | hd
  · have step : 0 ≤ d.tdiv 64 := Int.tdiv_nonneg hd (by omega)
    have all : 64 * d.tdiv 64 ≤ d := by rw [Int.tdiv_eq_ediv_of_nonneg hd]; omega
    have lo : 0 ≤ k * d.tdiv 64 := by positivity
    have hi := mul_le_mul_of_nonneg_right hk' step
    omega
  · have neg : d.tdiv 64 = -((-d).tdiv 64) := by rw [Int.neg_tdiv, neg_neg]
    have quotient := Int.tdiv_eq_ediv_of_nonneg (a := -d) (by omega) (b := 64)
    have step : d.tdiv 64 ≤ 0 := by omega
    have all : d ≤ 64 * d.tdiv 64 := by omega
    have hi : k * d.tdiv 64 ≤ 0 := mul_nonpos_of_nonneg_of_nonpos (by positivity) step
    have lo := mul_le_mul_of_nonpos_right hk' step
    omega

/-- The course of a fresh ramp, at each boundary after the target was taken (R11, R12, R15). -/
theorem LevelRamp.fresh_course {c g : Int} {p : LevelRamp} (current : p.current = c)
    (course : p.course = ⟨g, (g - c).tdiv 64, 64⟩) (k : Nat) :
    let q := LevelRamp.advance^[k] p
    (k ≤ 63 → q.current = c + k * (g - c).tdiv 64 ∧ q.course = ⟨g, (g - c).tdiv 64, 64 - k⟩) ∧
    (64 ≤ k → q.current = g ∧ q.course = ⟨g, 0, 0⟩) ∧ (1 ≤ k → q.base = q.course) ∧
    min c g ≤ q.current ∧ q.current ≤ max c g := by
  obtain ⟨target, step, count⟩ := (Course.mk.injEq ..).mp course
  have running (hk : k ≤ 63) := LevelRamp.advance_iterate_running (r := p) (n := 63) count hk
  have ended (hk : 64 ≤ k) := LevelRamp.advance_iterate_ended (r := p) (n := 63) count hk
  rw [current, target, step] at running
  rw [target] at ended
  refine ⟨running, fun hk => by rw [ended hk]; exact ⟨rfl, rfl⟩, fun hk => ?_, ?_⟩
  · obtain ⟨j, rfl⟩ : ∃ j, k = j + 1 := ⟨k - 1, by omega⟩
    rw [Function.iterate_succ_apply']
    exact LevelRamp.advance_base _
  · rcases Nat.lt_or_ge k 64 with hk | hk
    · have between := truncated_steps_between (g - c) hk.le
      rw [(running (by omega)).1]
      omega
    · rw [ended hk]
      exact ⟨min_le_right _ _, le_max_right _ _⟩

/-! ### A new target, by the three cases of R11 -/

theorem LevelRamp.courseFrom_held {r : LevelRamp} {held : Course} {g : Int} (h : g = held.target) :
    r.courseFrom held g = held := if_pos h

theorem LevelRamp.courseFrom_current {r : LevelRamp} {held : Course} {g : Int} (new : g ≠ held.target) (h : g = r.current) :
    r.courseFrom held g = ⟨g, 0, 0⟩ := (if_neg new).trans (if_pos h)

theorem LevelRamp.courseFrom_fresh {r : LevelRamp} {held : Course} {g : Int} (new : g ≠ held.target) (h : g ≠ r.current) :
    r.courseFrom held g = ⟨g, (g - r.current).tdiv 64, 64⟩ := (if_neg new).trans (if_neg h)

theorem LevelRamp.setCourse_self (r : LevelRamp) : r.setCourse r.course = r := rfl

/-- A target that is neither held nor current starts a fresh ramp, for a premix master's ramp and for a strip's. -/
theorem LevelRamp.taken_course {r p : LevelRamp} {g : Int} (h : g ≠ r.current)
    (taken : (g ≠ r.target ∧ p = r.take g) ∨ (g ≠ r.base.target ∧ p = r.retarget g)) :
    p.base = r.base ∧ p.current = r.current ∧ p.course = ⟨g, (g - r.current).tdiv 64, 64⟩ := by
  rcases taken with ⟨new, rfl⟩ | ⟨new, rfl⟩
  · exact ⟨rfl, rfl, LevelRamp.courseFrom_fresh (held := r.course) new h⟩
  · exact ⟨rfl, rfl, LevelRamp.courseFrom_fresh new h⟩

/-! ### The travel of a cut ramp (R14) -/

theorem CutRamp.advance_cutting {x : Int} (lo : 0 ≤ x) (even : x % 65536 = 0) :
    CutRamp.advance ⟨x, .cutting⟩ = ⟨max 0 (x - 65536), .cutting⟩ := by
  by_cases h : x = 0
  · subst h; rfl
  · have move : CutRamp.advance ⟨x, .cutting⟩ = ⟨x - 65536, .cutting⟩ := if_neg h
    rw [move, max_eq_right (by omega)]

theorem CutRamp.advance_opening {x : Int} (hi : x ≤ 4194304) (even : x % 65536 = 0) :
    CutRamp.advance ⟨x, .opening⟩ = ⟨min 4194304 (x + 65536), .opening⟩ := by
  by_cases h : x = 4194304
  · subst h; rfl
  · have move : CutRamp.advance ⟨x, .opening⟩ = ⟨x + 65536, .opening⟩ := if_neg h
    rw [move, min_eq_right (by omega)]

/-- Boundaries of a cut ramp that closes: 65,536 down at each, to 0. -/
theorem CutRamp.advance_iterate_cutting {x : Int} (lo : 0 ≤ x) (even : x % 65536 = 0) (k : Nat) :
    CutRamp.advance^[k] ⟨x, .cutting⟩ = ⟨max 0 (x - 65536 * k), .cutting⟩ := by
  induction k with
  | zero => simpa using lo
  | succ k ih =>
    rw [Function.iterate_succ_apply', ih, CutRamp.advance_cutting (by omega) (by omega)]
    congr 1
    push_cast
    omega

/-- Boundaries of a cut ramp that opens: 65,536 up at each, to unity. -/
theorem CutRamp.advance_iterate_opening {x : Int} (hi : x ≤ 4194304) (even : x % 65536 = 0) (k : Nat) :
    CutRamp.advance^[k] ⟨x, .opening⟩ = ⟨min 4194304 (x + 65536 * k), .opening⟩ := by
  induction k with
  | zero => simpa using hi
  | succ k ih =>
    rw [Function.iterate_succ_apply', ih, CutRamp.advance_opening (by omega) (by omega)]
    congr 1
    push_cast
    omega

/-- Settles O14. -/
theorem rampsRunTheirCourse : Obligations.RampsRunTheirCourse := by
  refine ⟨fun r g => ⟨fun held => ?_, fun new rest => ?_, fun h => rfl, fun held => ?_, fun held own => ?_, fun new rest => ?_,
    fun ne p taken => ?_⟩, fun r k wf => ?_⟩
  · rw [LevelRamp.take, LevelRamp.courseFrom_held (held := r.course) held, LevelRamp.setCourse_self]
  · rw [LevelRamp.take, LevelRamp.courseFrom_current (held := r.course) new rest, rest]
    rfl
  · rw [LevelRamp.retarget, LevelRamp.courseFrom_held held, held]
    rfl
  · rw [LevelRamp.retarget, own, LevelRamp.courseFrom_held (held := r.course) held, LevelRamp.setCourse_self]
  · rw [LevelRamp.retarget, LevelRamp.courseFrom_current new rest, rest]
    rfl
  · obtain ⟨base, current, course⟩ := LevelRamp.taken_course ne taken
    exact ⟨base, LevelRamp.fresh_course current course⟩
  · obtain ⟨⟨lo, hi⟩, even⟩ := wf
    exact ⟨CutRamp.advance_iterate_cutting lo even k, CutRamp.advance_iterate_opening hi even k⟩

end Sys2Proof.Machine
end

section
/-! What keeps a ramp well-formed (R11, R12, R14, R15), and what of a strip's and a premix master's gains an operation between two
boundaries keeps. -/

namespace Sys2Proof.Machine

/-! ### Well-formed courses and level ramps -/

theorem Course.wf_atRest {g : Int} (lo : 0 ≤ g) (hi : g ≤ 16697825) : Course.wf g ⟨g, 0, 0⟩ := by
  simp [Course.wf, lo, hi]

theorem Course.wf_fresh {c g : Int} (lo : 0 ≤ g) (hi : g ≤ 16697825) : Course.wf c ⟨g, (g - c).tdiv 64, 64⟩ := by
  have between := truncated_steps_between (g - c) (k := 64) le_rfl
  simp only [Course.wf]
  omega

/-- A new target leaves a well-formed course, whichever of the three cases of R11 it is. -/
theorem LevelRamp.courseFrom_wf {r : LevelRamp} {held : Course} {g : Int} (h : held.wf r.current) (lo : 0 ≤ g)
    (hi : g ≤ 16697825) : (r.courseFrom held g).wf r.current := by
  by_cases same : g = held.target
  · rwa [LevelRamp.courseFrom_held same]
  by_cases rest : g = r.current
  · rw [LevelRamp.courseFrom_current same rest]
    exact rest ▸ Course.wf_atRest lo hi
  · rw [LevelRamp.courseFrom_fresh same rest]
    exact Course.wf_fresh lo hi

theorem LevelRamp.retarget_wf {r : LevelRamp} {g : Int} (h : r.wf) (lo : 0 ≤ g) (hi : g ≤ 16697825) : (r.retarget g).wf :=
  ⟨h.1, LevelRamp.courseFrom_wf h.2.2 lo hi, h.2.2⟩

theorem LevelRamp.take_wf {r : LevelRamp} {g : Int} (h : r.wf) (lo : 0 ≤ g) (hi : g ≤ 16697825) : (r.take g).wf :=
  ⟨h.1, LevelRamp.courseFrom_wf h.2.1 lo hi, h.2.2⟩

theorem LevelRamp.atRest_wf {g : Int} (lo : 0 ≤ g) (hi : g ≤ 16697825) : (LevelRamp.atRest g).wf :=
  ⟨⟨lo, hi⟩, Course.wf_atRest lo hi, Course.wf_atRest lo hi⟩

/-- A step of a well-formed course leaves the gain in range and the rest of the course well-formed. -/
theorem Course.wf_step {c g step : Int} {n : Nat} (range : 0 ≤ c ∧ c ≤ 16697825) (h : Course.wf c ⟨g, step, n + 2⟩) :
    (0 ≤ c + step ∧ c + step ≤ 16697825) ∧ Course.wf (c + step) ⟨g, step, n + 1⟩ := by
  obtain ⟨target, count, -, rising, falling⟩ := h
  have whole : step * ((n + 2 : Nat) : Int) = step * ((n + 1 : Nat) : Int) + step := by push_cast; ring
  have up (hs : 0 ≤ step) : step ≤ step * ((n + 1 : Nat) : Int) := le_mul_of_one_le_right hs (by push_cast; omega)
  have down (hs : step ≤ 0) : step * ((n + 1 : Nat) : Int) ≤ step := mul_le_of_one_le_right hs (by push_cast; omega)
  simp only [Course.wf] at *
  omega

/-- A boundary keeps a level ramp well-formed, and its target (R12, R15). -/
theorem LevelRamp.advance_wf {r : LevelRamp} (h : r.wf) : r.advance.wf ∧ r.advance.target = r.target := by
  obtain ⟨range, own, -⟩ := h
  match count : r.count with
  | 0 =>
    have course : r.course = ⟨r.target, r.step, 0⟩ := by rw [LevelRamp.course, count]
    have advanced : r.advance = .settled r.current r.target r.step 0 := by rw [LevelRamp.advance, count]
    rw [course] at own
    rw [advanced]
    exact ⟨⟨range, own, own⟩, rfl⟩
  | 1 =>
    rw [LevelRamp.advance_last count]
    exact ⟨LevelRamp.atRest_wf own.1.1 own.1.2, rfl⟩
  | n + 2 =>
    have course : r.course = ⟨r.target, r.step, n + 2⟩ := by rw [LevelRamp.course, count]
    have advanced : r.advance = .settled (r.current + r.step) r.target r.step (n + 1) := by rw [LevelRamp.advance, count]
    rw [course] at own
    obtain ⟨range', own'⟩ := Course.wf_step range own
    rw [advanced]
    exact ⟨⟨range', own', own'⟩, rfl⟩

/-- A boundary keeps a cut ramp well-formed, and its direction (R14, R15). -/
theorem CutRamp.advance_wf {r : CutRamp} (h : r.wf) : r.advance.wf ∧ r.advance.direction = r.direction := by
  obtain ⟨x, direction⟩ := r
  obtain ⟨⟨lo, hi⟩, even⟩ : (0 ≤ x ∧ x ≤ 4194304) ∧ x % 65536 = 0 := h
  cases direction with
  | cutting =>
    rw [CutRamp.advance_cutting lo even]
    refine ⟨?_, rfl⟩
    simp only [CutRamp.wf]
    omega
  | opening =>
    rw [CutRamp.advance_opening hi even]
    refine ⟨?_, rfl⟩
    simp only [CutRamp.wf]
    omega

/-! ### The ramps of a level and a cut -/

theorem rampsFor_advance {code : Nat} {cut : Bool} {level : LevelRamp} {gate : CutRamp} (h : rampsFor code cut level gate) :
    rampsFor code cut level.advance gate.advance := by
  obtain ⟨range, wf, target, gateWf, direction⟩ := h
  obtain ⟨wf', target'⟩ := LevelRamp.advance_wf wf
  obtain ⟨gateWf', direction'⟩ := CutRamp.advance_wf gateWf
  exact ⟨range, wf', target'.trans target, gateWf', direction'.trans direction⟩

theorem rampsFor_snap {code : Nat} {cut : Bool} {level : LevelRamp} {gate : CutRamp} (h : rampsFor code cut level gate) :
    rampsFor code cut level.snap gate.snap := by
  obtain ⟨range, wf, target, gateWf, direction⟩ := h
  refine ⟨range, LevelRamp.atRest_wf wf.2.1.1.1 wf.2.1.1.2, target, ?_, direction⟩
  unfold CutRamp.snap CutRamp.wf
  cases gate.direction <;> decide

theorem rampsFor_reset : rampsFor 0 false LevelRamp.reset CutRamp.reset :=
  ⟨by omega, LevelRamp.atRest_wf (by omega) (by omega), coefficient_zero.symm, by simp [CutRamp.reset, CutRamp.wf], rfl⟩

/-- A new level in range gives the level ramp its coefficient as target, by either way of taking it (R11, R27). -/
theorem rampsFor_newLevel {code code' : Nat} {cut : Bool} {level level' : LevelRamp} {gate : CutRamp}
    (h : rampsFor code cut level gate) (range : code' ≤ 1020)
    (taken : level' = level.retarget (coefficient code') ∨ level' = level.take (coefficient code')) :
    rampsFor code' cut level' gate := by
  obtain ⟨-, wf, -, gateSafe⟩ := h
  rcases taken with rfl | rfl
  · exact ⟨range, LevelRamp.retarget_wf wf (coefficient_nonneg _) (coefficient_le _), LevelRamp.retarget_target _ _, gateSafe⟩
  · exact ⟨range, LevelRamp.take_wf wf (coefficient_nonneg _) (coefficient_le _), LevelRamp.take_target _ _, gateSafe⟩

theorem rampsFor_newCut {code : Nat} {cut : Bool} {level : LevelRamp} {gate : CutRamp} (h : rampsFor code cut level gate)
    (cut' : Bool) : rampsFor code cut' level (gate.take cut') := by
  obtain ⟨range, wf, target, gateWf, -⟩ := h
  exact ⟨range, wf, target, gateWf, rfl⟩

/-- A level and a cut taken where they differ from those in force (R11, R14). -/
theorem rampsFor_change {code code' : Nat} {cut : Bool} (cut' : Bool) {level level' : LevelRamp} {gate : CutRamp}
    (h : rampsFor code cut level gate) (range : code' ≤ 1020)
    (taken : level' = level.retarget (coefficient code') ∨ level' = level.take (coefficient code')) :
    rampsFor code' cut' (if code' = code then level else level') (if cut' = cut then gate else gate.take cut') := by
  have levelled : rampsFor code' cut (if code' = code then level else level') gate := by
    split
    · next same => rwa [same]
    · exact rampsFor_newLevel h range taken
  by_cases same : cut' = cut
  · rwa [if_pos same, same]
  · rw [if_neg same]
    exact rampsFor_newCut levelled cut'

/-! ### Strips: gains kept, ramps kept safe -/

/-- What an operation between two boundaries keeps of a strip's ramps: both gains, and their safety. -/
structure Strip.GainsKept (a b : Strip) : Prop where
  level : b.levelRamp.current = a.levelRamp.current
  gate : b.cutRamp.current = a.cutRamp.current
  safe : rampsFor a.effLevel a.effCut a.levelRamp a.cutRamp → rampsFor b.effLevel b.effCut b.levelRamp b.cutRamp

theorem Strip.GainsKept.refl (a : Strip) : a.GainsKept a := ⟨rfl, rfl, id⟩

theorem Strip.GainsKept.trans {a b c : Strip} (h : a.GainsKept b) (k : b.GainsKept c) : a.GainsKept c :=
  ⟨k.level.trans h.level, k.gate.trans h.gate, k.safe ∘ h.safe⟩

theorem Strip.levelUnder_le (table : Vector TableEntry 32) (st : Strip) : st.levelUnder table ≤ 1020 := by
  unfold Strip.levelUnder
  split
  · omega
  · exact clampCode_le _

/-- An evaluation moves no gain, and aims both ramps at the level and cut it finds (R11, R14, R27). -/
theorem Strip.gainsKept_retune (table : Vector TableEntry 32) (soloActive : Bool) (st : Strip) :
    st.GainsKept (st.retune table soloActive) := by
  refine ⟨?_, ?_, fun h => ?_⟩
  · simp only [Strip.retune]
    split <;> rfl
  · simp only [Strip.retune]
    split <;> rfl
  · exact rampsFor_change _ h (st.levelUnder_le table) (.inl rfl)

/-! ### Premix masters -/

/-- What an operation between two boundaries keeps of a premix master's ramps: both gains, and their safety. -/
structure PremixMaster.GainsKept (a b : PremixMaster) : Prop where
  level : b.levelRamp.current = a.levelRamp.current
  gate : b.cutRamp.current = a.cutRamp.current
  safe : rampsFor a.code a.cut a.levelRamp a.cutRamp → rampsFor b.code b.cut b.levelRamp b.cutRamp

theorem PremixMaster.GainsKept.refl (a : PremixMaster) : a.GainsKept a := ⟨rfl, rfl, id⟩

theorem PremixMaster.GainsKept.trans {a b c : PremixMaster} (h : a.GainsKept b) (k : b.GainsKept c) : a.GainsKept c :=
  ⟨k.level.trans h.level, k.gate.trans h.gate, k.safe ∘ h.safe⟩

/-- A WRITE PREMIX moves no gain, and aims both ramps at the code and cut it writes (R83, R11, R14). -/
theorem PremixMaster.gainsKept_store {d : PremixData} (range : d.code ≤ 1020) (m : PremixMaster) : m.GainsKept (m.store d) := by
  refine ⟨?_, ?_, fun h => ?_⟩
  · simp only [PremixMaster.store]
    split <;> rfl
  · simp only [PremixMaster.store]
    split <;> rfl
  · exact rampsFor_change _ h range (.inr rfl)

/-- The level code that the data of a WRITE PREMIX gives lies in range (R3, R83). -/
theorem readPremixData_code_le {data : List Byte} {d : PremixData} (h : readPremixData data = some d) : d.code ≤ 1020 := by
  unfold readPremixData at h
  split at h
  · split at h
    · obtain rfl := Option.some.inj h
      exact min_le_left _ _
    · cases h
  · cases h

end Sys2Proof.Machine
end

section
/-! What the evaluation of strips and the group line keep of a tuned part: every ramp's gain and safety, the codes in their ranges, and
effective levels, cuts and masters current (R23, R26, R33, R34, R102). -/

namespace Sys2Proof.Machine

/-! ### What work between two boundaries keeps -/

/-- Work that moves no gain and keeps ramps safe and codes in range. -/
structure Steady (s t : State) : Prop where
  straps : t.straps = s.straps
  strips : ∀ i : Fin 64, s.strips[i].GainsKept t.strips[i]
  premix : ∀ p : Fin 64, s.summer.premix[p].GainsKept t.summer.premix[p]
  codes : CodesInRange s → CodesInRange t

/-- Steady work that also keeps every strip and master tuned. -/
structure Kept (s t : State) : Prop where
  steady : Steady s t
  tuned : StripsTuned s → StripsTuned t

theorem Steady.refl (s : State) : Steady s s := ⟨rfl, fun _ => .refl _, fun _ => .refl _, id⟩

theorem Steady.trans {s t u : State} (h : Steady s t) (k : Steady t u) : Steady s u :=
  ⟨k.straps.trans h.straps, fun i => (h.strips i).trans (k.strips i), fun p => (h.premix p).trans (k.premix p), k.codes ∘ h.codes⟩

theorem Kept.refl (s : State) : Kept s s := ⟨.refl s, id⟩

theorem Kept.trans {s t u : State} (h : Kept s t) (k : Kept t u) : Kept s u := ⟨h.steady.trans k.steady, k.tuned ∘ h.tuned⟩

theorem hasStrip_of_straps {s t : State} (h : t.straps = s.straps) (i : Fin 64) : t.hasStrip i = s.hasStrip i :=
  congrArg (fun p : Straps => decide (i.val < p.rate.strips)) h

theorem Steady.hasStrip {s t : State} (h : Steady s t) (i : Fin 64) : t.hasStrip i = s.hasStrip i := hasStrip_of_straps h.straps i

theorem Kept.hasStrip {s t : State} (h : Kept s t) {i : Fin 64} (hi : s.hasStrip i = true) : t.hasStrip i = true :=
  (h.steady.hasStrip i).trans hi

theorem Steady.rampsSafe {s t : State} (h : Steady s t) (safe : RampsSafe s) : RampsSafe t :=
  ⟨fun i => (h.strips i).safe (safe.1 i), fun p => (h.premix p).safe (safe.2 p)⟩

/-- Work done under a condition keeps what the work before it and the work itself keep. -/
theorem Kept.whenDone {s t u : State} {c : Prop} [Decidable c] (h : Kept s t) (k : Kept t u) : Kept s (if c then u else t) := by
  split
  · exact h.trans k
  · exact h

theorem Kept.unlessDone {s t u : State} {c : Prop} [Decidable c] (h : Kept s t) (k : Kept t u) : Kept s (if c then t else u) := by
  split
  · exact h
  · exact h.trans k

/-- What every existing strip's work keeps, the whole walk keeps. -/
theorem forStrips_kept {f : Fin 64 → State → State} (h : ∀ i t, t.hasStrip i = true → Kept t (f i t)) (s : State) :
    Kept s (forStrips f s) :=
  forStrips_induct (P := fun t => Kept s t) (.refl s) fun i t hi ht => ht.trans (h i t hi)

/-- Codes in range are a matter of the strips, the automation records, the journal and the faders. -/
theorem CodesInRange.congr {s t : State} (strips : ∀ i : Fin 64, s.strips[i].inRange → t.strips[i].inRange)
    (auto : t.playback.strips = s.playback.strips) (journal : t.pass.journal = s.pass.journal)
    (faders : t.surface.faders = s.surface.faders) (h : CodesInRange s) : CodesInRange t := by
  obtain ⟨inStrips, inAuto, inJournal, inFaders⟩ := h
  refine ⟨fun i => strips i (inStrips i), ?_, ?_, ?_⟩
  · rwa [auto]
  · rwa [journal]
  · rwa [faders]

theorem Strip.SameInputs.inRange {a b : Strip} (h : Strip.SameInputs a b) (k : a.inRange) : b.inRange := by
  rw [h]
  exact k

theorem LineFrame.codes {s t : State} (h : LineFrame s t) : CodesInRange s → CodesInRange t :=
  CodesInRange.congr (fun i => (h.strips i).inRange) (congrArg Playback.strips h.playback) (congrArg Pass.journal h.pass)
    (congrArg Surface.faders h.inner.surface)

/-- Work inside the line frame that keeps the gains is steady. -/
theorem LineFrame.steady {s t : State} (h : LineFrame s t) (gains : ∀ i : Fin 64, s.strips[i].GainsKept t.strips[i]) : Steady s t :=
  ⟨h.inner.straps, gains, fun p => by rw [h.inner.summer]; exact .refl _, h.codes⟩

theorem JournalFrame.steady {s t : State} (h : JournalFrame s t) (codes : CodesInRange s → CodesInRange t) : Steady s t :=
  ⟨h.inner.straps, fun i => by rw [h.strips]; exact .refl _, fun p => by rw [h.inner.summer]; exact .refl _, codes⟩

/-! ### What the effective level and cut depend on (R23, R26) -/

theorem Strip.levelUnder_congr {a b : Strip} {table table' : Vector TableEntry 32} (fader : b.faderCode = a.faderCode)
    (groups : b.groups = a.groups) (offset : ∀ g ∈ a.groups, table'[g].offset = table[g].offset) :
    b.levelUnder table' = a.levelUnder table := by
  unfold Strip.levelUnder
  rw [fader, groups, List.map_congr_left offset]

theorem Strip.cutUnder_congr {a b : Strip} {table table' : Vector TableEntry 32} {solo : Bool} (cut : b.modeCut = a.modeCut)
    (groups : b.groups = a.groups) (soloed : b.solo = a.solo) (safe : b.soloSafe = a.soloSafe)
    (groupCut : ∀ g ∈ a.groups, table'[g].cut = table[g].cut) : b.cutUnder table' solo = a.cutUnder table solo := by
  have any : (a.groups.any fun g => table'[g].cut) = a.groups.any fun g => table[g].cut := by
    rw [Bool.eq_iff_iff, List.any_eq_true, List.any_eq_true]
    exact exists_congr fun g => and_congr_right fun hg => by rw [groupCut g hg]
  unfold Strip.cutUnder
  rw [cut, groups, soloed, safe, any]

/-- Two strip records agree in all that decides whether the strip is tuned. -/
structure Strip.SameTuning (a b : Strip) : Prop where
  role : b.role = a.role
  effLevel : b.effLevel = a.effLevel
  effCut : b.effCut = a.effCut
  fader : b.faderCode = a.faderCode
  cut : b.modeCut = a.modeCut
  groups : b.groups = a.groups
  solo : b.solo = a.solo
  soloSafe : b.soloSafe = a.soloSafe

theorem Strip.SameTuning.refl (a : Strip) : a.SameTuning a := ⟨rfl, rfl, rfl, rfl, rfl, rfl, rfl, rfl⟩

/-- What the group line holds of a mastered group for its strip: offset and cut. -/
def Master.handed (m : Master) : Int × Bool := (m.offset, m.cut)

/-- What the part holds of a strip's level and cut is current: the tuning of a strip, role by role (R23, R26, R33). -/
structure StripCurrent (s : State) (i : Fin 64) : Prop where
  audio : s.strips[i].role = .audio → s.strips[i].effLevel = s.strips[i].levelUnder s.group.table ∧
    s.strips[i].effCut = s.strips[i].cutUnder s.group.table s.group.soloLevel
  master : ∀ g, s.strips[i].role = .groupMaster g →
    (s.group.master g).map Master.handed = some (masterOffset s.strips[i].faderCode, s.strips[i].modeCut)

theorem tuned_iff_stripCurrent (s : State) (i : Fin 64) : s.tuned i ↔ StripCurrent s i := by
  have handed (g : Fin 32) : (∃ m, s.group.master g = some m ∧ m.offset = masterOffset s.strips[i].faderCode ∧
      m.cut = s.strips[i].modeCut) ↔
      (s.group.master g).map Master.handed = some (masterOffset s.strips[i].faderCode, s.strips[i].modeCut) := by
    simp only [Option.map_eq_some_iff, Master.handed, Prod.mk.injEq]
  unfold State.tuned
  split
  · next role =>
    refine ⟨fun h => ⟨fun _ => h, fun g k => ?_⟩, fun h => h.audio role⟩
    rw [role] at k
    cases k
  · next g role =>
    refine (handed g).trans ⟨fun h => ⟨fun k => ?_, fun g' k => ?_⟩, fun h => h.master g role⟩
    · rw [role] at k
      cases k
    · rw [role] at k
      cases k
      exact h

/-- A strip stays current where neither its own record nor what it reads of the group line changes. -/
theorem StripCurrent.congr {s t : State} {i : Fin 64} (strip : s.strips[i].SameTuning t.strips[i])
    (offset : s.strips[i].role = .audio → ∀ g ∈ s.strips[i].groups, t.group.table[g].offset = s.group.table[g].offset)
    (cut : s.strips[i].role = .audio → ∀ g ∈ s.strips[i].groups, t.group.table[g].cut = s.group.table[g].cut)
    (solo : t.group.soloLevel = s.group.soloLevel)
    (master : ∀ g, s.strips[i].role = .groupMaster g →
      (t.group.master g).map Master.handed = (s.group.master g).map Master.handed) (h : StripCurrent s i) : StripCurrent t i := by
  constructor
  · intro role
    rw [strip.role] at role
    rw [strip.effLevel, strip.effCut, solo, Strip.levelUnder_congr strip.fader strip.groups (offset role),
      Strip.cutUnder_congr strip.cut strip.groups strip.solo strip.soloSafe (cut role)]
    exact h.audio role
  · intro g role
    rw [strip.role] at role
    rw [master g role, h.master g role, strip.fader, strip.cut]

/-- An AUDIO strip just evaluated is current (R23, R26). -/
theorem stripCurrent_of_retune {s : State} {i : Fin 64} {st : Strip} (role : st.role = .audio)
    (strip : s.strips[i] = st.retune s.group.table s.group.soloLevel) : StripCurrent s i := by
  constructor
  · intro _
    rw [strip]
    exact ⟨rfl, rfl⟩
  · intro g k
    rw [strip] at k
    cases role.symm.trans k

/-! ### The mastered set -/

theorem GroupLine.exists_master {g : GroupLine} {h : Fin 32} : (∃ m, g.master h = some m) ↔ h ∈ g.mastered.map Master.group := by
  simp only [GroupLine.master, ← Option.isSome_iff_exists, List.find?_isSome, beq_iff_eq, List.mem_map]

/-- A change of a group's record that leaves its group leaves the others. -/
theorem master_modMaster {f : Master → Master} (hf : ∀ m, (f m).group = m.group) (g h : Fin 32) (s : State) :
    (modMaster g f s).group.master h = (s.group.master h).map fun m => if m.group = g then f m else m := by
  have keep : ((fun m : Master => m.group == h) ∘ fun m => if m.group = g then f m else m) = fun m => m.group == h := by
    funext m
    simp only [Function.comp_apply]
    split
    · rw [hf]
    · rfl
  simp only [GroupLine.master, modMaster, State.setGroup_group, List.find?_map, keep]

theorem groups_modMaster {f : Master → Master} (hf : ∀ m, (f m).group = m.group) (g : Fin 32) (s : State) :
    (modMaster g f s).group.mastered.map Master.group = s.group.mastered.map Master.group := by
  simp only [modMaster, State.setGroup_group, List.map_map]
  refine List.map_congr_left fun m _ => ?_
  simp only [Function.comp_apply]
  split
  · exact hf m
  · rfl

/-! ### The group line's own work -/

/-- The work of the group line: it hands no strip a new value of its own, evaluates the strips whose group changed, and leaves every
tuned strip tuned. -/
structure TuneFrame (s t : State) : Prop where
  line : LineFrame s t
  gains : ∀ i : Fin 64, s.strips[i].GainsKept t.strips[i]
  groups : t.group.mastered.map Master.group = s.group.mastered.map Master.group
  current : ∀ i : Fin 64, s.hasStrip i = true → StripCurrent s i → StripCurrent t i

theorem TuneFrame.refl (s : State) : TuneFrame s s := ⟨.refl s, fun _ => .refl _, rfl, fun _ _ h => h⟩

theorem TuneFrame.trans {s t u : State} (h : TuneFrame s t) (k : TuneFrame t u) : TuneFrame s u :=
  ⟨h.line.trans k.line, fun i => (h.gains i).trans (k.gains i), k.groups.trans h.groups,
    fun i hi ht => k.current i ((h.line.inner.hasStrip i).trans hi) (h.current i hi ht)⟩

theorem TuneFrame.whenDone {s t u : State} {c : Prop} [Decidable c] (h : TuneFrame s t) (k : TuneFrame t u) :
    TuneFrame s (if c then u else t) := by
  split
  · exact h.trans k
  · exact h

/-- The masters of the existing strips: no group twice, exactly those of the mastered set, ascending (R34, R102). -/
structure MastersBacked (s : State) : Prop where
  single : ∀ i j : Fin 64, ∀ g : Fin 32, s.hasStrip i = true → s.hasStrip j = true → s.strips[i].role = .groupMaster g →
    s.strips[j].role = .groupMaster g → i = j
  backed : ∀ g ∈ s.group.mastered.map Master.group, ∃ i : Fin 64, s.hasStrip i = true ∧ s.strips[i].role = .groupMaster g
  ascending : (s.group.mastered.map Master.group).Pairwise (· < ·)

theorem stripsTuned_iff (s : State) : StripsTuned s ↔ (∀ i : Fin 64, s.hasStrip i = true → StripCurrent s i) ∧ MastersBacked s := by
  have ascending : (s.group.mastered.map fun m => m.group.val).Pairwise (· < ·) ↔
      (s.group.mastered.map Master.group).Pairwise (· < ·) := by
    simp only [List.pairwise_map, Fin.lt_def]
  constructor
  · intro ⟨tuned, single, backed, order⟩
    exact ⟨fun i hi => (tuned_iff_stripCurrent s i).mp (tuned i hi), single,
      fun g hg => (List.mem_map.mp hg).elim fun m ⟨hm, group⟩ => group ▸ backed m hm, ascending.mp order⟩
  · intro ⟨tuned, single, backed, order⟩
    exact ⟨fun i hi => (tuned_iff_stripCurrent s i).mpr (tuned i hi), single, fun m hm => backed _ (List.mem_map_of_mem hm),
      ascending.mpr order⟩

/-- The masters are a matter of the straps, the roles and the mastered groups. -/
theorem MastersBacked.congr {s t : State} (straps : t.straps = s.straps) (roles : ∀ i : Fin 64, t.strips[i].role = s.strips[i].role)
    (groups : t.group.mastered.map Master.group = s.group.mastered.map Master.group) (h : MastersBacked s) : MastersBacked t := by
  refine ⟨fun i j g hi hj ri rj => ?_, fun g hg => ?_, groups ▸ h.ascending⟩
  · rw [hasStrip_of_straps straps] at hi hj
    rw [roles] at ri rj
    exact h.single i j g hi hj ri rj
  · obtain ⟨i, hi, ri⟩ := h.backed g (groups ▸ hg)
    exact ⟨i, (hasStrip_of_straps straps i).trans hi, (roles i).trans ri⟩

theorem Strip.SameInputs.role {a b : Strip} (h : Strip.SameInputs a b) : b.role = a.role := by rw [h]

theorem TuneFrame.kept {s t : State} (h : TuneFrame s t) : Kept s t := by
  refine ⟨h.line.steady h.gains, fun tuned => ?_⟩
  rw [stripsTuned_iff] at tuned ⊢
  refine ⟨fun i hi => ?_, tuned.2.congr h.line.inner.straps (fun i => (h.line.strips i).role) h.groups⟩
  rw [h.line.inner.hasStrip] at hi
  exact h.current i hi (tuned.1 i hi)

/-- A change of the group line that leaves the table, the solo level and what each master holds. -/
theorem tuneFrame_setGroup {s : State} {v : GroupLine} (table : v.table = s.group.table) (solo : v.soloLevel = s.group.soloLevel)
    (groups : v.mastered.map Master.group = s.group.mastered.map Master.group)
    (handed : ∀ g, (v.master g).map Master.handed = (s.group.master g).map Master.handed) : TuneFrame s (s.setGroup v) := by
  refine ⟨lineFrame_setGroup s v, fun _ => .refl _, groups, fun i _ h => ?_⟩
  refine StripCurrent.congr (s := s) (.refl _) (fun _ g _ => ?_) (fun _ g _ => ?_) solo (fun g _ => handed g) h
  · rw [State.setGroup_group, table]
  · rw [State.setGroup_group, table]

/-- A change of the group line's lists and counters. -/
theorem tuneFrame_setQueue {s : State} {v : GroupLine} (table : v.table = s.group.table) (solo : v.soloLevel = s.group.soloLevel)
    (mastered : v.mastered = s.group.mastered) : TuneFrame s (s.setGroup v) :=
  tuneFrame_setGroup table solo (by rw [mastered]) fun g => by rw [GroupLine.master, GroupLine.master, mastered]

theorem tuneFrame_raise (c : Cause) (s : State) : TuneFrame s (raise c s) :=
  ⟨lineFrame_raise c s, fun _ => .refl _, rfl, fun _ _ h =>
    StripCurrent.congr (s := s) (.refl _) (fun _ _ _ => rfl) (fun _ _ _ => rfl) rfl (fun _ _ => rfl) h⟩

theorem tuneFrame_raiseIf (b : Bool) (c : Cause) (s : State) : TuneFrame s (raiseIf b c s) := by
  cases b
  · exact .refl s
  · exact tuneFrame_raise c s

/-! ### Evaluation of several strips -/

theorem retuneWhere_strip (p : Strip → Bool) (s : State) (i : Fin 64) :
    (retuneWhere p s).strips[i] =
      if s.hasStrip i && s.strips[i].role == .audio && p s.strips[i] then s.strips[i].retune s.group.table s.group.soloLevel
      else s.strips[i] := by
  rw [retuneWhere, State.setStrips_strips, mapFin_get]

theorem retuneWhere_group (p : Strip → Bool) (s : State) : (retuneWhere p s).group = s.group := by
  rw [retuneWhere, State.setStrips_group]

theorem gainsKept_retuneWhere (p : Strip → Bool) (s : State) (i : Fin 64) :
    s.strips[i].GainsKept (retuneWhere p s).strips[i] := by
  rw [retuneWhere_strip]
  split
  · exact Strip.gainsKept_retune _ _ _
  · exact .refl _

/-- A strip that the evaluation selects is current after it (R23, R26). -/
theorem stripCurrent_retuneWhere {p : Strip → Bool} {s : State} {i : Fin 64} (hi : s.hasStrip i = true)
    (role : s.strips[i].role = .audio) (selected : p s.strips[i] = true) : StripCurrent (retuneWhere p s) i := by
  refine stripCurrent_of_retune (st := s.strips[i]) role ?_
  rw [retuneWhere_strip, hi, role, selected, retuneWhere_group]
  exact if_pos rfl

/-- A strip that the evaluation leaves alone. -/
theorem retuneWhere_strip_other {p : Strip → Bool} {s : State} {i : Fin 64}
    (other : s.strips[i].role = .audio → p s.strips[i] = false) : (retuneWhere p s).strips[i] = s.strips[i] := by
  rw [retuneWhere_strip, if_neg]
  intro h
  simp only [Bool.and_eq_true, beq_iff_eq] at h
  obtain ⟨⟨-, role⟩, selected⟩ := h
  rw [other role] at selected
  cases selected

/-- The evaluation of every AUDIO strip tunes a part whose masters are current, whatever the table and the solo level are (R24). -/
theorem stripsTuned_retuneAll {s : State} (masters : ∀ (i : Fin 64) (g : Fin 32), s.hasStrip i = true →
    s.strips[i].role = .groupMaster g → StripCurrent s i) (backed : MastersBacked s) : StripsTuned (retuneWhere (fun _ => true) s) := by
  have line := lineFrame_retuneWhere (fun _ => true) s
  rw [stripsTuned_iff]
  refine ⟨fun i hi => ?_, backed.congr line.inner.straps (fun i => (line.strips i).role) (by rw [retuneWhere_group])⟩
  rw [line.inner.hasStrip] at hi
  cases role : s.strips[i].role with
  | audio => exact stripCurrent_retuneWhere hi role rfl
  | groupMaster g =>
    have same : (retuneWhere (fun _ => true) s).strips[i] = s.strips[i] :=
      retuneWhere_strip_other fun audio => by rw [role] at audio; cases audio
    refine (masters i g hi role).congr (by rw [same]; exact .refl _) ?_ ?_ ?_ ?_
    all_goals simp only [retuneWhere_group, implies_true]

/-! ### The group table takes a message (R100) -/

theorem tuneFrame_takeGroup (kind : Kind) (g : Fin 32) (value : Int) (slot : Fin 16) (s : State) :
    TuneFrame s (takeGroup kind g value slot s) := by
  have line := lineFrame_takeGroup kind g value slot s
  unfold takeGroup at line ⊢
  dsimp only at line ⊢
  generalize s.group.table[g].take kind value slot = after at line ⊢
  refine TuneFrame.trans ?_ (tuneFrame_raiseIf _ _ _)
  have table (j : Fin 32) : (s.group.table.set g after)[j] = if g = j then after else s.group.table[j] := set_get _ _ _ _
  generalize hu : s.setGroup { s.group with table := s.group.table.set g after } = u
  have uLine : LineFrame s u := hu ▸ lineFrame_setGroup s _
  have uStrips : u.strips = s.strips := by rw [← hu]; rfl
  have uEntry (j : Fin 32) : u.group.table[j] = if g = j then after else s.group.table[j] := by rw [← hu]; exact table j
  have uMaster (j : Fin 32) : u.group.master j = s.group.master j := by rw [← hu]; rfl
  have uSolo : u.group.soloLevel = s.group.soloLevel := by rw [← hu]; rfl
  have uGroups : u.group.mastered = s.group.mastered := by rw [← hu]; rfl
  split
  · refine ⟨uLine.trans (lineFrame_retuneWhere _ _), fun i => ?_, congrArg _ uGroups, fun i hi h => ?_⟩
    · have := gainsKept_retuneWhere (fun st => st.groups.contains g) u i
      rwa [uStrips] at this
    · by_cases selected : s.strips[i].role = .audio ∧ s.strips[i].groups.contains g = true
      · exact stripCurrent_retuneWhere (p := fun st => st.groups.contains g) ((uLine.inner.hasStrip i).trans hi)
          (by rw [uStrips]; exact selected.1) (by rw [uStrips]; exact selected.2)
      · have other : (retuneWhere (fun st => st.groups.contains g) u).strips[i] = s.strips[i] := by
          rw [retuneWhere_strip_other, uStrips]
          rw [uStrips]
          simpa using selected
        have elsewhere (role : s.strips[i].role = .audio) (j : Fin 32) (hj : j ∈ s.strips[i].groups) :
            u.group.table[j] = s.group.table[j] := by
          rw [uEntry, if_neg]
          rintro rfl
          exact selected ⟨role, by simpa using hj⟩
        refine h.congr (by rw [other]; exact .refl _) (fun role j hj => ?_) (fun role j hj => ?_) ?_ (fun j _ => ?_) <;>
          rw [retuneWhere_group]
        · rw [elsewhere role j hj]
        · rw [elsewhere role j hj]
        · exact uSolo
        · rw [uMaster]
  · next unchanged =>
    obtain ⟨offset, cut⟩ : s.group.table[g].offset = after.offset ∧ s.group.table[g].cut = after.cut := by
      simpa using unchanged
    refine ⟨uLine, fun i => by rw [uStrips]; exact .refl _, congrArg _ uGroups, fun i _ h => ?_⟩
    refine h.congr (by rw [uStrips]; exact .refl _) (fun _ j _ => ?_) (fun _ j _ => ?_) uSolo
      (fun j _ => congrArg _ (uMaster j))
    · rw [uEntry]
      split
      · next e => rw [← e, offset]
      · rfl
    · rw [uEntry]
      split
      · next e => rw [← e, cut]
      · rfl

/-! ### The send queue and the mastered set -/

theorem tuneFrame_markInFlight (s : State) : TuneFrame s (markInFlight s) := by
  unfold markInFlight
  split
  · exact .refl s
  · split
    · exact .refl s
    · exact tuneFrame_setQueue rfl rfl rfl

theorem tuneFrame_startIfIdle (s : State) : TuneFrame s (startIfIdle s) := by
  unfold startIfIdle
  split
  · exact tuneFrame_markInFlight s
  · exact .refl s
  · exact .refl s

/-- An enqueue leaves the table, the solo level and the mastered set. -/
theorem enqueue_keeps (g : GroupLine) (kind : MsgKind) (number : Nat) (value : Int) :
    (g.enqueue kind number value).table = g.table ∧ (g.enqueue kind number value).soloLevel = g.soloLevel ∧
      (g.enqueue kind number value).mastered = g.mastered := by
  unfold GroupLine.enqueue
  split
  · exact ⟨rfl, rfl, rfl⟩
  · split <;> exact ⟨rfl, rfl, rfl⟩

theorem tuneFrame_enqueue (kind : MsgKind) (number : Nat) (value : Int) (s : State) :
    TuneFrame s (s.setGroup (s.group.enqueue kind number value)) := by
  obtain ⟨table, solo, mastered⟩ := enqueue_keeps s.group kind number value
  exact tuneFrame_setQueue table solo mastered

theorem tuneFrame_enqueueGroup (kind : Kind) (g : Fin 32) (value : Int) (s : State) :
    TuneFrame s (enqueueGroup kind g value s) := by
  unfold enqueueGroup
  split
  · exact tuneFrame_takeGroup _ _ _ _ _
  · exact (tuneFrame_enqueue _ _ _ s).trans (tuneFrame_startIfIdle _)

/-- A record of what was last enqueued is no matter of a master's offset and cut. -/
theorem tuneFrame_noteEnqueued (g : Fin 32) (s : State) :
    TuneFrame s (modMaster g (fun m => { m with enqueued := m.offset }) s) := by
  have same : ∀ m : Master, ({ m with enqueued := m.offset } : Master).group = m.group := fun _ => rfl
  refine tuneFrame_setGroup rfl rfl (groups_modMaster same g s) fun h => ?_
  have := master_modMaster same g h s
  simp only [modMaster, State.setGroup_group] at this
  rw [this, Option.map_map]
  congr 1
  funext m
  simp only [Function.comp_apply]
  split <;> rfl

theorem tuneFrame_refreshGroup (g : Fin 32) (s : State) : TuneFrame s (refreshGroup g s) := by
  unfold refreshGroup
  split
  · exact .refl s
  · exact ((tuneFrame_noteEnqueued g s).trans (tuneFrame_enqueueGroup _ _ _ _)).trans (tuneFrame_enqueueGroup _ _ _ _)

/-- What every step of a walk over the mastered set keeps, the walk keeps. -/
theorem tuneFrame_foldl {α : Type} {f : State → α → State} (h : ∀ t a, TuneFrame t (f t a)) (l : List α) (s : State) :
    TuneFrame s (l.foldl f s) := by
  induction l generalizing s with
  | nil => exact .refl s
  | cons a l ih => exact (h s a).trans (ih _)

theorem tuneFrame_enqueueOffsets (s : State) : TuneFrame s (enqueueOffsets s) := by
  refine tuneFrame_foldl (fun t m => ?_) _ s
  split
  · exact .refl t
  · exact (tuneFrame_noteEnqueued _ t).trans (tuneFrame_enqueueGroup _ _ _ _)

theorem tuneFrame_lineError (s : State) : TuneFrame s (lineError s) := by
  have counted : TuneFrame s (s.setGroup { s.group with lineErrors := count16 s.group.lineErrors 1 }) := tuneFrame_setQueue rfl rfl rfl
  exact counted.trans (tuneFrame_raise _ _)

theorem tuneFrame_seek (s : State) : TuneFrame s (seek s) := tuneFrame_setQueue rfl rfl rfl

theorem tuneFrame_loseArbitration (s : State) : TuneFrame s (loseArbitration s) := tuneFrame_setQueue rfl rfl rfl

theorem tuneFrame_meetFault (s : State) : TuneFrame s (meetFault s) := by
  have withdrawn : TuneFrame s (s.setGroup s.group.withdraw) := tuneFrame_setQueue rfl rfl rfl
  exact (withdrawn.trans (tuneFrame_lineError _)).trans (tuneFrame_seek _)

end Sys2Proof.Machine
end

section
/-! One strip's evaluation and its change of role (R23, R26, R33, R34): what brings a strip whose inputs changed back into tune. -/

namespace Sys2Proof.Machine

/-! ### One strip record -/

theorem modStrip_get (i j : Fin 64) (f : Strip → Strip) (s : State) :
    (modStrip i f s).strips[j] = if i = j then f s.strips[j] else s.strips[j] := by
  rw [modStrip, State.setStrips_strips, set_get]
  split
  · next h => rw [h]
  · rfl

@[simp] theorem modStrip_self (i : Fin 64) (f : Strip → Strip) (s : State) : (modStrip i f s).strips[i] = f s.strips[i] := by
  rw [modStrip_get, if_pos rfl]

theorem modStrip_other {i j : Fin 64} (h : j ≠ i) (f : Strip → Strip) (s : State) :
    (modStrip i f s).strips[j] = s.strips[j] := by
  rw [modStrip_get, if_neg h.symm]

theorem modStrip_group (i : Fin 64) (f : Strip → Strip) (s : State) : (modStrip i f s).group = s.group := by
  rw [modStrip, State.setStrips_group]

theorem modStrip_role {i : Fin 64} {f : Strip → Strip} {s : State} (role : (f s.strips[i]).role = s.strips[i].role) (j : Fin 64) :
    (modStrip i f s).strips[j].role = s.strips[j].role := by
  rw [modStrip_get]
  split
  · next h => subst h; exact role
  · rfl

/-- A change of one strip's record that keeps its gains and its ranges. -/
theorem steady_modStrip {i : Fin 64} {f : Strip → Strip} {s : State} (gains : s.strips[i].GainsKept (f s.strips[i]))
    (codes : CodesInRange s → (f s.strips[i]).inRange) : Steady s (modStrip i f s) := by
  refine ⟨(inner_modStrip i f s).straps, fun j => ?_, fun p => ?_, fun h => ?_⟩
  · rw [modStrip_get]
    split
    · next e => subst e; exact gains
    · exact .refl _
  · rw [(inner_modStrip i f s).summer]
    exact .refl _
  · have inRange (j : Fin 64) (k : s.strips[j].inRange) : (modStrip i f s).strips[j].inRange := by
      rw [modStrip_get]
      split
      · next e => subst e; exact codes h
      · exact k
    exact h.congr inRange rfl rfl rfl

/-- Another strip stays current where one strip's record changes. -/
theorem stripCurrent_modStrip_other {i j : Fin 64} {f : Strip → Strip} {s : State} (h : j ≠ i) (current : StripCurrent s j) :
    StripCurrent (modStrip i f s) j := by
  refine current.congr (by rw [modStrip_other h]; exact .refl _) ?_ ?_ ?_ ?_
  all_goals simp only [modStrip_group, implies_true]

/-! ### A strip whose own values may be out of date -/

/-- A tuned part but for the values that one strip holds. -/
structure TunedAround (i : Fin 64) (s : State) : Prop where
  others : ∀ j : Fin 64, j ≠ i → s.hasStrip j = true → StripCurrent s j
  held : ∀ g, s.strips[i].role = .groupMaster g → g ∈ s.group.mastered.map Master.group
  backed : MastersBacked s

theorem StripsTuned.around {s : State} {i : Fin 64} (hi : s.hasStrip i = true) (h : StripsTuned s) : TunedAround i s := by
  rw [stripsTuned_iff] at h
  refine ⟨fun j _ hj => h.1 j hj, fun g role => ?_, h.2⟩
  obtain ⟨m, hm, -⟩ := Option.map_eq_some_iff.mp ((h.1 i hi).master g role)
  exact GroupLine.exists_master.mp ⟨m, hm⟩

theorem TunedAround.tuned {s : State} {i : Fin 64} (h : TunedAround i s) (own : StripCurrent s i) : StripsTuned s := by
  rw [stripsTuned_iff]
  refine ⟨fun j hj => ?_, h.backed⟩
  by_cases e : j = i
  · exact e ▸ own
  · exact h.others j e hj

/-- A change of the strip's own record that keeps its role. -/
theorem TunedAround.modStrip {s : State} {i : Fin 64} {f : Strip → Strip} (h : TunedAround i s)
    (role : (f s.strips[i]).role = s.strips[i].role) : TunedAround i (modStrip i f s) := by
  refine ⟨fun j hj hasStrip => stripCurrent_modStrip_other hj (h.others j hj hasStrip), fun g r => ?_,
    MastersBacked.congr (s := s) rfl (modStrip_role role) (by rw [modStrip_group]) h.backed⟩
  rw [modStrip_role role] at r
  rw [modStrip_group]
  exact h.held g r

/-- A change that leaves the strips and the group line. -/
theorem TunedAround.congr {s t : State} {i : Fin 64} (straps : t.straps = s.straps) (strips : t.strips = s.strips)
    (group : t.group = s.group) (h : TunedAround i s) : TunedAround i t := by
  refine ⟨fun j hj hasStrip => ?_, fun g role => ?_, h.backed.congr straps (fun j => by rw [strips]) (by rw [group])⟩
  · refine (h.others j hj ((hasStrip_of_straps straps j).symm.trans hasStrip)).congr (by rw [strips]; exact .refl _) ?_ ?_ ?_ ?_
    all_goals simp only [group, implies_true]
  · rw [group]
    exact h.held g (strips ▸ role)

/-! ### The evaluation of one strip -/

theorem gainsKept_retuneOne (i j : Fin 64) (s : State) :
    s.strips[j].GainsKept (modStrip i (Strip.retune s.group.table s.group.soloLevel) s).strips[j] := by
  rw [modStrip_get]
  split
  · exact Strip.gainsKept_retune _ _ _
  · exact .refl _

theorem gainsKept_handMaster (g : Fin 32) (offset : Int) (cut : Bool) (s : State) (j : Fin 64) :
    s.strips[j].GainsKept (handMaster g offset cut s).strips[j] := by
  unfold handMaster
  split
  · exact .refl _
  · dsimp only
    split
    · exact .refl _
    · exact (tuneFrame_enqueueGroup .cut g (cutValue cut) (modMaster g (fun m => { m with offset := offset, cut := cut }) s)).gains j

theorem steady_evalStrip (i : Fin 64) (s : State) : Steady s (evalStrip i s) := by
  refine (lineFrame_evalStrip i s).steady fun j => ?_
  unfold evalStrip
  split
  · exact gainsKept_retuneOne i j s
  · exact gainsKept_handMaster _ _ _ s j

/-- A master handed its offset and cut is current, and no other group's record changes. -/
theorem TunedAround.setMaster {s : State} {i : Fin 64} {g : Fin 32} (hi : s.hasStrip i = true) (h : TunedAround i s)
    (role : s.strips[i].role = .groupMaster g) :
    StripsTuned (modMaster g (fun m => { m with offset := masterOffset s.strips[i].faderCode, cut := s.strips[i].modeCut }) s) := by
  have same : ∀ m : Master, ({ m with offset := masterOffset s.strips[i].faderCode, cut := s.strips[i].modeCut } : Master).group =
    m.group := fun _ => rfl
  have masters (k : Fin 32) := master_modMaster same g k s
  have groups := groups_modMaster same g s
  have inner := (lineFrame_modMaster g (fun m => { m with offset := masterOffset s.strips[i].faderCode, cut := s.strips[i].modeCut }) s)
  have around : TunedAround i (modMaster g
      (fun m => { m with offset := masterOffset s.strips[i].faderCode, cut := s.strips[i].modeCut }) s) := by
    refine ⟨fun j hj hasStrip => StripCurrent.congr (s := s) (.refl _) (fun _ _ _ => rfl) (fun _ _ _ => rfl) rfl (fun k rj => ?_)
      (h.others j hj hasStrip), fun k r => groups ▸ h.held k r, MastersBacked.congr (s := s) rfl (fun _ => rfl) groups h.backed⟩
    have ne : k ≠ g := fun e => hj (h.backed.single j i k hasStrip hi rj (e ▸ role))
    rw [masters, Option.map_map]
    refine Option.map_congr fun m hm => ?_
    have mk : m.group = k := by simpa using List.find?_some hm
    simp only [Function.comp_apply, mk, ne, if_false]
  refine around.tuned ⟨fun audio => ?_, fun k r => ?_⟩
  · cases role.symm.trans audio
  · obtain rfl : g = k := by
      have := role.symm.trans r
      simpa using this
    obtain ⟨m, hm⟩ := GroupLine.exists_master.mpr (h.held g role)
    have mg : m.group = g := by simpa using List.find?_some hm
    rw [masters, hm, Option.map_some, if_pos mg]
    rfl

/-- An evaluation brings the part back into tune (R23, R26, R33). -/
theorem TunedAround.evalStrip {s : State} {i : Fin 64} (hi : s.hasStrip i = true) (h : TunedAround i s) :
    StripsTuned (evalStrip i s) := by
  unfold Machine.evalStrip
  split
  · next role =>
    refine (h.modStrip rfl).tuned (stripCurrent_of_retune (st := s.strips[i]) role ?_)
    rw [modStrip_self, modStrip_group]
  · next g role =>
    obtain ⟨m, hm⟩ := GroupLine.exists_master.mpr (h.held g role)
    have set := h.setMaster hi role
    unfold handMaster
    rw [hm]
    dsimp only
    split
    · exact set
    · exact (tuneFrame_enqueueGroup _ _ _ _).kept.tuned set

theorem kept_evalStrip {i : Fin 64} {s : State} (hi : s.hasStrip i = true) : Kept s (evalStrip i s) :=
  ⟨steady_evalStrip i s, fun h => (h.around hi).evalStrip hi⟩

/-- A change of a strip's record that keeps its role, and its evaluation. -/
theorem kept_handed {i : Fin 64} {f : Strip → Strip} {s : State} (hi : s.hasStrip i = true)
    (role : (f s.strips[i]).role = s.strips[i].role) (gains : s.strips[i].GainsKept (f s.strips[i]))
    (codes : CodesInRange s → (f s.strips[i]).inRange) : Kept s (evalStrip i (modStrip i f s)) :=
  have steady := steady_modStrip gains codes
  ⟨steady.trans (steady_evalStrip i _), fun h => ((h.around hi).modStrip role).evalStrip ((steady.hasStrip i).trans hi)⟩

/-! ### A change of role (R34) -/

/-- A tuned part but for one strip, whose group, if it masters one, is not in the mastered set. -/
structure TunedBut (i : Fin 64) (s : State) : Prop where
  others : ∀ j : Fin 64, j ≠ i → s.hasStrip j = true → StripCurrent s j
  single : ∀ j k : Fin 64, ∀ g : Fin 32, s.hasStrip j = true → s.hasStrip k = true → s.strips[j].role = .groupMaster g →
    s.strips[k].role = .groupMaster g → j = k
  backed : ∀ g ∈ s.group.mastered.map Master.group,
    ∃ j : Fin 64, j ≠ i ∧ s.hasStrip j = true ∧ s.strips[j].role = .groupMaster g
  ascending : (s.group.mastered.map Master.group).Pairwise (· < ·)

theorem find?_insertMaster (m : Master) (g : Fin 32) (l : List Master) :
    (insertMaster m l).find? (fun x => x.group == g) = if m.group = g then some m else l.find? fun x => x.group == g := by
  induction l with
  | nil => simp [insertMaster, List.find?_cons, beq_eq_decide]; split <;> simp_all
  | cons x rest ih =>
    unfold insertMaster
    split
    · by_cases h : m.group = g <;> simp [List.find?_cons, h]
    · split
      · next e => by_cases h : m.group = g <;> simp [h, ← e]
      · next ne =>
        rw [List.find?_cons, ih, List.find?_cons]
        by_cases h : m.group = g
        · have : (x.group == g) = false := by simpa using fun e => ne (h.trans e.symm)
          rw [this, if_pos h]
        · rw [if_neg h, if_neg h]

theorem mem_groups_insertMaster (m : Master) (g : Fin 32) (l : List Master) :
    g ∈ (insertMaster m l).map Master.group ↔ g = m.group ∨ g ∈ l.map Master.group := by
  induction l with
  | nil => simp [insertMaster]
  | cons x rest ih =>
    unfold insertMaster
    split
    · simp
    · split
      · next e => simp [e]
      · rw [List.map_cons, List.mem_cons, ih, List.map_cons, List.mem_cons]
        tauto

theorem ascending_insertMaster (m : Master) {l : List Master} (h : (l.map Master.group).Pairwise (· < ·)) :
    ((insertMaster m l).map Master.group).Pairwise (· < ·) := by
  induction l with
  | nil => simp [insertMaster]
  | cons x rest ih =>
    obtain ⟨first, others⟩ := List.pairwise_cons.mp h
    unfold insertMaster
    split
    · next lt =>
      refine List.pairwise_cons.mpr ⟨fun g hg => ?_, h⟩
      rcases List.mem_cons.mp hg with rfl | hg
      · exact lt
      · exact lt.trans (first g hg)
    · split
      · next e => exact List.pairwise_cons.mpr ⟨fun g hg => e ▸ first g hg, others⟩
      · next ge ne =>
        refine List.pairwise_cons.mpr ⟨fun g hg => ?_, ih others⟩
        rcases (mem_groups_insertMaster m g rest).mp hg with rfl | hg
        · exact lt_of_le_of_ne (not_lt.mp ge) fun e => ne e.symm
        · exact first g hg

/-- A strip that takes a group enters the mastered set with its offset and cut (R34, R102). -/
theorem TunedBut.becomeMaster {s : State} {i : Fin 64} {g : Fin 32} (hi : s.hasStrip i = true) (h : TunedBut i s)
    (role : s.strips[i].role = .groupMaster g) : StripsTuned (becomeMaster i g s) := by
  unfold Machine.becomeMaster
  dsimp only
  refine (tuneFrame_refreshGroup g _).kept.tuned ?_
  generalize hm : (⟨g, masterOffset s.strips[i].faderCode, s.strips[i].modeCut, masterOffset s.strips[i].faderCode⟩ : Master) = m
  have mg : m.group = g := hm ▸ rfl
  have master (k : Fin 32) : (s.setGroup { s.group with mastered := insertMaster m s.group.mastered }).group.master k =
      if m.group = k then some m else s.group.master k := find?_insertMaster m k _
  rw [stripsTuned_iff]
  refine ⟨fun j hj => ?_, h.single, fun k hk => ?_, ascending_insertMaster m h.ascending⟩
  · by_cases e : j = i
    · subst e
      refine ⟨fun audio => ?_, fun k r => ?_⟩
      · cases role.symm.trans audio
      · obtain rfl : g = k := by simpa using role.symm.trans r
        rw [master, if_pos mg, ← hm]
        rfl
    · refine StripCurrent.congr (s := s) (.refl _) (fun _ _ _ => rfl) (fun _ _ _ => rfl) rfl (fun k rj => ?_) (h.others j e hj)
      have ne : m.group ≠ k := fun ek => e (h.single j i g hj hi (mg.symm.trans ek ▸ rj) role)
      rw [master, if_neg ne]
  · rcases (mem_groups_insertMaster m k _).mp hk with rfl | hk
    · exact ⟨i, hi, mg ▸ role⟩
    · obtain ⟨j, -, hj, rj⟩ := h.backed k hk
      exact ⟨j, hj, rj⟩

theorem mem_groups_ceaseMaster {g k : Fin 32} {s : State} :
    k ∈ (ceaseMaster g s).group.mastered.map Master.group ↔ k ≠ g ∧ k ∈ s.group.mastered.map Master.group := by
  simp only [ceaseMaster, State.setGroup_group, List.mem_map, List.mem_filter, bne_iff_ne]
  constructor
  · rintro ⟨m, ⟨hm, ne⟩, rfl⟩
    exact ⟨ne, m, hm, rfl⟩
  · rintro ⟨ne, m, hm, rfl⟩
    exact ⟨m, ⟨hm, ne⟩, rfl⟩

theorem master_ceaseMaster {g k : Fin 32} (s : State) (ne : k ≠ g) : (ceaseMaster g s).group.master k = s.group.master k := by
  simp only [GroupLine.master, ceaseMaster, State.setGroup_group, List.find?_filter]
  congr 1
  funext m
  by_cases e : m.group = k <;> simp [e, ne]

/-- What a role write finds: the part was tuned, the record of the strip has changed, and its old group, if it had one, is not in the
mastered set. -/
theorem tunedBut_of_roleWritten {s u : State} {i : Fin 64} (hi : s.hasStrip i = true) (h : StripsTuned s) (straps : u.straps = s.straps)
    (strips : ∀ j : Fin 64, j ≠ i → u.strips[j] = s.strips[j]) (table : u.group.table = s.group.table)
    (solo : u.group.soloLevel = s.group.soloLevel)
    (master : ∀ k, s.strips[i].role ≠ .groupMaster k → u.group.master k = s.group.master k)
    (groups : ∀ k ∈ u.group.mastered.map Master.group, s.strips[i].role ≠ .groupMaster k ∧ k ∈ s.group.mastered.map Master.group)
    (ascending : (u.group.mastered.map Master.group).Pairwise (· < ·))
    (fresh : ∀ g, u.strips[i].role = .groupMaster g → ∀ j : Fin 64, j ≠ i → s.hasStrip j = true →
      s.strips[j].role ≠ .groupMaster g) :
    TunedBut i u := by
  rw [stripsTuned_iff] at h
  obtain ⟨current, single, backed, -⟩ := h
  have exists_iff (j : Fin 64) : u.hasStrip j = s.hasStrip j := hasStrip_of_straps straps j
  refine ⟨fun j hj hasStrip => ?_, fun j k g hj hk rj rk => ?_, fun k hk => ?_, ascending⟩
  · rw [exists_iff] at hasStrip
    refine StripCurrent.congr (s := s) (by rw [strips j hj]; exact .refl _) (fun _ _ _ => by rw [table]) (fun _ _ _ => by rw [table])
      solo (fun k rj => ?_) (current j hasStrip)
    rw [master k fun ri => hj (single j i k hasStrip hi rj ri)]
  · rw [exists_iff] at hj hk
    by_cases ej : j = i <;> by_cases ek : k = i
    · exact ej.trans ek.symm
    · exact absurd (strips k ek ▸ rk) (fresh g (ej ▸ rj) k ek hk)
    · exact absurd (strips j ej ▸ rj) (fresh g (ek ▸ rk) j ej hj)
    · exact single j k g hj hk (strips j ej ▸ rj) (strips k ek ▸ rk)
  · obtain ⟨ne, mem⟩ := groups k hk
    obtain ⟨j, hj, rj⟩ := backed k mem
    have ej : j ≠ i := fun e => ne (e ▸ rj)
    exact ⟨j, ej, (exists_iff j).trans hj, strips j ej ▸ rj⟩

/-- An evaluated strip that masters no group completes the tune. -/
theorem TunedBut.evaluated {s : State} {i : Fin 64} (h : TunedBut i s) (own : StripCurrent s i) : StripsTuned s := by
  rw [stripsTuned_iff]
  refine ⟨fun j hj => ?_, h.single, fun g hg => ?_, h.ascending⟩
  · by_cases e : j = i
    · exact e ▸ own
    · exact h.others j e hj
  · obtain ⟨j, -, found⟩ := h.backed g hg
    exact ⟨j, found⟩

theorem TunedBut.modStrip {s : State} {i : Fin 64} {f : Strip → Strip} (h : TunedBut i s)
    (role : (f s.strips[i]).role = s.strips[i].role) : TunedBut i (modStrip i f s) := by
  have roles := modStrip_role role
  refine ⟨fun j hj hasStrip => stripCurrent_modStrip_other hj (h.others j hj hasStrip), fun j k g hj hk rj rk => ?_, fun g hg => ?_, ?_⟩
  · rw [roles] at rj rk
    exact h.single j k g hj hk rj rk
  · rw [modStrip_group] at hg
    obtain ⟨j, hj, hasStrip, rj⟩ := h.backed g hg
    exact ⟨j, hj, hasStrip, (roles j).trans rj⟩
  · rw [modStrip_group]
    exact h.ascending

/-- A changed role takes the strip out of its old group's place and into its new one's (R34). -/
theorem stripsTuned_changeRole {s : State} {i : Fin 64} {f : Strip → Strip} (hi : s.hasStrip i = true) (h : StripsTuned s)
    (changed : s.strips[i].role ≠ (f s.strips[i]).role)
    (fresh : ∀ g, (f s.strips[i]).role = .groupMaster g → ∀ j : Fin 64, j ≠ i → s.hasStrip j = true →
      s.strips[j].role ≠ .groupMaster g) : StripsTuned (changeRole i s.strips[i].role (modStrip i f s)) := by
  have ascending := ((stripsTuned_iff s).mp h).2.ascending
  have ownRole : (modStrip i f s).strips[i].role = (f s.strips[i]).role := by rw [modStrip_self]
  unfold changeRole
  cases before : s.strips[i].role with
  | audio =>
    have but : TunedBut i (modStrip i f s) := by
      refine tunedBut_of_roleWritten hi h rfl (fun j hj => modStrip_other hj f s) (by rw [modStrip_group]) (by rw [modStrip_group])
        (fun k _ => by rw [modStrip_group]) (fun k hk => ⟨fun r => ?_, by rwa [modStrip_group] at hk⟩)
        (by rwa [modStrip_group]) (fun g rg => fresh g (ownRole.symm.trans rg))
      cases before.symm.trans r
    dsimp only
    split
    · next role => exact absurd (before.trans (role.symm.trans ownRole)) changed
    · next g role => exact but.becomeMaster hi role
  | groupMaster g =>
    have but : TunedBut i (ceaseMaster g (modStrip i f s)) := by
      refine tunedBut_of_roleWritten hi h rfl (fun j hj => modStrip_other hj f s) (by rw [ceaseMaster, modStrip_group]; rfl)
        (by rw [ceaseMaster, modStrip_group]; rfl) (fun k ne => ?_) (fun k hk => ?_) ?_ (fun k rk => fresh k (ownRole.symm.trans rk))
      · rw [master_ceaseMaster _ fun e => ne (by rw [before, e]), modStrip_group]
      · obtain ⟨ne, mem⟩ := mem_groups_ceaseMaster.mp hk
        rw [modStrip_group] at mem
        refine ⟨fun r => ne ?_, mem⟩
        simpa using (before.symm.trans r).symm
      · rw [ceaseMaster, State.setGroup_group, modStrip_group]
        exact ascending.sublist (List.filter_sublist.map _)
    have hasStrip : (ceaseMaster g (modStrip i f s)).hasStrip i = true := hi
    dsimp only
    generalize ceaseMaster g (modStrip i f s) = u at but hasStrip ⊢
    have evaluated := but.modStrip (f := Strip.retune u.group.table u.group.soloLevel) rfl
    split
    · next role =>
      rw [modStrip_self] at role
      refine evaluated.evaluated (stripCurrent_of_retune (st := u.strips[i]) role ?_)
      rw [modStrip_self, modStrip_group]
    · next h role => exact evaluated.becomeMaster hasStrip role

end Sys2Proof.Machine
end

section
/-! The work of the journal, the automation engine, the surface port and the group line between two boundaries: each operation moves no
gain, and keeps ramps safe, codes in range and the part tuned. -/

namespace Sys2Proof.Machine

/-! ### Work that touches nothing of this -/

/-- The part is tuned by its straps, the tuning of its strips, and the table, the solo level and the masters of the group line. -/
theorem StripsTuned.congr {s t : State} (straps : t.straps = s.straps) (strips : ∀ i : Fin 64, s.strips[i].SameTuning t.strips[i])
    (table : t.group.table = s.group.table) (solo : t.group.soloLevel = s.group.soloLevel)
    (mastered : t.group.mastered = s.group.mastered) (h : StripsTuned s) : StripsTuned t := by
  rw [stripsTuned_iff] at h ⊢
  refine ⟨fun i hi => ?_, h.2.congr straps (fun i => (strips i).role) (by rw [mastered])⟩
  rw [hasStrip_of_straps straps] at hi
  refine StripCurrent.congr (strips i) (fun _ _ _ => by rw [table]) (fun _ _ _ => by rw [table]) solo (fun g _ => ?_) (h.1 i hi)
  rw [GroupLine.master, GroupLine.master, mastered]

/-- Nothing changes that a gain, a code or the tune of the part is a matter of. -/
structure Quiet (s t : State) : Prop where
  straps : t.straps = s.straps
  strips : t.strips = s.strips
  premix : t.summer.premix = s.summer.premix
  table : t.group.table = s.group.table
  solo : t.group.soloLevel = s.group.soloLevel
  mastered : t.group.mastered = s.group.mastered
  auto : t.playback.strips = s.playback.strips
  journal : t.pass.journal = s.pass.journal
  faders : t.surface.faders = s.surface.faders

theorem Quiet.kept {s t : State} (h : Quiet s t) : Kept s t := by
  refine ⟨⟨h.straps, fun i => by rw [h.strips]; exact .refl _, fun p => by rw [h.premix]; exact .refl _, ?_⟩, ?_⟩
  · exact CodesInRange.congr (fun i => by rw [h.strips]; exact id) h.auto h.journal h.faders
  · exact StripsTuned.congr h.straps (fun i => by rw [h.strips]; exact .refl _) h.table h.solo h.mastered

/-! ### The four places of codes -/

theorem CodesInRange.strip {s : State} (h : CodesInRange s) (i : Fin 64) : s.strips[i].inRange := h.1 i
theorem CodesInRange.auto {s : State} (h : CodesInRange s) (i : Fin 64) : s.playback.strips[i].inRange := h.2.1 i
theorem CodesInRange.record {s : State} (h : CodesInRange s) {r : Record} (hr : r ∈ s.pass.journal) : r.code ≤ 1020 := h.2.2.1 r hr
theorem CodesInRange.fader {s : State} (h : CodesInRange s) (i : Fin 64) : s.surface.faders[i].lastCode ≤ 1020 := h.2.2.2 i

theorem AutoStrip.inRange.readLevel {a : AutoStrip} (h : a.inRange) {code : Nat} (read : a.readLevel = some code) : code ≤ 1020 :=
  h.1 code read

/-- A change of the pass record alone. -/
theorem kept_setPass {s : State} {v : Pass} (journal : CodesInRange s → ∀ r ∈ v.journal, r.code ≤ 1020) : Kept s (s.setPass v) := by
  refine ⟨(journalFrame_setPass s v).steady fun h => ?_, StripsTuned.congr rfl (fun _ => .refl _) rfl rfl rfl⟩
  exact ⟨h.strip, h.auto, journal h, h.fader⟩

theorem kept_setPass_same {s : State} {v : Pass} (journal : v.journal = s.pass.journal) : Kept s (s.setPass v) :=
  kept_setPass fun h _ hr => h.record (journal ▸ hr)

/-- A change of the playback record alone. -/
theorem kept_setPlayback {s : State} {v : Playback} (codes : CodesInRange s → ∀ i : Fin 64, v.strips[i].inRange) :
    Kept s (s.setPlayback v) := by
  refine ⟨⟨rfl, fun _ => .refl _, fun _ => .refl _, fun h => ?_⟩, StripsTuned.congr rfl (fun _ => .refl _) rfl rfl rfl⟩
  exact ⟨h.strip, codes h, fun _ hr => h.record hr, h.fader⟩

theorem kept_setPlayback_same {s : State} {v : Playback} (strips : v.strips = s.playback.strips) : Kept s (s.setPlayback v) :=
  kept_setPlayback fun h i => by rw [strips]; exact h.auto i

/-- A change of the surface port alone. -/
theorem kept_setSurface {s : State} {v : Surface} (codes : CodesInRange s → ∀ i : Fin 64, v.faders[i].lastCode ≤ 1020) :
    Kept s (s.setSurface v) := by
  refine ⟨⟨rfl, fun _ => .refl _, fun _ => .refl _, fun h => ?_⟩, StripsTuned.congr rfl (fun _ => .refl _) rfl rfl rfl⟩
  exact ⟨h.strip, h.auto, fun _ hr => h.record hr, codes h⟩

theorem kept_setSurface_same {s : State} {v : Surface} (faders : v.faders = s.surface.faders) : Kept s (s.setSurface v) :=
  kept_setSurface fun h i => by rw [faders]; exact h.fader i

theorem kept_modAuto {i : Fin 64} {f : AutoStrip → AutoStrip} {s : State}
    (codes : CodesInRange s → (f s.playback.strips[i]).inRange) : Kept s (modAuto i f s) := by
  refine kept_setPlayback fun h j => ?_
  rw [set_get]
  split
  · exact codes h
  · exact h.auto j

theorem kept_modFader {i : Fin 64} {f : Fader → Fader} {s : State}
    (codes : CodesInRange s → (f s.surface.faders[i]).lastCode ≤ 1020) : Kept s (modFader i f s) := by
  refine kept_setSurface fun h j => ?_
  rw [set_get]
  split
  · exact codes h
  · exact h.fader j

theorem kept_raise (c : Cause) (s : State) : Kept s (raise c s) := (tuneFrame_raise c s).kept

theorem Kept.then {s t u : State} {i : Fin 64} (hi : s.hasStrip i = true) (h : Kept s t) (k : t.hasStrip i = true → Kept t u) :
    Kept s u := h.trans (k (h.hasStrip hi))

/-! ### The journal -/

theorem Strip.inRange.deskCode {st : Strip} (h : st.inRange) : st.deskCode ≤ 1020 := by
  obtain ⟨-, -, static, live, -⟩ := h
  unfold Strip.deskCode
  split
  · exact live
  · exact static

theorem deskValue_code_le {s : State} (h : CodesInRange s) (i : Fin 64) (kind : Kind) : (s.deskValue i kind).code ≤ 1020 := by
  cases kind with
  | level => exact (h.strip i).deskCode
  | cut => exact Nat.zero_le _

theorem kept_refuseRecord (s : State) : Kept s (refuseRecord s) :=
  (kept_setPass_same (s := s) (v := { s.pass with incomplete := true }) rfl).trans (kept_raise _ _)

theorem kept_appendRecord {r : Record} {s : State} (code : CodesInRange s → r.code ≤ 1020) : Kept s (appendRecord r s) := by
  refine kept_setPass fun h x hx => ?_
  rcases List.mem_append.mp hx with hx | hx
  · exact h.record hx
  · obtain rfl := List.mem_singleton.mp hx
    exact code h

theorem kept_modPunches (i : Fin 64) (f : Punches → Punches) (s : State) : Kept s (modPunches i f s) := kept_setPass_same rfl

theorem kept_offerMove {i : Fin 64} {position : Nat} {v : MoveValue} {s : State} (code : CodesInRange s → v.code ≤ 1020) :
    Kept s (offerMove i position v s) := by
  unfold offerMove
  split
  · exact (kept_appendRecord (r := .move i position v) code).trans (kept_modPunches _ _ _)
  · exact kept_refuseRecord s

theorem kept_openPunch (i : Fin 64) (kind : Kind) (position : Nat) (s : State) :
    Kept s (modPunches i (Punches.start kind) (appendRecord (.punchIn i kind position) s)) :=
  (kept_appendRecord fun _ => Nat.zero_le _).trans (kept_modPunches _ _ _)

theorem kept_punchOut (i : Fin 64) (kind : Kind) (position : Nat) (s : State) : Kept s (punchOut i kind position s) :=
  (kept_appendRecord fun _ => Nat.zero_le _).trans (kept_modPunches _ _ _)

/-- The opening of a punch leaves the value the desk offers. -/
theorem deskValue_openPunch (i j : Fin 64) (kind kind' : Kind) (position : Nat) (s : State) :
    (modPunches i (Punches.start kind) (appendRecord (.punchIn i kind position) s)).deskValue j kind' = s.deskValue j kind' := by
  cases kind' <;> rfl

theorem kept_punchIn (i : Fin 64) (kind : Kind) (position : Nat) (s : State) : Kept s (punchIn i kind position s) := by
  unfold punchIn
  split
  · unfold offerPunchIn
    split
    · refine (kept_openPunch i kind position s).trans (kept_offerMove fun h => ?_)
      rw [← deskValue_openPunch i i kind kind position s]
      exact deskValue_code_le h i kind
    · exact kept_refuseRecord s
  · exact .refl s

theorem kept_punchInAll (position : Nat) (s : State) : Kept s (punchInAll position s) :=
  forStrips_kept (fun _ _ _ => (kept_punchIn _ _ _ _).trans (kept_punchIn _ _ _ _)) s

theorem kept_closePunch (i : Fin 64) (kind : Kind) (position : Nat) (s : State) : Kept s (closePunch i kind position s) := by
  unfold closePunch
  split
  · refine Kept.trans ?_ (kept_punchOut _ _ _ _)
    exact (Kept.refl s).whenDone (kept_offerMove fun h => deskValue_code_le h i kind)
  · exact .refl s

theorem kept_closePunches (i : Fin 64) (position : Nat) (s : State) : Kept s (closePunches i position s) :=
  (kept_closePunch _ _ _ _).trans (kept_closePunch _ _ _ _)

theorem kept_closeAllPunches (position : Nat) (s : State) : Kept s (closeAllPunches position s) :=
  forStrips_kept (fun _ _ _ => kept_closePunches _ _ _) s

theorem kept_recordGlideStart {i : Fin 64} {position code : Nat} {s : State} (range : CodesInRange s → code ≤ 1020) :
    Kept s (recordGlideStart i position code s) := by
  unfold recordGlideStart
  split
  · exact kept_offerMove range
  · exact .refl s

theorem kept_recordGlideEnd (i : Fin 64) (position : Nat) (s : State) : Kept s (recordGlideEnd i position s) := by
  unfold recordGlideEnd
  split
  · exact kept_punchOut _ _ _ _
  · exact .refl s

theorem kept_recordStep (i : Fin 64) (kind : Kind) (s : State) : Kept s (recordStep i kind s) := by
  unfold recordStep
  dsimp only
  split
  · exact kept_offerMove fun h => deskValue_code_le h i kind
  · exact .refl s

/-! ### What is handed to a strip -/

/-- Two strip records agree but for what the automation engine and the surface port hand to the strip. -/
def Strip.SameHeld (a b : Strip) : Prop :=
  b = { a with
    liveCode := b.liveCode, present := b.present, levelSource := b.levelSource, storeLevel := b.storeLevel
    cutSource := b.cutSource, storeCut := b.storeCut }

theorem Strip.SameHeld.role {a b : Strip} (h : a.SameHeld b) : b.role = a.role := by rw [h]

theorem Strip.SameHeld.gainsKept {a b : Strip} (h : a.SameHeld b) : a.GainsKept b := by
  rw [h]
  exact ⟨rfl, rfl, id⟩

theorem Strip.SameHeld.inRange {a b : Strip} (h : a.SameHeld b) (k : a.inRange) (live : b.liveCode ≤ 1020)
    (store : b.storeLevel ≤ 1020) : b.inRange := by
  obtain ⟨trim, glide, static, -, -, rest⟩ := k
  rw [h]
  exact ⟨trim, glide, static, live, store, rest⟩

/-- A strip is handed new values and evaluated. -/
theorem kept_hand {i : Fin 64} {f : Strip → Strip} {s : State} (hi : s.hasStrip i = true)
    (held : s.strips[i].SameHeld (f s.strips[i])) (live : CodesInRange s → (f s.strips[i]).liveCode ≤ 1020)
    (store : CodesInRange s → (f s.strips[i]).storeLevel ≤ 1020) : Kept s (evalStrip i (modStrip i f s)) :=
  kept_handed hi held.role held.gainsKept fun h => held.inRange (h.strip i) (live h) (store h)

theorem Strip.sameHeld_takeLevel (a : AutoStrip) (st : Strip) : st.SameHeld (st.takeLevel a) := by
  unfold Strip.takeLevel Strip.followLevel
  repeat' split
  all_goals rfl

theorem Strip.sameHeld_takeCut (a : AutoStrip) (st : Strip) : st.SameHeld (st.takeCut a) := by
  unfold Strip.takeCut Strip.followCut
  dsimp only
  repeat' split
  all_goals rfl

theorem Strip.takeLevel_liveCode (a : AutoStrip) (st : Strip) : (st.takeLevel a).liveCode = st.liveCode := by
  unfold Strip.takeLevel Strip.followLevel
  repeat' split
  all_goals rfl

/-- The level of a strip is handed the read level or left as it was (R144). -/
theorem Strip.takeLevel_storeLevel (a : AutoStrip) (st : Strip) :
    (st.takeLevel a).storeLevel = st.storeLevel ∨ a.readLevel = some (st.takeLevel a).storeLevel := by
  have follow : (st.followLevel a).storeLevel = st.storeLevel ∨ a.readLevel = some (st.followLevel a).storeLevel := by
    unfold Strip.followLevel
    split
    · next h => exact .inr h
    · exact .inl rfl
  unfold Strip.takeLevel
  split <;> first | exact follow | exact .inl rfl

theorem Strip.takeCut_codes (a : AutoStrip) (st : Strip) :
    (st.takeCut a).liveCode = st.liveCode ∧ (st.takeCut a).storeLevel = st.storeLevel := by
  unfold Strip.takeCut Strip.followCut
  dsimp only
  repeat' split
  all_goals exact ⟨rfl, rfl⟩

theorem Strip.inRange.liveCode {st : Strip} (h : st.inRange) : st.liveCode ≤ 1020 := by
  obtain ⟨-, -, -, live, -⟩ := h
  exact live

theorem Strip.inRange.storeLevel {st : Strip} (h : st.inRange) : st.storeLevel ≤ 1020 := by
  obtain ⟨-, -, -, -, store, -⟩ := h
  exact store

theorem kept_handLevel {i : Fin 64} {s : State} (hi : s.hasStrip i = true) : Kept s (handLevel i s) := by
  refine kept_hand hi (Strip.sameHeld_takeLevel _ _) (fun h => ?_) (fun h => ?_)
  · rw [Strip.takeLevel_liveCode]
    exact (h.strip i).liveCode
  · rcases Strip.takeLevel_storeLevel s.playback.strips[i] s.strips[i] with e | e
    · rw [e]
      exact (h.strip i).storeLevel
    · exact (h.auto i).readLevel e

theorem kept_handCut {i : Fin 64} {s : State} (hi : s.hasStrip i = true) : Kept s (handCut i s) := by
  obtain ⟨live, store⟩ := Strip.takeCut_codes s.playback.strips[i] s.strips[i]
  exact kept_hand hi (Strip.sameHeld_takeCut _ _) (fun h => live ▸ (h.strip i).liveCode) (fun h => store ▸ (h.strip i).storeLevel)

theorem kept_handValues {i : Fin 64} {s : State} (hi : s.hasStrip i = true) : Kept s (handValues i s) :=
  (kept_handLevel hi).then hi kept_handCut

theorem kept_handGlideCode {i : Fin 64} {code : Nat} {s : State} (hi : s.hasStrip i = true)
    (range : CodesInRange s → code ≤ 1020) : Kept s (handGlideCode i code s) :=
  kept_hand hi rfl (fun h => (h.strip i).liveCode) range

/-! ### Readings and glides (R141, R145) -/

theorem interpolate_le (a b num den : Nat) : interpolate a b num den ≤ 1020 := clampCode_le _

theorem readLevelAt_le {moves : List LevelMove} (codes : ∀ m ∈ moves, m.code ≤ 1020) {position : Nat} {r : Nat × Bool}
    (h : readLevelAt moves position = some r) : r.1 ≤ 1020 := by
  unfold readLevelAt at h
  split at h
  · cases h
  · next first rest =>
    split at h
    · obtain rfl := Option.some.inj h
      exact codes first List.mem_cons_self
    · next m hm =>
      have mem : m ∈ first :: rest := (List.mem_filter.mp (List.mem_of_getLast? hm)).1
      split at h
      · obtain rfl := Option.some.inj h
        exact codes m mem
      · split at h
        · obtain rfl := Option.some.inj h
          exact interpolate_le _ _ _ _
        · obtain rfl := Option.some.inj h
          exact codes m mem

theorem AutoStrip.inRange_readAt {a : AutoStrip} (h : a.inRange) (position : Nat) : (a.readAt position).inRange := by
  obtain ⟨-, rest⟩ := h
  refine ⟨fun code read => ?_, rest⟩
  obtain ⟨r, hr, rfl⟩ := Option.map_eq_some_iff.mp read
  exact readLevelAt_le rest.2.2.2.2 hr

/-- A phase other than GLIDE asks nothing of a glide's step (R143). -/
theorem AutoStrip.inRange_leaveGlide {a : AutoStrip} (h : a.inRange) {phase : Phase} (ne : phase ≠ .glide) (touched cutLive : Bool) :
    ({ a with phase := phase, touched := touched, cutLive := cutLive } : AutoStrip).inRange := by
  obtain ⟨read, start, length, step, -, moves⟩ := h
  exact ⟨read, start, length, step, fun e => absurd e ne, moves⟩

theorem kept_readStrip (i : Fin 64) (s : State) : Kept s (readStrip i s) :=
  kept_modAuto fun h => AutoStrip.inRange_readAt (h.auto i) _

theorem kept_touched (i : Fin 64) (touched : Bool) (s : State) : Kept s (modAuto i (fun a => { a with touched := touched }) s) :=
  kept_modAuto fun h => h.auto i

theorem kept_cutLive (i : Fin 64) (cutLive : Bool) (s : State) : Kept s (modAuto i (fun a => { a with cutLive := cutLive }) s) :=
  kept_modAuto fun h => h.auto i

theorem kept_leaveGlide (i : Fin 64) {phase : Phase} (ne : phase ≠ .glide) (s : State) :
    Kept s (modAuto i (fun a => { a with phase := phase }) s) :=
  kept_modAuto fun h => AutoStrip.inRange_leaveGlide (h.auto i) ne _ _

theorem kept_returnLevel {i : Fin 64} {s : State} (hi : s.hasStrip i = true) : Kept s (returnLevel i s) := by
  unfold returnLevel
  dsimp only
  split
  · next glides =>
    have steps : 0 < s.strips[i].glideSteps := by
      simp only [Bool.and_eq_true, decide_eq_true_eq] at glides
      exact glides.2
    refine Kept.then hi (kept_modAuto fun h => ?_) fun hi' => kept_handGlideCode hi' fun h => (h.strip i).deskCode
    obtain ⟨read, -, -, -, -, moves⟩ := h.auto i
    obtain ⟨-, length, -⟩ := h.strip i
    exact ⟨read, (h.strip i).deskCode, length, Nat.zero_le _, fun _ => steps, moves⟩
  · exact (kept_leaveGlide i (by decide) s).then hi kept_handLevel

theorem glideCode_le {a : AutoStrip} {b step : Nat} (range : b ≤ 1020) : glideCode a b step ≤ 1020 := by
  unfold glideCode
  split
  · exact range
  · exact interpolate_le _ _ _ _

theorem kept_advanceGlide {i : Fin 64} {s : State} (hi : s.hasStrip i = true) : Kept s (advanceGlide i s) := by
  unfold advanceGlide
  dsimp only
  split
  · exact .refl s
  · next gliding =>
    have phase : s.playback.strips[i].phase = .glide := by simpa using gliding
    split
    · exact (kept_leaveGlide i (by decide) s).then hi kept_handLevel
    · next b read =>
      refine Kept.then hi (kept_modAuto fun h => ?_) fun hi' => kept_handGlideCode hi' fun h => glideCode_le ?_
      · obtain ⟨level, start, length, -, below, moves⟩ := h.auto i
        have step := below phase
        refine ⟨level, start, length, step, fun e => ?_, moves⟩
        simp only at e ⊢
        split at e
        · cases e
        · omega
      · refine (h.auto i).readLevel (code := b) ?_
        simp only [modAuto, State.setPlayback_playback, set_get, if_true]
        exact read

/-! ### Touches, releases, cuts and modes (R146 to R148) -/

theorem kept_goLive {i : Fin 64} {s : State} (hi : s.hasStrip i = true) : Kept s (goLive i s) :=
  (kept_leaveGlide i (by decide) s).then hi kept_handLevel

theorem kept_touchStrip {i : Fin 64} {s : State} (hi : s.hasStrip i = true) : Kept s (touchStrip i s) := by
  unfold touchStrip
  dsimp only
  have touched := kept_touched i true s
  exact touched.whenDone ((kept_goLive (touched.hasStrip hi)).trans (kept_punchIn _ _ _ _))

/-- A strip is read, returns to the store, and is handed its cut. -/
theorem kept_returnToStore {i : Fin 64} {s : State} (hi : s.hasStrip i = true) :
    Kept s (handCut i (returnLevel i (readStrip i s))) :=
  ((kept_readStrip i s).then hi kept_returnLevel).then hi kept_handCut

theorem kept_releaseStrip {i : Fin 64} {s : State} (hi : s.hasStrip i = true) : Kept s (releaseStrip i s) := by
  unfold releaseStrip
  dsimp only
  have touched := kept_touched i false s
  have hi' := touched.hasStrip hi
  refine touched.unlessDone ?_
  generalize modAuto i (fun a => { a with touched := false }) s = t at hi' ⊢
  split
  · exact (kept_leaveGlide i (by decide) t).then hi' kept_handLevel
  · have returned := kept_returnToStore hi'
    split
    · exact returned.whenDone (kept_recordGlideStart fun h => (h.auto i).2.1)
    · exact returned.trans (kept_closePunch _ _ _ _)

theorem kept_changeCut {i : Fin 64} {s : State} (hi : s.hasStrip i = true) : Kept s (changeCut i s) := by
  unfold changeCut
  dsimp only
  split
  · exact ((kept_cutLive i true s).then hi kept_handCut).whenDone (kept_punchIn _ _ _ _)
  · exact kept_evalStrip hi

theorem kept_changeMode {i : Fin 64} {s : State} (hi : s.hasStrip i = true) : Kept s (changeMode i s) := by
  unfold changeMode
  dsimp only
  refine Kept.trans ?_ (kept_punchIn _ _ _ _)
  refine Kept.trans ?_ (kept_punchIn _ _ _ _)
  refine Kept.then hi ?_ kept_handValues
  have closed := kept_closePunches i s.playback.position s
  have reset : Kept (closePunches i s.playback.position s)
      (modAuto i (fun a => { a with phase := .follow, cutLive := false }) (closePunches i s.playback.position s)) :=
    kept_modAuto fun h => AutoStrip.inRange_leaveGlide (h.auto i) (by decide) _ _
  exact ((closed.trans reset).whenDone (kept_readStrip _ _)).whenDone (kept_leaveGlide i (by decide) _)

/-! ### Transport and pass events (R137, R149, R154, R155) -/

theorem kept_endLive {i : Fin 64} {s : State} (hi : s.hasStrip i = true) : Kept s (endLive i s) := by
  unfold endLive
  dsimp only
  have returned := (Kept.refl s).whenDone (c := (s.playback.strips[i].phase == .latched) = true) (kept_returnToStore hi)
  exact returned.whenDone ((kept_cutLive i false _).then (returned.hasStrip hi) kept_handCut)

theorem kept_stopPlay (s : State) : Kept s (stopPlay s) :=
  (forStrips_kept (fun _ _ => kept_endLive) s).trans (kept_closeAllPunches _ _)

theorem kept_jumpTo (position : Nat) (s : State) : Kept s (jumpTo position s) := by
  refine ((kept_setPlayback fun h i => ?_).trans (kept_closeAllPunches _ _)).trans (kept_punchInAll _ _)
  rw [mapFin_get]
  split
  · exact AutoStrip.inRange_leaveGlide (h.auto i) (by decide) _ _
  · exact h.auto i

theorem kept_adopt (position : Nat) (transport : Transport) (s : State) : Kept s (adopt position transport s) :=
  kept_setPlayback_same rfl

theorem kept_takePosition (position : Nat) (transport : Transport) (s : State) : Kept s (takePosition position transport s) := by
  unfold takePosition
  split
  · dsimp only
    split
    · exact kept_adopt _ _ _
    · exact kept_jumpTo _ _
  · exact (kept_stopPlay s).trans (kept_adopt _ _ _)
  · exact (kept_adopt _ _ _).trans (kept_punchInAll _ _)
  · exact kept_adopt _ _ _

theorem kept_missPass (n : Nat) (s : State) : Kept s (raise .passMissed (s.setPass { s.pass with missed := some n })) :=
  (kept_setPass_same (s := s) (v := { s.pass with missed := some n }) rfl).trans (kept_raise _ _)

theorem kept_takePassOpen (n : Nat) (s : State) : Kept s (takePassOpen n s) := by
  unfold takePassOpen
  split
  · have opened : Kept s (s.setPass { s.pass with state := .recording, number := some n, incomplete := false }) :=
      kept_setPass_same rfl
    exact opened.trans (kept_punchInAll _ _)
  · split
    · exact .refl s
    · exact kept_missPass n s
  · exact kept_missPass n s
  · exact kept_missPass n s

theorem kept_takePassClose (n : Nat) (s : State) : Kept s (takePassClose n s) := by
  unfold takePassClose
  split
  · have closed := kept_closeAllPunches s.playback.position s
    dsimp only
    generalize closeAllPunches s.playback.position s = t at closed ⊢
    have reviewed : Kept t (t.setPass { t.pass with state := .review }) := kept_setPass_same rfl
    exact (closed.trans reviewed).trans (forStrips_kept (fun _ _ => kept_endLive) _)
  · exact .refl s

theorem kept_handMessage (m : Message) (s : State) : Kept s (handMessage m s) := by
  unfold handMessage
  split
  · exact kept_takePassOpen _ _
  · exact kept_takePassClose _ _
  · split
    · exact (tuneFrame_takeGroup _ _ _ _ _).kept
    · exact .refl s
  · split
    · exact (tuneFrame_takeGroup _ _ _ _ _).kept
    · exact .refl s

theorem kept_judgeMessage (bits : BitVec 38) (s : State) : Kept s (judgeMessage bits s) := by
  unfold judgeMessage
  refine (tuneFrame_seek s).kept.trans ?_
  dsimp only
  generalize seek s = t
  split
  · exact (tuneFrame_lineError t).kept
  · have counted : TuneFrame t (t.setGroup { t.group with taken := count16 t.group.taken 1 }) := tuneFrame_setQueue rfl rfl rfl
    exact counted.kept.trans (kept_handMessage _ _)

theorem kept_messageEndWork (bits : BitVec 38) (s : State) : Kept s (messageEndWork bits s) := by
  unfold messageEndWork
  split
  · exact .refl s
  · exact .refl s
  · split
    · exact kept_judgeMessage bits s
    · dsimp only
      split
      · have settled : TuneFrame s (s.setGroup s.group.settle) := tuneFrame_setQueue rfl rfl rfl
        exact settled.kept.trans (kept_judgeMessage _ _)
      · split
        · exact (tuneFrame_loseArbitration s).kept.trans (kept_judgeMessage _ _)
        · exact (tuneFrame_meetFault s).kept

/-! ### The automation step (R142) -/

theorem kept_stepRead {i : Fin 64} {s : State} (hi : s.hasStrip i = true) : Kept s (stepRead i s) := by
  unfold stepRead
  split
  · exact (kept_readStrip i s).then hi kept_handValues
  · exact .refl s

theorem kept_stepRecord (before : State) (i : Fin 64) (s : State) : Kept s (stepRecord before i s) := by
  unfold stepRecord
  dsimp only
  refine Kept.trans ?_ ((kept_recordStep _ _ _).trans (kept_recordStep _ _ _))
  exact (Kept.refl s).whenDone (kept_recordGlideEnd _ _ _)

theorem kept_automationStepWork (s : State) : Kept s (automationStepWork s) := by
  unfold automationStepWork
  dsimp only
  refine Kept.trans ?_ (tuneFrame_enqueueOffsets _).kept
  refine Kept.trans ?_ (forStrips_kept (fun i t _ => kept_stepRecord _ i t) _)
  exact (forStrips_kept (fun _ _ => kept_stepRead) s).trans (forStrips_kept (fun _ _ => kept_advanceGlide) _)

/-! ### The surface port (chapter 8) -/

theorem kept_takeCode {i : Fin 64} (raw : Nat) {s : State} (hi : s.hasStrip i = true) : Kept s (takeCode i raw s) := by
  unfold takeCode
  dsimp only
  split
  · generalize hc : s.surface.faders[i].codeOf raw = code
    have range : code ≤ 1020 := hc ▸ clampCode_le _
    have accepted : Kept s (modFader i (fun f => { f with lastCode := code, acceptNext := false }) s) := kept_modFader fun _ => range
    exact accepted.then hi fun hi' => kept_hand hi' rfl (fun _ => range) (fun h => (h.strip i).storeLevel)
  · exact .refl s

theorem Fader.judge_lastCode (delta : Nat) (f : Fader) : (f.judge delta).1.lastCode = f.lastCode := by
  unfold Fader.judge
  repeat' split
  all_goals rfl

theorem Fader.drift_lastCode (baseline count : Nat) (f : Fader) : (f.drift baseline count).lastCode = f.lastCode := by
  unfold Fader.drift
  repeat' split
  all_goals rfl

theorem Fader.sense_lastCode (count : Nat) (f : Fader) : (f.sense count).1.lastCode = f.lastCode := by
  unfold Fader.sense
  split
  · rfl
  · next held _ =>
    have drifted := Fader.drift_lastCode (max held count) count
      (Fader.judge (max held count - count) { f with baseline := some (max held count) }).1
    rw [Fader.judge_lastCode] at drifted
    dsimp only
    split
    · exact drifted
    · exact drifted

theorem kept_handTouch {i : Fin 64} (e : TouchEvent) {s : State} (hi : s.hasStrip i = true) : Kept s (handTouch i e s) := by
  cases e with
  | none => exact .refl s
  | touch => exact kept_touchStrip hi
  | release => exact kept_releaseStrip hi
  | stuck => exact (kept_releaseStrip hi).trans (kept_raise _ _)

theorem kept_takeTouch {i : Fin 64} (count : Nat) {s : State} (hi : s.hasStrip i = true) : Kept s (takeTouch i count s) := by
  have sensed : Kept s (modFader i (fun _ => (s.surface.faders[i].sense count).1) s) :=
    kept_modFader fun h => (Fader.sense_lastCode _ _).symm ▸ h.fader i
  exact sensed.then hi (kept_handTouch _)

theorem kept_setPresence {i : Fin 64} (present : Bool) {s : State} (hi : s.hasStrip i = true) : Kept s (setPresence i present s) := by
  have noted : Kept s (modFader i (fun f => { f with present := present }) s) := kept_modFader fun h => h.fader i
  refine noted.then hi fun hi' => ?_
  exact kept_hand hi' rfl (fun h => (h.strip i).liveCode) (fun h => (h.strip i).storeLevel)

theorem kept_losePresence {i : Fin 64} {s : State} (hi : s.hasStrip i = true) : Kept s (losePresence i s) := by
  unfold losePresence
  dsimp only
  have lost : Kept s (modFader i (fun f => { f.settle false with acceptNext := true, baseline := none }) (setPresence i false s)) :=
    (kept_setPresence false hi).trans (kept_modFader fun h => h.fader i)
  exact lost.whenDone (kept_releaseStrip (lost.hasStrip hi))

theorem kept_takeFader (readings : List Reading) {i : Fin 64} {s : State} (hi : s.hasStrip i = true) :
    Kept s (takeFader readings i s) := by
  unfold takeFader
  split
  · next r _ =>
    dsimp only
    have present := (Kept.refl s).unlessDone (c := s.surface.faders[i].present = true) (kept_setPresence true hi)
    exact (present.then hi (kept_takeCode r.raw)).then hi (kept_takeTouch r.touch)
  · exact (Kept.refl s).whenDone (kept_losePresence hi)

theorem kept_takeScan (readings : List Reading) (s : State) : Kept s (takeScan readings s) := by
  have active : Kept s (s.setSurface { s.surface with link := .active, silence := 0 }) := kept_setSurface_same rfl
  unfold takeScan sendMotorReturn
  have taken := active.trans (forStrips_kept (fun _ _ => kept_takeFader readings) _)
  generalize forStrips (takeFader readings) _ = t at taken ⊢
  have sent (m : Option (List MotorEntry)) : Kept t (t.setSurface { t.surface with motorReturn := m }) := kept_setSurface_same rfl
  exact taken.trans (sent _)

theorem kept_scanWork (bytes : List Byte) (s : State) : Kept s (scanWork bytes s) := by
  unfold scanWork
  split
  · exact kept_setSurface_same rfl
  · exact kept_takeScan _ _

theorem kept_silenceExpiry (s : State) : Kept s (silenceExpiry s) := by
  unfold silenceExpiry
  split
  · exact kept_setSurface_same rfl
  · have silent : Kept s (s.setSurface { s.surface with link := .silent, silence := 0 }) := kept_setSurface_same rfl
    exact silent.trans (forStrips_kept (fun i t hi => (Kept.refl t).whenDone (kept_losePresence hi)) _)

end Sys2Proof.Machine
end

section
/-! The commands of the control port, the resets and ENGINE RESTART: what each keeps of gains, ramps, codes and the tune of the part. -/

namespace Sys2Proof.Machine

/-! ### The frames of the commands (R169, R170, R173) -/

theorem kept_respond (status : Status) (data : List Byte) (s : State) : Kept s (respond status data s) :=
  Quiet.kept ⟨rfl, rfl, rfl, rfl, rfl, rfl, rfl, rfl, rfl⟩

theorem Kept.responded {s t : State} (h : Kept s t) (status : Status) (data : List Byte) : Kept s (respond status data t) :=
  h.trans (kept_respond status data t)

theorem kept_onEvent {s t : State} {f : State → State} (k : Kept s (f s)) (h : onEvent s f = .next t) : Kept s t := by
  obtain rfl := Host.Outcome.next.inj h
  split
  · exact .refl s
  · exact k

theorem kept_onCommand {s t : State} {f : State → State} (k : Kept s (f s)) (h : onCommand s f = .next t) : Kept s t := by
  obtain rfl := Host.Outcome.next.inj h
  split
  · exact Quiet.kept ⟨rfl, rfl, rfl, rfl, rfl, rfl, rfl, rfl, rfl⟩
  · exact k

theorem kept_onBare {address : BitVec 16} {data : List Byte} {s t : State} {f : State → State} (k : Kept s (f s))
    (h : onBare address data s f = .next t) : Kept s t := by
  unfold onBare at h
  refine kept_onCommand ?_ h
  split
  · exact k
  · exact kept_respond _ _ s

theorem kept_onGlobal {α : Type} {address : BitVec 16} {d : Option α} {s t : State} {f : α → State → State}
    (k : ∀ v, Kept s (f v s)) (h : onGlobal address d s f = .next t) : Kept s t := by
  unfold onGlobal at h
  refine kept_onCommand ?_ h
  split
  · split
    · exact k _
    · exact kept_respond _ _ s
  · exact kept_respond _ _ s

theorem hasStrip_of_existing {s : State} {n : Nat} {i : Fin 64} (h : existing s n = some i) : s.hasStrip i = true := by
  unfold existing at h
  split at h
  · split at h
    · next hi => exact Option.some.inj h ▸ hi
    · cases h
  · cases h

theorem kept_onStrip {α : Type} {address : BitVec 16} {d : Option α} {s t : State} {f : Fin 64 → α → State → State}
    (k : ∀ i v, s.hasStrip i = true → d = some v → Kept s (f i v s)) (h : onStrip address d s f = .next t) : Kept s t := by
  unfold onStrip at h
  refine kept_onCommand ?_ h
  split
  · next i v hi => exact k i v (hasStrip_of_existing hi) rfl
  · exact kept_respond _ _ s

theorem kept_onEdit {α : Type} {address : BitVec 16} {d : Option α} {s t : State} {f : Fin 64 → α → State → State}
    (k : ∀ i v, Kept s (f i v s)) (h : onEdit address d s f = .next t) : Kept s t := by
  unfold onEdit at h
  refine kept_onCommand ?_ h
  split
  · exact kept_respond _ _ s
  · split
    · exact kept_respond _ _ s
    · split
      · exact k _ _
      · exact kept_respond _ _ s

/-! ### WRITE STRIP and WRITE SEND (R34 to R36) -/

theorem gainsKept_changeRole (i : Fin 64) (before : Role) (s : State) (j : Fin 64) :
    s.strips[j].GainsKept (changeRole i before s).strips[j] := by
  have entered (u : State) (h : s.strips[j].GainsKept u.strips[j]) (g : Fin 32) :
      s.strips[j].GainsKept (becomeMaster i g u).strips[j] := by
    have refreshed (v : GroupLine) : u.strips[j].GainsKept (refreshGroup g (u.setGroup v)).strips[j] :=
      (tuneFrame_refreshGroup g (u.setGroup v)).gains j
    exact h.trans (refreshed _)
  unfold changeRole
  cases before with
  | audio =>
    dsimp only
    split
    · exact .refl _
    · exact entered s (.refl _) _
  | groupMaster g =>
    have left := gainsKept_retuneOne i j (ceaseMaster g s)
    dsimp only
    split
    · exact left
    · exact entered _ left _

theorem steady_changeRole (i : Fin 64) (before : Role) (s : State) : Steady s (changeRole i before s) :=
  (lineFrame_changeRole i before s).steady (gainsKept_changeRole i before s)

theorem length_of_mapM_eq_some {α β : Type} {f : α → Option β} {l : List α} {r : List β} (h : l.mapM f = some r) :
    r.length = l.length := by
  induction l generalizing r with
  | nil =>
    obtain rfl : [] = r := by simpa using h
    rfl
  | cons a l ih =>
    rw [List.mapM_cons] at h
    obtain ⟨b, -, h⟩ := Option.bind_eq_some_iff.mp h
    obtain ⟨rest, hrest, h⟩ := Option.bind_eq_some_iff.mp h
    obtain rfl : b :: rest = r := by simpa using h
    rw [List.length_cons, ih hrest, List.length_cons]

theorem memberGroups_spec {count : Byte} {bytes : List Byte} {groups : List (Fin 32)} (h : memberGroups count bytes = some groups) :
    groups.length ≤ 4 ∧ groups.Nodup := by
  unfold memberGroups at h
  split at h
  · next few =>
    split at h
    · next l hl =>
      split at h
      · next nodup =>
        obtain rfl := Option.some.inj h
        exact ⟨by rw [length_of_mapM_eq_some hl, List.length_take]; omega, nodup⟩
      · cases h
    · cases h
  · cases h

theorem readStripData_groups {data : List Byte} {d : StripData} (h : readStripData data = some d) :
    d.groups.length ≤ 4 ∧ d.groups.Nodup := by
  unfold readStripData at h
  split at h
  · split at h
    · next groups _ _ _ hg _ =>
      obtain rfl := Option.some.inj h
      exact memberGroups_spec hg
    · cases h
  · cases h

theorem Strip.inRange_store {d : StripData} {st : Strip} (groups : d.groups.length ≤ 4 ∧ d.groups.Nodup) (h : st.inRange) :
    (st.store d).inRange := by
  obtain ⟨-, -, -, live, store, -, sends⟩ := h
  refine ⟨?_, min_le_left _ _, min_le_left _ _, live, store, groups, sends⟩
  simp only [Strip.store, storedTrim]
  omega

theorem steady_store {i : Fin 64} {d : StripData} (groups : d.groups.length ≤ 4 ∧ d.groups.Nodup) (s : State) :
    Steady s (modStrip i (Strip.store d) s) :=
  steady_modStrip ⟨rfl, rfl, id⟩ fun h => Strip.inRange_store groups (h.strip i)

/-- Where no field that the level and cut depend on is written anew, the strip is as tuned as before (R35). -/
theorem Strip.sameTuning_store {d : StripData} {st : Strip} (role : st.role = (st.store d).role)
    (cut : st.manualCut = (st.store d).manualCut) (inputs : st.inputsDiffer (st.store d) = false) : st.SameTuning (st.store d) := by
  simp only [Strip.inputsDiffer, Bool.or_eq_false_iff, bne_eq_false_iff_eq] at inputs
  obtain ⟨⟨⟨solo, safe⟩, groups⟩, static⟩ := inputs
  refine ⟨role.symm, rfl, rfl, ?_, ?_, groups.symm, solo.symm, safe.symm⟩
  · have desk : (st.store d).deskCode = st.deskCode := by
      unfold Strip.deskCode
      rw [← static]
      rfl
    unfold Strip.faderCode
    rw [desk]
    rfl
  · unfold Strip.modeCut
    rw [← cut]
    rfl

/-- A cut change brings a strip whose values may be out of date back into tune. -/
theorem TunedAround.changeCut {s : State} {i : Fin 64} (hi : s.hasStrip i = true) (h : TunedAround i s) :
    StripsTuned (changeCut i s) := by
  unfold Machine.changeCut
  dsimp only
  split
  · have live : TunedAround i (modAuto i (fun a => { a with cutLive := true }) s) :=
      TunedAround.congr (s := s) rfl rfl rfl h
    have handed : StripsTuned (handCut i (modAuto i (fun a => { a with cutLive := true }) s)) :=
      (live.modStrip (Strip.sameHeld_takeCut _ _).role).evalStrip hi
    split
    · exact (kept_punchIn _ _ _ _).tuned handed
    · exact handed
  · exact h.evalStrip hi

/-- The hand-ons of role, manual cut and inputs leave a tuned part (R35). -/
theorem kept_writeStripWork {i : Fin 64} {d : StripData} {s : State} (hi : s.hasStrip i = true)
    (groups : d.groups.length ≤ 4 ∧ d.groups.Nodup) (fresh : s.secondMaster i d.role = false) : Kept s (writeStripWork i d s) := by
  have stored : Steady s (modStrip i (Strip.store d) s) := steady_store groups s
  have own : (modStrip i (Strip.store d) s).strips[i] = s.strips[i].store d := modStrip_self _ _ _
  unfold writeStripWork
  dsimp only
  refine Kept.then hi ?_ fun hi' => (Kept.refl _).unlessDone (kept_changeMode hi')
  rw [own]
  by_cases role : s.strips[i].role = (s.strips[i].store d).role
  · rw [if_pos role]
    have around (h : StripsTuned s) : TunedAround i (modStrip i (Strip.store d) s) := (h.around hi).modStrip role.symm
    by_cases cut : s.strips[i].manualCut = (s.strips[i].store d).manualCut
    · rw [if_pos cut]
      by_cases inputs : s.strips[i].inputsDiffer (s.strips[i].store d) = true
      · rw [if_pos inputs]
        exact ⟨stored.trans (steady_evalStrip i _), fun h => (around h).evalStrip hi⟩
      · rw [if_neg inputs]
        refine ⟨stored, fun h => (around h).tuned ?_⟩
        have current := ((stripsTuned_iff s).mp h).1 i hi
        refine current.congr ?_ ?_ ?_ ?_ ?_
        · rw [own]
          exact Strip.sameTuning_store role cut (by simpa using inputs)
        all_goals simp only [modStrip_group, implies_true]
    · rw [if_neg cut]
      have changed : Kept s (changeCut i (modStrip i (Strip.store d) s)) :=
        ⟨stored.trans (kept_changeCut ((stored.hasStrip i).trans hi)).steady, fun h => (around h).changeCut hi⟩
      exact changed.whenDone (kept_evalStrip (changed.hasStrip hi))
  · rw [if_neg role]
    have single (g : Fin 32) (rg : d.role = .groupMaster g) (j : Fin 64) (ne : j ≠ i) (hj : s.hasStrip j = true) :
        s.strips[j].role ≠ .groupMaster g := by
      intro rj
      rw [rg] at fresh
      have := List.any_eq_false.mp fresh j (List.mem_finRange j)
      rw [hj, rj] at this
      simp [ne] at this
    have changed : Kept s (changeRole i s.strips[i].role (modStrip i (Strip.store d) s)) :=
      ⟨stored.trans (steady_changeRole i _ _), fun h => stripsTuned_changeRole hi h role single⟩
    have cut := changed.unlessDone (c := s.strips[i].manualCut = (s.strips[i].store d).manualCut) (kept_changeCut (changed.hasStrip hi))
    exact cut.whenDone (kept_evalStrip (cut.hasStrip hi))

theorem readSendData_code_le {data : List Byte} {d : Fin 4 × Send} (h : readSendData data = some d) : d.2.code ≤ 1020 := by
  unfold readSendData at h
  split at h
  · split at h
    · obtain rfl := Option.some.inj h
      exact min_le_left _ _
    · cases h
  · cases h

theorem kept_writeSend {i : Fin 64} {n : Fin 4} {send : Send} (range : send.code ≤ 1020) (s : State) :
    Kept s (modStrip i (fun st => { st with sends := st.sends.set n send }) s) := by
  refine ⟨steady_modStrip ⟨rfl, rfl, id⟩ fun h => ?_, ?_⟩
  · obtain ⟨trim, glide, static, live, store, groups, sends⟩ := h.strip i
    refine ⟨trim, glide, static, live, store, groups, fun k => ?_⟩
    simp only [set_get]
    split
    · exact range
    · exact sends k
  · refine StripsTuned.congr rfl (fun j => ?_) rfl rfl rfl
    rw [modStrip_get]
    split
    · exact ⟨rfl, rfl, rfl, rfl, rfl, rfl, rfl, rfl⟩
    · exact .refl _

/-! ### WRITE PREMIX (R83) -/

theorem kept_setSummer {s : State} {v : Summer} (premix : ∀ p : Fin 64, s.summer.premix[p].GainsKept v.premix[p]) :
    Kept s (s.setSummer v) :=
  ⟨⟨rfl, fun _ => .refl _, premix, CodesInRange.congr (fun _ => id) rfl rfl rfl⟩,
    StripsTuned.congr rfl (fun _ => .refl _) rfl rfl rfl⟩

theorem kept_setSummer_same {s : State} {v : Summer} (premix : v.premix = s.summer.premix) : Kept s (s.setSummer v) :=
  kept_setSummer fun p => by rw [premix]; exact .refl _

theorem kept_modPremix {p : Fin 64} {d : PremixData} (range : d.code ≤ 1020) (s : State) :
    Kept s (modPremix p (PremixMaster.store d) s) := by
  refine kept_setSummer fun q => ?_
  rw [set_get]
  split
  · next e => subst e; exact PremixMaster.gainsKept_store range _
  · exact .refl _

/-! ### The automation store (R138 to R140) -/

theorem mem_insertLevel {m x : LevelMove} {l : List LevelMove} (h : x ∈ insertLevel m l) : x = m ∨ x ∈ l := by
  fun_induction insertLevel m l <;> grind

theorem AutoStrip.inRange_setLists {a b : AutoStrip} (h : a.inRange)
    (same : b = { a with levelMoves := b.levelMoves, cutMoves := b.cutMoves }) (moves : ∀ m ∈ b.levelMoves, m.code ≤ 1020) :
    b.inRange := by
  obtain ⟨read, start, length, step, below, -⟩ := h
  rw [same]
  exact ⟨read, start, length, step, below, moves⟩

theorem AutoStrip.inRange.moves {a : AutoStrip} (h : a.inRange) {m : LevelMove} (hm : m ∈ a.levelMoves) : m.code ≤ 1020 := by
  obtain ⟨-, -, -, -, -, moves⟩ := h
  exact moves m hm

theorem AutoStrip.inRange_insert {a : AutoStrip} (h : a.inRange) (kind : Kind) (position value : Nat) (glide : Bool) :
    (a.insert kind position value glide).inRange := by
  cases kind with
  | level =>
    refine AutoStrip.inRange_setLists h rfl fun m hm => ?_
    rcases mem_insertLevel hm with rfl | hm
    · exact min_le_left _ _
    · exact h.moves hm
  | cut => exact AutoStrip.inRange_setLists h rfl fun m hm => h.moves hm

theorem AutoStrip.inRange_delete {a : AutoStrip} (h : a.inRange) (kind : Kind) (first last : Nat) :
    (a.delete kind first last).inRange := by
  cases kind with
  | level => exact AutoStrip.inRange_setLists h rfl fun m hm => h.moves (List.mem_filter.mp hm).1
  | cut => exact AutoStrip.inRange_setLists h rfl fun m hm => h.moves hm

theorem AutoStrip.inRange_clear {a : AutoStrip} (h : a.inRange) : a.clear.inRange :=
  AutoStrip.inRange_setLists h rfl fun _ hm => absurd hm List.not_mem_nil

/-! ### The merge (R161, R162) -/

/-- The moves of the ranges of a journal are those of its MOVE records, beside those of the range being built. -/
theorem ranges_moves {i : Fin 64} {kind : Kind} {journal : List Record} (codes : ∀ r ∈ journal, r.code ≤ 1020)
    {current : Option (Range LevelMove)} (held : ∀ r, current = some r → ∀ m ∈ r.moves, m.code ≤ 1020) :
    ∀ r ∈ rangesFrom i kind pickLevel current journal, ∀ m ∈ r.moves, m.code ≤ 1020 := by
  induction journal generalizing current with
  | nil => intro r hr; simp [rangesFrom] at hr
  | cons record rest ih =>
    obtain ⟨head, tail⟩ := List.forall_mem_cons.mp codes
    cases record with
    | punchIn j k p =>
      unfold rangesFrom
      split
      · exact ih tail fun r hr m hm => by obtain rfl := Option.some.inj hr; exact absurd hm List.not_mem_nil
      · exact ih tail held
    | move j p v =>
      unfold rangesFrom
      split
      · next r m hp =>
        split
        · refine ih tail fun r' hr' x hx => ?_
          obtain rfl := Option.some.inj hr'
          rcases List.mem_append.mp hx with hx | hx
          · exact held r rfl x hx
          · obtain rfl := List.mem_singleton.mp hx
            cases v with
            | level code glide => obtain rfl := Option.some.inj hp; exact head
            | cut on => cases hp
        · exact ih tail held
      · exact ih tail held
    | punchOut j k p =>
      unfold rangesFrom
      split
      · next r =>
        split
        · intro r' hr'
          rcases List.mem_cons.mp hr' with rfl | hr'
          · exact held r rfl
          · exact ih tail (current := none) (fun _ h => absurd h (by simp)) r' hr'
        · exact ih tail held
      · exact ih tail (current := none) fun _ h => absurd h (by simp)

theorem mem_foldl_insertLevel {l moves : List LevelMove} {m : LevelMove} (h : m ∈ moves.foldl (fun l m => insertLevel m l) l) :
    m ∈ moves ∨ m ∈ l := by
  induction moves generalizing l with
  | nil => exact .inr h
  | cons x rest ih =>
    rcases ih h with h | h
    · exact .inl (List.mem_cons_of_mem x h)
    · rcases mem_insertLevel h with rfl | h
      · exact .inl List.mem_cons_self
      · exact .inr h

/-- A LEVEL range brings in its moves and one restore move, which holds a code of the list or the desk's (R161). -/
theorem mergeLevelRange_codes {desk : Nat} {moves : List LevelMove} {r : Range LevelMove} (range : desk ≤ 1020)
    (list : ∀ m ∈ moves, m.code ≤ 1020) (own : ∀ m ∈ r.moves, m.code ≤ 1020) :
    ∀ m ∈ mergeLevelRange desk moves r, m.code ≤ 1020 := by
  have merged (m : LevelMove)
      (hm : m ∈ r.moves.foldl (fun l m => insertLevel m l) (moves.filter fun m => r.outside m.position)) : m.code ≤ 1020 := by
    rcases mem_foldl_insertLevel hm with hm | hm
    · exact own m hm
    · exact list m (List.mem_filter.mp hm).1
  have restored : ((readLevelAt moves r.hi).getD (desk, false)).1 ≤ 1020 := by
    cases read : readLevelAt moves r.hi with
    | none => exact range
    | some v => exact readLevelAt_le list read
  intro m hm
  unfold mergeLevelRange at hm
  dsimp only at hm
  split at hm
  · exact merged m hm
  · rcases mem_insertLevel hm with rfl | hm
    · exact restored
    · exact merged m hm

theorem AutoStrip.inRange_merge {i : Fin 64} {st : Strip} {journal : List Record} {a : AutoStrip} (h : a.inRange)
    (desk : st.deskCode ≤ 1020) (codes : ∀ r ∈ journal, r.code ≤ 1020) : (a.merge i st journal).inRange := by
  refine AutoStrip.inRange_setLists h rfl ?_
  have moves := ranges_moves (i := i) (kind := .level) codes (current := none) (fun _ h => absurd h (by simp))
  simp only [AutoStrip.merge]
  generalize rangesFrom i .level pickLevel none journal = ranges at moves
  have list : ∀ m ∈ a.levelMoves, m.code ≤ 1020 := fun m hm => h.moves hm
  generalize a.levelMoves = l at list
  induction ranges generalizing l with
  | nil => exact list
  | cons r rest ih =>
    obtain ⟨head, tail⟩ := List.forall_mem_cons.mp moves
    exact ih tail _ (mergeLevelRange_codes desk list head)

theorem kept_endPass (s : State) : Kept s (endPass s) :=
  kept_setPass fun _ _ hr => absurd hr List.not_mem_nil

theorem kept_mergeBoundary (s : State) : Kept s (mergeBoundary s) := by
  unfold mergeBoundary
  split
  · next i rest _ _ =>
    dsimp only
    have merged : Kept s (modAuto i (AutoStrip.merge i s.strips[i] s.pass.journal) s) :=
      kept_modAuto fun h => AutoStrip.inRange_merge (h.auto i) (h.strip i).deskCode fun r hr => h.record hr
    generalize modAuto i (AutoStrip.merge i s.strips[i] s.pass.journal) s = t at merged ⊢
    have counted : Kept t (t.setPass { t.pass with mergeList := rest, stripsDone := t.pass.stripsDone + 1 }) := kept_setPass_same rfl
    have done := merged.trans counted
    exact done.whenDone ((kept_endPass _).trans (kept_raise _ _))
  · exact .refl s

theorem kept_keepWork (s : State) : Kept s (keepWork s) := by
  unfold keepWork
  dsimp only
  generalize (List.finRange 64).filter (punchedIn s.pass.journal) = list
  have listed : Kept s (s.setPass { s.pass with mergeList := list, stripsDone := 0 }) := kept_setPass_same rfl
  generalize s.setPass { s.pass with mergeList := list, stripsDone := 0 } = t at listed ⊢
  split
  · exact listed.trans ((kept_endPass t).trans (kept_raise _ _))
  · exact listed.trans (kept_setPass_same rfl)

/-! ### Pass commands (R153, R155) -/

theorem kept_sendPass {kind : MsgKind} {n : Nat} {atOnce : State → State} {s : State} (k : Kept s (atOnce s)) :
    Kept s (sendPass kind n atOnce s) := by
  unfold sendPass
  split
  · exact k.responded _ _
  · have asked := (tuneFrame_enqueue kind n 0 s).kept
    dsimp only
    split
    · exact asked.responded _ _
    · exact (asked.trans (tuneFrame_startIfIdle _).kept).responded _ _

end Sys2Proof.Machine
end

section
/-! What every command that makes no boundary keeps, and what the resets and ENGINE RESTART give. -/

namespace Sys2Proof.Machine

/-! ### Blocks that hold no gain and no code -/

theorem kept_setPending (s : State) (v : List Instr) : Kept s (s.setPending v) :=
  Quiet.kept ⟨rfl, rfl, rfl, rfl, rfl, rfl, rfl, rfl, rfl⟩
theorem kept_setClock (s : State) (v : Clock) : Kept s (s.setClock v) :=
  Quiet.kept ⟨rfl, rfl, rfl, rfl, rfl, rfl, rfl, rfl, rfl⟩
theorem kept_setEngine (s : State) (v : Engine) : Kept s (s.setEngine v) :=
  Quiet.kept ⟨rfl, rfl, rfl, rfl, rfl, rfl, rfl, rfl, rfl⟩
theorem kept_setTx (s : State) (v : LaneTx) : Kept s (s.setTx v) :=
  Quiet.kept ⟨rfl, rfl, rfl, rfl, rfl, rfl, rfl, rfl, rfl⟩
theorem kept_setPeers (s : State) (v : Vector Peer 16) : Kept s (s.setPeers v) :=
  Quiet.kept ⟨rfl, rfl, rfl, rfl, rfl, rfl, rfl, rfl, rfl⟩
theorem kept_setPorts (s : State) (v : Ports) : Kept s (s.setPorts v) :=
  Quiet.kept ⟨rfl, rfl, rfl, rfl, rfl, rfl, rfl, rfl, rfl⟩
theorem kept_setControl (s : State) (v : Control) : Kept s (s.setControl v) :=
  Quiet.kept ⟨rfl, rfl, rfl, rfl, rfl, rfl, rfl, rfl, rfl⟩

theorem kept_raiseIf (b : Bool) (c : Cause) (s : State) : Kept s (raiseIf b c s) := (tuneFrame_raiseIf b c s).kept

theorem kept_setClockState (c : Clock) (s : State) : Kept s (setClockState c s) := (kept_setClock s c).trans (kept_raiseIf _ _ _)

/-- A change of the group line's lists and counters (R95, R101, R103). -/
theorem kept_setQueue {s : State} {v : GroupLine} (table : v.table = s.group.table) (solo : v.soloLevel = s.group.soloLevel)
    (mastered : v.mastered = s.group.mastered) : Kept s (s.setGroup v) := (tuneFrame_setQueue table solo mastered).kept

/-! ### Events (R173) -/

theorem kept_handOverA (a : BusList) (s : State) : Kept s (handOverA a s) := by
  unfold handOverA
  split
  · exact .refl s
  · exact (kept_setTx s _).trans (kept_raiseIf _ _ _)

theorem kept_processFrame (samples : Vector Int 64) (s : State) : Kept s (processFrame samples s) := by
  unfold processFrame
  dsimp only
  refine Kept.trans ?_ (kept_handOverA _ _)
  exact ((kept_setPorts s _).trans (kept_setEngine _ _)).trans (kept_setSummer_same rfl)

theorem kept_declareConflict (s : State) : Kept s (declareConflict s) :=
  ((kept_setTx s _).trans (kept_raise _ _)).trans (kept_setQueue rfl rfl rfl)

theorem kept_completeLaneFrame (readBack : List Byte) (clean : Bool) (s : State) : Kept s (completeLaneFrame readBack clean s) := by
  unfold completeLaneFrame
  split
  · exact .refl s
  · next f _ =>
    dsimp only
    generalize (if isMatch f readBack clean then 0 else s.tx.mismatches + 1) = count
    split
    · exact kept_declareConflict s
    · exact kept_setTx s _

theorem kept_takeLaneFrame (lane : Fin 16) (bytes : List Byte) (s : State) : Kept s (takeLaneFrame lane bytes s) := by
  unfold takeLaneFrame
  split
  · exact .refl s
  · split <;> exact kept_setPeers s _

theorem kept_positionWork (bytes : List Byte) (s : State) : Kept s (positionWork bytes s) := by
  unfold positionWork
  split
  · exact kept_setPlayback_same rfl
  · exact kept_takePosition _ _ s

/-- Work of the group line that keeps strips and mastered set, with its table and solo level handed to every AUDIO strip (R24, R107). -/
theorem kept_retuneAll {s u : State} (line : LineFrame s u) (strips : u.strips = s.strips)
    (mastered : u.group.mastered = s.group.mastered) : Kept s (retuneWhere (fun _ => true) u) := by
  have master (g : Fin 32) : u.group.master g = s.group.master g := by rw [GroupLine.master, mastered, GroupLine.master]
  refine ⟨(line.trans (lineFrame_retuneWhere _ u)).steady fun i => ?_, fun h => ?_⟩
  · have := gainsKept_retuneWhere (fun _ => true) u i
    rwa [strips] at this
  · rw [stripsTuned_iff] at h
    refine stripsTuned_retuneAll (fun i g hi role => ⟨fun audio => ?_, fun k r => ?_⟩)
      (h.2.congr line.inner.straps (fun i => by rw [strips]) (by rw [mastered]))
    · cases role.symm.trans audio
    · rw [strips] at r ⊢
      rw [master]
      exact (h.1 i ((line.inner.hasStrip i).symm.trans hi)).master k r

/-- A change of the solo line's level, held and handed to every AUDIO strip (R24, R105). -/
theorem kept_soloChange (active : Bool) (s : State) :
    Kept s (retuneWhere (fun _ => true) (s.setGroup { s.group with soloLevel := active })) :=
  kept_retuneAll (lineFrame_setGroup s _) rfl rfl

/-! ### Every command that makes no boundary -/

theorem kept_clearCounters (s : State) : Kept s (clearStatusCounters s) :=
  Quiet.kept ⟨rfl, rfl, rfl, rfl, rfl, rfl, rfl, rfl, rfl⟩

/-- A reference edge that is early makes no boundary (R109). -/
theorem kept_referenceEdge {marked : Bool} {time : Nat} {s : State} (early : ¬ s.rate.half ≤ time - s.clock.latestBoundary) :
    Kept s (referenceEdgeWork marked time s) := by
  unfold referenceEdgeWork
  dsimp only
  rw [if_pos (by simpa using early)]
  exact kept_setClockState _ s

/-! ### Command by command -/

theorem kept_execReferenceEdge {marked : Bool} {time : Nat} {s t : State} (early : ¬ s.rate.half ≤ time - s.clock.latestBoundary)
    (h : execReferenceEdge marked time s = .next t) : Kept s t := by
  unfold execReferenceEdge at h
  exact kept_onEvent (kept_referenceEdge early) h

theorem kept_execDividerBoundary {s t : State} (state : s.clock.state ≠ .free)
    (h : execDividerBoundary s = .next t) : Kept s t := by
  unfold execDividerBoundary at h
  refine kept_onEvent ?_ h
  rw [if_neg state]
  exact .refl s

theorem kept_execHoldoverBoundary {s t : State} (state : s.clock.state ≠ .holdover)
    (h : execHoldoverBoundary s = .next t) : Kept s t := by
  unfold execHoldoverBoundary at h
  refine kept_onEvent ?_ h
  rw [if_neg state]
  exact .refl s

theorem kept_execAutomationStep {s t : State} (h : execAutomationStep s = .next t) : Kept s t := by
  unfold execAutomationStep at h
  have taken : Kept s (s.setPlayback { s.playback with stepDue := false }) := kept_setPlayback_same rfl
  exact kept_onEvent ((Kept.refl s).whenDone (taken.trans (kept_automationStepWork _))) h

theorem kept_execGroupRefresh {s t : State} (h : execGroupRefresh s = .next t) : Kept s t := by
  unfold execGroupRefresh at h
  refine kept_onEvent ?_ h
  split
  · exact .refl s
  · have taken : Kept s (s.setGroup { s.group with refreshDue := none }) := kept_setQueue rfl rfl rfl
    exact taken.trans (tuneFrame_refreshGroup _ _).kept

theorem kept_execSilenceWindowExpiry {s t : State} (h : execSilenceWindowExpiry s = .next t) : Kept s t := by
  unfold execSilenceWindowExpiry at h
  exact kept_onEvent ((Kept.refl s).whenDone (kept_silenceExpiry s)) h

theorem kept_execStripFrameProcess {s t : State} (h : execStripFrameProcess s = .next t) : Kept s t := by
  unfold execStripFrameProcess at h
  refine kept_onEvent ?_ h
  split
  · exact .refl s
  · exact kept_processFrame _ s

theorem kept_execLaneFrameCompletion {readBack : List Byte} {clean : Bool} {s t : State}
    (h : execLaneFrameCompletion readBack clean s = .next t) : Kept s t := by
  unfold execLaneFrameCompletion at h
  exact kept_onEvent (kept_completeLaneFrame _ _ s) h

theorem kept_execOutputPortFrameStart {s t : State} (h : execOutputPortFrameStart s = .next t) : Kept s t := by
  unfold execOutputPortFrameStart at h
  refine kept_onEvent ?_ h
  split
  · exact kept_setPorts s _
  · exact .refl s

theorem kept_execFrameArrival {lane : Fin 16} {bytes : List Byte} {s t : State}
    (h : execFrameArrival lane bytes s = .next t) : Kept s t := by
  unfold execFrameArrival at h
  exact kept_onEvent (kept_takeLaneFrame _ _ s) h

theorem kept_execPortFrameArrival {port : Fin 8} {samples : Vector (BitVec 24) 8} {s t : State}
    (h : execPortFrameArrival port samples s = .next t) : Kept s t := by
  unfold execPortFrameArrival at h
  exact kept_onEvent (kept_setPorts s _) h

theorem kept_execScanArrival {bytes : List Byte} {s t : State} (h : execScanArrival bytes s = .next t) : Kept s t := by
  unfold execScanArrival at h
  exact kept_onEvent (kept_scanWork _ s) h

theorem kept_execPositionRecordArrival {bytes : List Byte} {s t : State}
    (h : execPositionRecordArrival bytes s = .next t) : Kept s t := by
  unfold execPositionRecordArrival at h
  exact kept_onEvent (kept_positionWork _ s) h

theorem kept_execLineRest {s t : State} (h : execLineRest s = .next t) : Kept s t := by
  unfold execLineRest at h
  refine kept_onEvent ?_ h
  split
  · have idle : Kept s (s.setGroup { s.group with line := .idle, recessiveRun := 10 }) := kept_setQueue rfl rfl rfl
    exact idle.trans (tuneFrame_startIfIdle _).kept
  · exact .refl s
  · exact .refl s

theorem kept_execArbitrationLoss {s t : State} (h : execArbitrationLoss s = .next t) : Kept s t := by
  unfold execArbitrationLoss at h
  exact kept_onEvent ((Kept.refl s).whenDone (tuneFrame_loseArbitration s).kept) h

theorem kept_execLineFault {s t : State} (h : execLineFault s = .next t) : Kept s t := by
  unfold execLineFault at h
  exact kept_onEvent ((Kept.refl s).whenDone (tuneFrame_meetFault s).kept) h

theorem kept_execGroupMessageEnd {bits : BitVec 38} {s t : State} (h : execGroupMessageEnd bits s = .next t) : Kept s t := by
  unfold execGroupMessageEnd at h
  exact kept_onEvent (kept_messageEndWork _ s) h

theorem kept_execSoloLineChange {active : Bool} {s t : State} (h : execSoloLineChange active s = .next t) : Kept s t := by
  unfold execSoloLineChange at h
  refine kept_onEvent ?_ h
  split
  · exact .refl s
  · exact kept_soloChange active s

theorem kept_execControlRequestAbandoned {s t : State} (h : execControlRequestAbandoned s = .next t) : Kept s t := by
  unfold execControlRequestAbandoned at h
  obtain rfl := Host.Outcome.next.inj h
  exact .refl s

theorem kept_execReadStatus {address : BitVec 16} {data : List Byte} {s t : State}
    (h : execReadStatus address data s = .next t) : Kept s t := by
  unfold execReadStatus at h
  exact kept_onBare ((kept_clearCounters s).responded _ _) h

theorem kept_execReadCauses {address : BitVec 16} {data : List Byte} {s t : State}
    (h : execReadCauses address data s = .next t) : Kept s t := by
  unfold execReadCauses at h
  exact kept_onBare (kept_respond _ _ s) h

theorem kept_execClearCauses {address : BitVec 16} {data : List Byte} {s t : State}
    (h : execClearCauses address data s = .next t) : Kept s t := by
  unfold execClearCauses at h
  refine kept_onGlobal (fun selection => ?_) h
  exact (kept_setControl s (clearSelected selection s).control).responded _ _

theorem kept_execWriteAttentionMask {address : BitVec 16} {data : List Byte} {s t : State}
    (h : execWriteAttentionMask address data s = .next t) : Kept s t := by
  unfold execWriteAttentionMask at h
  refine kept_onGlobal (fun mask => ?_) h
  exact (kept_setControl s { s.control with mask := mask }).responded _ _

theorem kept_execReadStrip {address : BitVec 16} {data : List Byte} {s t : State}
    (h : execReadStrip address data s = .next t) : Kept s t := by
  unfold execReadStrip at h
  refine kept_onStrip (fun i _ _ _ => ?_) h
  exact kept_respond _ _ s

theorem kept_execWriteStrip {address : BitVec 16} {data : List Byte} {s t : State}
    (h : execWriteStrip address data s = .next t) : Kept s t := by
  unfold execWriteStrip at h
  refine kept_onStrip (fun i d hi hd => ?_) h
  split
  · exact kept_respond _ _ s
  · next fresh => exact (kept_writeStripWork hi (readStripData_groups hd) (by simpa using fresh)).responded _ _

theorem kept_execWriteSend {address : BitVec 16} {data : List Byte} {s t : State}
    (h : execWriteSend address data s = .next t) : Kept s t := by
  unfold execWriteSend at h
  exact kept_onStrip (fun i d _ hd => (kept_writeSend (readSendData_code_le hd) s).responded _ _) h

theorem kept_setPendingConfig (owned : List Nat) (windows : Vector Window 4) (s : State) :
    Kept s (setPendingConfig owned windows s) := kept_setSummer_same rfl

theorem kept_execWritePremix {address : BitVec 16} {data : List Byte} {s t : State}
    (h : execWritePremix address data s = .next t) : Kept s t := by
  unfold execWritePremix at h
  refine kept_onCommand ?_ h
  split
  · next p d _ hd =>
    split
    · exact kept_respond _ _ s
    · exact ((kept_modPremix (readPremixData_code_le hd) s).trans (kept_setPendingConfig _ _ _)).responded _ _
  · exact kept_respond _ _ s

theorem kept_execWriteWindow {address : BitVec 16} {data : List Byte} {s t : State}
    (h : execWriteWindow address data s = .next t) : Kept s t := by
  unfold execWriteWindow at h
  refine kept_onCommand ?_ h
  split
  · exact (kept_setPendingConfig _ _ s).responded _ _
  · exact kept_respond _ _ s

theorem kept_execWriteOutput {address : BitVec 16} {data : List Byte} {s t : State}
    (h : execWriteOutput address data s = .next t) : Kept s t := by
  unfold execWriteOutput at h
  refine kept_onStrip (fun _ _ _ _ => ?_) h
  split
  · exact kept_respond _ _ s
  · exact (kept_setPorts s _).responded _ _

theorem kept_execWriteCalibration {address : BitVec 16} {data : List Byte} {s t : State}
    (h : execWriteCalibration address data s = .next t) : Kept s t := by
  unfold execWriteCalibration at h
  refine kept_onStrip (fun i _ _ _ => ?_) h
  split
  · exact (kept_modFader fun h => h.fader i).responded _ _
  · exact kept_respond _ _ s

theorem kept_execWriteTouch {address : BitVec 16} {data : List Byte} {s t : State}
    (h : execWriteTouch address data s = .next t) : Kept s t := by
  unfold execWriteTouch at h
  refine kept_onStrip (fun i _ _ _ => ?_) h
  split
  · exact (kept_modFader fun h => h.fader i).responded _ _
  · exact kept_respond _ _ s

theorem kept_setMeters (meters : Vector Meter 128) (s : State) : Kept s (s.setSummer { s.summer with meters }) :=
  kept_setSummer_same rfl

theorem kept_execReadMeters {address : BitVec 16} {data : List Byte} {s t : State}
    (h : execReadMeters address data s = .next t) : Kept s t := by
  unfold execReadMeters at h
  refine kept_onCommand ?_ h
  split
  · dsimp only
    split
    · exact kept_respond _ _ s
    · exact (kept_setMeters _ s).responded _ _
  · exact kept_respond _ _ s

theorem kept_execReadPeers {address : BitVec 16} {data : List Byte} {s t : State}
    (h : execReadPeers address data s = .next t) : Kept s t := by
  unfold execReadPeers at h
  refine kept_onCommand ?_ h
  split
  · dsimp only
    split
    · exact kept_respond _ _ s
    · exact (kept_setPeers s _).responded _ _
  · exact kept_respond _ _ s

theorem kept_execInsertMove {address : BitVec 16} {data : List Byte} {s t : State}
    (h : execInsertMove address data s = .next t) : Kept s t := by
  unfold execInsertMove at h
  refine kept_onEdit (fun i _ => ?_) h
  split
  · exact kept_respond _ _ s
  · split
    · exact kept_respond _ _ s
    · exact (kept_modAuto fun h => AutoStrip.inRange_insert (h.auto i) _ _ _ _).responded _ _

theorem kept_execDeleteMoves {address : BitVec 16} {data : List Byte} {s t : State}
    (h : execDeleteMoves address data s = .next t) : Kept s t := by
  unfold execDeleteMoves at h
  refine kept_onEdit (fun i _ => ?_) h
  split
  · exact kept_respond _ _ s
  · split
    · exact kept_respond _ _ s
    · exact (kept_modAuto fun h => AutoStrip.inRange_delete (h.auto i) _ _ _).responded _ _

theorem kept_execClearStrip {address : BitVec 16} {data : List Byte} {s t : State}
    (h : execClearStrip address data s = .next t) : Kept s t := by
  unfold execClearStrip at h
  exact kept_onEdit (fun i _ => (kept_modAuto fun h => AutoStrip.inRange_clear (h.auto i)).responded _ _) h

theorem kept_execClearStore {address : BitVec 16} {data : List Byte} {s t : State}
    (h : execClearStore address data s = .next t) : Kept s t := by
  unfold execClearStore at h
  refine kept_onBare ?_ h
  split
  · exact kept_respond _ _ s
  · refine (kept_setPlayback fun h i => ?_).responded _ _
    rw [mapFin_get]
    exact AutoStrip.inRange_clear (h.auto i)

theorem kept_execReadMoves {address : BitVec 16} {data : List Byte} {s t : State}
    (h : execReadMoves address data s = .next t) : Kept s t := by
  unfold execReadMoves at h
  refine kept_onStrip (fun _ _ _ _ => ?_) h
  dsimp only
  split <;> exact kept_respond _ _ s

theorem kept_execPassOpen {address : BitVec 16} {data : List Byte} {s t : State}
    (h : execPassOpen address data s = .next t) : Kept s t := by
  unfold execPassOpen at h
  refine kept_onCommand ?_ h
  split
  · exact kept_respond _ _ s
  · split
    · exact kept_sendPass (kept_takePassOpen _ s)
    all_goals exact kept_respond _ _ s

theorem kept_execPassClose {address : BitVec 16} {data : List Byte} {s t : State}
    (h : execPassClose address data s = .next t) : Kept s t := by
  unfold execPassClose at h
  refine kept_onCommand ?_ h
  split
  · exact kept_respond _ _ s
  · split
    · split
      · exact kept_sendPass (kept_takePassClose _ s)
      · exact kept_respond _ _ s
    all_goals exact kept_respond _ _ s

theorem kept_execPassKeep {address : BitVec 16} {data : List Byte} {s t : State}
    (h : execPassKeep address data s = .next t) : Kept s t := by
  unfold execPassKeep at h
  refine kept_onBare ?_ h
  split
  · split
    · exact kept_respond _ _ s
    · exact (kept_keepWork s).responded _ _
  all_goals exact kept_respond _ _ s

theorem kept_execPassDrop {address : BitVec 16} {data : List Byte} {s t : State}
    (h : execPassDrop address data s = .next t) : Kept s t := by
  unfold execPassDrop at h
  refine kept_onBare ?_ h
  split
  · exact (kept_endPass s).responded _ _
  all_goals exact kept_respond _ _ s

theorem kept_execDominantBitSeen {s t : State} (h : execDominantBitSeen s = .next t) : Kept s t := by
  unfold execDominantBitSeen at h
  refine kept_onEvent ?_ h
  split
  · exact kept_setQueue rfl rfl rfl
  · have message : Kept s (s.setGroup { s.group with line := .message }) := kept_setQueue rfl rfl rfl
    exact message.trans (tuneFrame_markInFlight _).kept
  · exact .refl s

theorem kept_execCommandByteNamesNoCommand {command : Byte} {address : BitVec 16} {data : List Byte} {s t : State}
    (h : execCommandByteNamesNoCommand command address data s = .next t) : Kept s t := by
  unfold execCommandByteNamesNoCommand at h
  exact kept_onCommand (kept_respond _ _ s) h

/-- What every command keeps that makes no boundary and is no reset and no ENGINE RESTART: no gain moves, ramps stay safe, codes in
range, and the part tuned. -/
theorem exec_kept {c : Instr} {s t : State} (h : exec c s = .next t) (noBoundary : ¬ makesBoundary s c) (noReset : ¬ isReset c)
    (noRestart : ∀ address data, c ≠ .engineRestart address data) : Kept s t := by
  cases c with
  | powerOnReset => exact absurd trivial noReset
  | resetPinAssert => exact absurd trivial noReset
  | resetPinRelease => exact absurd trivial noReset
  | engineRestart address data => exact absurd rfl (noRestart address data)
  | referenceEdge => exact kept_execReferenceEdge noBoundary h
  | dividerBoundary => exact kept_execDividerBoundary noBoundary h
  | lossWindowExpiry =>
    rcases execLossWindowExpiry_cases h with rfl | ⟨e, -, inTime, state, edge, -⟩
    · exact .refl _
    · exact absurd ⟨state, by rw [edge]; simp, inTime⟩ noBoundary
  | holdoverBoundary => exact kept_execHoldoverBoundary noBoundary h
  | automationStep => exact kept_execAutomationStep h
  | groupRefresh => exact kept_execGroupRefresh h
  | silenceWindowExpiry => exact kept_execSilenceWindowExpiry h
  | stripFrameProcess => exact kept_execStripFrameProcess h
  | laneFrameCompletion => exact kept_execLaneFrameCompletion h
  | outputPortFrameStart => exact kept_execOutputPortFrameStart h
  | frameArrival => exact kept_execFrameArrival h
  | portFrameArrival => exact kept_execPortFrameArrival h
  | scanArrival => exact kept_execScanArrival h
  | positionRecordArrival => exact kept_execPositionRecordArrival h
  | lineRest => exact kept_execLineRest h
  | arbitrationLoss => exact kept_execArbitrationLoss h
  | lineFault => exact kept_execLineFault h
  | groupMessageEnd => exact kept_execGroupMessageEnd h
  | soloLineChange => exact kept_execSoloLineChange h
  | controlRequestAbandoned => exact kept_execControlRequestAbandoned h
  | readStatus => exact kept_execReadStatus h
  | readCauses => exact kept_execReadCauses h
  | clearCauses => exact kept_execClearCauses h
  | writeAttentionMask => exact kept_execWriteAttentionMask h
  | readStrip => exact kept_execReadStrip h
  | writeStrip => exact kept_execWriteStrip h
  | writeSend => exact kept_execWriteSend h
  | writePremix => exact kept_execWritePremix h
  | writeWindow => exact kept_execWriteWindow h
  | writeOutput => exact kept_execWriteOutput h
  | writeCalibration => exact kept_execWriteCalibration h
  | writeTouch => exact kept_execWriteTouch h
  | readMeters => exact kept_execReadMeters h
  | readPeers => exact kept_execReadPeers h
  | insertMove => exact kept_execInsertMove h
  | deleteMoves => exact kept_execDeleteMoves h
  | clearStrip => exact kept_execClearStrip h
  | clearStore => exact kept_execClearStore h
  | readMoves => exact kept_execReadMoves h
  | passOpen => exact kept_execPassOpen h
  | passClose => exact kept_execPassClose h
  | passKeep => exact kept_execPassKeep h
  | passDrop => exact kept_execPassDrop h
  | dominantBitSeen => exact kept_execDominantBitSeen h
  | commandByteNamesNoCommand command address data =>
    exact kept_execCommandByteNamesNoCommand (command := command) (address := address) (data := data) h

end Sys2Proof.Machine
end

section
/-! What the work of a frame boundary does to each block, and that every command that makes a boundary does that work (R79, R117). -/

namespace Sys2Proof.Machine

/-! ### The summer's work in stages (R79) -/

/-- The causes that the summer's work at a boundary may raise (R67, R76, R85, R87). -/
def summerCauses : List Cause := [.windowOversubscribed, .peerChange, .premixConflict, .busOver]

/-- A stage of the summer's work before the stem completion: it leaves the strip engine, the lane transmitter, the audio ports, the own
lists held and the pending configuration, and raises none but the summer's causes. -/
structure SumStage (s t : State) : Prop where
  straps : t.straps = s.straps
  clock : t.clock = s.clock
  engine : t.engine = s.engine
  tx : t.tx = s.tx
  ports : t.ports = s.ports
  ownPremix : t.summer.ownPremix = s.summer.ownPremix
  ownStem : t.summer.ownStem = s.summer.ownStem
  pending : t.summer.pending = s.summer.pending
  causes : ∀ c, c ∉ summerCauses → t.causeSet c = s.causeSet c

theorem SumStage.refl (s : State) : SumStage s s := ⟨rfl, rfl, rfl, rfl, rfl, rfl, rfl, rfl, fun _ _ => rfl⟩

theorem SumStage.trans {s t u : State} (h : SumStage s t) (k : SumStage t u) : SumStage s u :=
  ⟨k.straps.trans h.straps, k.clock.trans h.clock, k.engine.trans h.engine, k.tx.trans h.tx, k.ports.trans h.ports,
    k.ownPremix.trans h.ownPremix, k.ownStem.trans h.ownStem, k.pending.trans h.pending,
    fun c hc => (k.causes c hc).trans (h.causes c hc)⟩

theorem sumStage_setPeers (s : State) (v : Vector Peer 16) : SumStage s (s.setPeers v) :=
  ⟨rfl, rfl, rfl, rfl, rfl, rfl, rfl, rfl, fun _ _ => rfl⟩

theorem sumStage_setSummer {s : State} {v : Summer} (ownPremix : v.ownPremix = s.summer.ownPremix)
    (ownStem : v.ownStem = s.summer.ownStem) (pending : v.pending = s.summer.pending) : SumStage s (s.setSummer v) :=
  ⟨rfl, rfl, rfl, rfl, rfl, ownPremix, ownStem, pending, fun _ _ => rfl⟩

theorem sumStage_raiseIf {c : Cause} (hc : c ∈ summerCauses) (b : Bool) (s : State) : SumStage s (raiseIf b c s) := by
  refine ⟨raiseIf_straps b c s, raiseIf_clock b c s, raiseIf_engine b c s, raiseIf_tx b c s, raiseIf_ports b c s, ?_, ?_, ?_,
    fun d hd => ?_⟩
  · rw [raiseIf_summer]
  · rw [raiseIf_summer]
  · rw [raiseIf_summer]
  · have other : (d == c) = false := by simpa using fun e : d = c => hd (e ▸ hc)
    rw [causeSet_raiseIf, other, Bool.and_false, Bool.or_false]

theorem sumStage_putInForce (s : State) : SumStage s (putInForce s) := by
  unfold putInForce
  dsimp only
  split
  · exact .refl s
  · refine SumStage.trans ?_ (sumStage_raiseIf (by decide) _ _)
    exact sumStage_setSummer rfl rfl rfl

theorem sumStage_requestPeers (tag : Tag) (s : State) : SumStage s (requestPeers tag s) :=
  (sumStage_setPeers s _).trans (sumStage_raiseIf (by decide) _ _)

theorem sumStage_decideSuspensions (given : List (Fin 16 × LaneFrame × Nat)) (s : State) :
    SumStage s (decideSuspensions given s) := by
  refine SumStage.trans ?_ (sumStage_raiseIf (by decide) _ _)
  exact sumStage_setSummer rfl rfl rfl

theorem sumStage_advancePremix (s : State) : SumStage s (advancePremix s) := sumStage_setSummer rfl rfl rfl

theorem sumStage_updateMeters (totals : BusList) (s : State) : SumStage s (updateMeters totals s) := by
  refine SumStage.trans ?_ (sumStage_raiseIf (by decide) _ _)
  exact sumStage_setSummer rfl rfl rfl

/-- The part when the peers have answered the due request of a boundary, with the pending configuration in force (R60, R76). -/
def State.answered (tag : Tag) (s : State) : State := requestPeers tag (putInForce s)

/-- The part when its premix totals are formed: peers asked and their fades risen, suspensions decided, masters advanced (steps 1 to 4
of R79). -/
def State.readyToSum (tag : Tag) (s : State) : State :=
  advancePremix (decideSuspensions (s.answered tag).given (eachPeer Peer.rise (s.answered tag)))

theorem sumStage_answered (tag : Tag) (s : State) : SumStage s (s.answered tag) :=
  (sumStage_putInForce s).trans (sumStage_requestPeers tag _)

theorem sumStage_readyToSum (tag : Tag) (s : State) : SumStage s (s.readyToSum tag) :=
  (((sumStage_answered tag s).trans (sumStage_setPeers _ _)).trans (sumStage_decideSuspensions _ _)).trans (sumStage_advancePremix _)

theorem putInForce_config (s : State) : (putInForce s).summer.config = s.summer.pending := by
  unfold putInForce
  dsimp only
  split
  · next same => exact same.symm
  · rw [raiseIf_summer, State.setSummer_summer]

theorem putInForce_premix (s : State) : (putInForce s).summer.premix = s.summer.premix := by
  unfold putInForce
  dsimp only
  split
  · rfl
  · rw [raiseIf_summer, State.setSummer_summer]

theorem putInForce_peers (s : State) : (putInForce s).peers = s.peers := by
  unfold putInForce
  dsimp only
  split
  · rfl
  · rw [raiseIf_peers, State.setSummer_peers]

theorem requestPeers_summer (tag : Tag) (s : State) : (requestPeers tag s).summer = s.summer := by
  simp only [requestPeers, eachPeer, raiseIf_summer, State.setPeers_summer]

theorem answered_peers (tag : Tag) (s : State) (j : Fin 16) :
    (s.answered tag).peers[j] = if j = s.straps.slot then s.peers[j] else s.peers[j].request tag := by
  have straps := (sumStage_putInForce s).straps
  simp only [State.answered, requestPeers, eachPeer, raiseIf_peers, State.setPeers_peers, mapFin_get, straps, putInForce_peers]

theorem readyToSum_config (tag : Tag) (s : State) : (s.readyToSum tag).summer.config = s.summer.pending := by
  simp only [State.readyToSum, advancePremix, decideSuspensions, eachPeer, State.setSummer_summer, raiseIf_summer,
    State.setPeers_summer, State.answered, requestPeers_summer, putInForce_config]

theorem readyToSum_premix (tag : Tag) (s : State) (p : Fin 64) :
    (s.readyToSum tag).summer.premix[p] = { s.summer.premix[p] with
      levelRamp := s.summer.premix[p].levelRamp.advance, cutRamp := s.summer.premix[p].cutRamp.advance } := by
  simp only [State.readyToSum, advancePremix, decideSuspensions, eachPeer, State.setSummer_summer, raiseIf_summer,
    State.setPeers_summer, State.answered, requestPeers_summer, putInForce_premix, mapFin_get]

theorem readyToSum_peers (tag : Tag) (s : State) (j : Fin 16) :
    (s.readyToSum tag).peers[j] = if j = s.straps.slot then s.peers[j] else (s.peers[j].request tag).rise := by
  simp only [State.readyToSum, advancePremix, decideSuspensions, eachPeer, State.setSummer_peers, raiseIf_peers,
    State.setPeers_peers, mapFin_get, answered_peers, (sumStage_answered tag s).straps]
  split <;> rfl

/-! ### Totals, meters and stems -/

/-- The premix totals of a boundary (step 5 of R79). -/
def State.premixTotals (tag : Tag) (sample : Nat) (s : State) : BusList :=
  totalsOf s.summer.pending.buses (fun b => decide (b < 64)) (s.ownShare (ownList s.summer.ownPremix sample))
    ((s.answered tag).given.map fun (_, f, k) => (f.a, k))

/-- The stem totals of a boundary (step 7 of R79). -/
def State.stemTotals (tag : Tag) (sample : Nat) (s : State) : BusList :=
  totalsOf s.summer.pending.buses (fun b => decide (64 ≤ b))
    (s.ownShare (if sample = 0 then [] else ownList s.summer.ownStem (sample - 1)))
    ((s.answered tag).given.map fun (_, f, k) => (f.b, k))

/-- The own stem contributions completed at a boundary (R31). -/
def State.stemList (tag : Tag) (sample : Nat) (s : State) : BusList :=
  completedStems s.engine.completing ((s.readyToSum tag).premixTerms (s.premixTotals tag sample))

theorem SumStage.listenOnly {s t : State} (h : SumStage s t) : t.listenOnly = s.listenOnly := by
  simp only [State.listenOnly, h.tx]

theorem SumStage.ownShare {s t : State} (h : SumStage s t) (l : BusList) : t.ownShare l = s.ownShare l := by
  simp only [State.ownShare, h.listenOnly, h.engine]

/-- The totals of a boundary, premix and stem (R79). -/
def State.totals (tag : Tag) (sample : Nat) (s : State) : BusList := s.premixTotals tag sample ++ s.stemTotals tag sample

/-- The part with its totals formed and its meters updated (steps 1 to 8 of R79), before they are handed. -/
def State.summed (tag : Tag) (sample : Nat) (s : State) : State := updateMeters (s.totals tag sample) (s.readyToSum tag)

/-- The totals are handed to the audio ports (R82). -/
def handTotals (totals : BusList) (s : State) : State := s.setPorts { s.ports with totals := totals, totalsHanded := true }

theorem sumStage_summed (tag : Tag) (sample : Nat) (s : State) : SumStage s (s.summed tag sample) :=
  (sumStage_readyToSum tag s).trans (sumStage_updateMeters _ _)

theorem summerBoundary_eq (tag : Tag) (sample : Nat) (s : State) :
    summerBoundary tag sample s =
      completeStems sample ((s.readyToSum tag).premixTerms (s.premixTotals tag sample))
        (handTotals (s.totals tag sample) (s.summed tag sample)) := by
  have ready := sumStage_readyToSum tag s
  rw [State.summed, State.totals, State.premixTotals, State.stemTotals, ← ready.ownShare, ← ready.ownShare, ← readyToSum_config tag s,
    ← ready.ownPremix, ← ready.ownStem]
  rfl

end Sys2Proof.Machine
end

section
/-! What the work of a frame boundary leaves in each block, and that every command that makes a boundary does that work (R117). -/

namespace Sys2Proof.Machine

/-- What the summer's work at the boundary of a tag and a sample leaves: the stems completed (R31), the totals handed, and the stages of
R79 in the summer's own record. -/
structure SummerDone (tag : Tag) (sample : Nat) (s t : State) : Prop where
  engine : t.engine = { s.engine with heldStems := [], restarted := false }
  tx : t.tx = if s.listenOnly then s.tx else { s.tx with pendingB := s.stemList tag sample }
  ports : t.ports = { s.ports with totals := s.totals tag sample, totalsHanded := true }
  peers : t.peers = (s.readyToSum tag).peers
  config : t.summer.config = s.summer.pending
  pending : t.summer.pending = s.summer.pending
  premix : t.summer.premix = (s.readyToSum tag).summer.premix
  suspended : t.summer.suspended = (s.readyToSum tag).summer.suspended
  ownPremix : t.summer.ownPremix = s.summer.ownPremix
  ownStem : t.summer.ownStem = holdList sample (s.stemList tag sample) s.summer.ownStem

theorem handOverB_listenOnly {s : State} (l : BusList) (silent : s.listenOnly = true) : handOverB l s = s := if_pos silent

theorem handOverB_driving {s : State} (l : BusList) (driving : s.listenOnly = false) :
    handOverB l s = s.setTx { s.tx with pendingB := l } := if_neg (by simp only [driving, Bool.false_eq_true, not_false_eq_true])

/-- The meters' stage leaves the peers and all of the summer but the meters. -/
theorem updateMeters_keeps (totals : BusList) (s : State) :
    (updateMeters totals s).peers = s.peers ∧ (updateMeters totals s).summer.config = s.summer.config ∧
      (updateMeters totals s).summer.premix = s.summer.premix ∧
      (updateMeters totals s).summer.suspended = s.summer.suspended := by
  refine ⟨?_, ?_, ?_, ?_⟩ <;> simp only [updateMeters, raiseIf_peers, raiseIf_summer, State.setSummer_peers, State.setSummer_summer]

/-- The stem completion, block by block (R31, R42, R78). -/
theorem completeStems_blocks (sample : Nat) (terms : BusList) (s : State) :
    (completeStems sample terms s).engine = { s.engine with heldStems := [], restarted := false } ∧
    (completeStems sample terms s).tx = (if s.listenOnly then s.tx else
      { s.tx with pendingB := completedStems s.engine.completing terms }) ∧
    (completeStems sample terms s).ports = s.ports ∧ (completeStems sample terms s).peers = s.peers ∧
    (completeStems sample terms s).control = s.control ∧
    (completeStems sample terms s).summer = { s.summer with
      ownStem := holdList sample (completedStems s.engine.completing terms) s.summer.ownStem } := by
  unfold completeStems
  generalize completedStems s.engine.completing terms = l
  generalize hu : s.setEngine { s.engine with heldStems := [], restarted := false } = u
  have listen : u.listenOnly = s.listenOnly := by rw [← hu]; rfl
  dsimp only
  cases silent : s.listenOnly with
  | true =>
    rw [handOverB_listenOnly l (listen.trans silent), ← hu]
    exact ⟨rfl, rfl, rfl, rfl, rfl, rfl⟩
  | false =>
    rw [handOverB_driving l (listen.trans silent), ← hu]
    exact ⟨rfl, rfl, rfl, rfl, rfl, rfl⟩

/-- Stages that leave engine, transmitter and ports, then the totals handed and the stems completed. -/
theorem summerDone_of_stages {tag : Tag} {sample : Nat} {s v w : State} {terms : BusList} (stage : SumStage s v)
    (stems : completedStems s.engine.completing terms = s.stemList tag sample) (ready : w = s.readyToSum tag)
    (peers : v.peers = w.peers) (config : v.summer.config = s.summer.pending) (premix : v.summer.premix = w.summer.premix)
    (suspended : v.summer.suspended = w.summer.suspended) :
    SummerDone tag sample s (completeStems sample terms (handTotals (s.totals tag sample) v)) := by
  obtain ⟨engine, tx, ports, samePeers, -, completed⟩ := completeStems_blocks sample terms (handTotals (s.totals tag sample) v)
  generalize completeStems sample terms (handTotals (s.totals tag sample) v) = t at *
  have listen : (handTotals (s.totals tag sample) v).listenOnly = s.listenOnly := stage.listenOnly
  have handedEngine : (handTotals (s.totals tag sample) v).engine = s.engine := stage.engine
  have handedTx : (handTotals (s.totals tag sample) v).tx = s.tx := stage.tx
  have handedPeers : (handTotals (s.totals tag sample) v).peers = v.peers := rfl
  have handedSummer : (handTotals (s.totals tag sample) v).summer = v.summer := rfl
  have handedPorts : (handTotals (s.totals tag sample) v).ports =
      { s.ports with totals := s.totals tag sample, totalsHanded := true } := by
    rw [handTotals, State.setPorts_ports, stage.ports]
  rw [handedEngine, stems] at tx completed
  rw [listen, handedTx] at tx
  rw [handedSummer] at completed
  rw [handedEngine] at engine
  rw [handedPorts] at ports
  rw [handedPeers] at samePeers
  subst ready
  exact ⟨engine, tx, ports, samePeers.trans peers, completed ▸ config, completed ▸ stage.pending, completed ▸ premix,
    completed ▸ suspended, completed ▸ stage.ownPremix,
    completed ▸ congrArg (holdList sample (s.stemList tag sample)) stage.ownStem⟩

theorem summerDone (tag : Tag) (sample : Nat) (s : State) : SummerDone tag sample s (summerBoundary tag sample s) := by
  rw [summerBoundary_eq]
  obtain ⟨peers, config, premix, suspended⟩ := updateMeters_keeps (s.totals tag sample) (s.readyToSum tag)
  exact summerDone_of_stages (sumStage_summed tag sample s) rfl rfl peers (config.trans (readyToSum_config tag s)) premix suspended

theorem summerBoundary_causes (tag : Tag) (sample : Nat) (s : State) {c : Cause} (hc : c ∉ summerCauses) :
    (summerBoundary tag sample s).causeSet c = s.causeSet c := by
  obtain ⟨-, -, -, -, control, -⟩ := completeStems_blocks sample
    ((s.readyToSum tag).premixTerms (s.premixTotals tag sample)) (handTotals (s.totals tag sample) (s.summed tag sample))
  rw [summerBoundary_eq, State.causeSet, control]
  exact (sumStage_summed tag sample s).causes c hc

/-! ### The boundary's work on the whole part -/

/-- The part with its ramps advanced and the input samples handed: what the summer's work at a boundary begins from. -/
def State.entered (s : State) : State := handInputs (advanceRamps s)

theorem entered_engine (s : State) :
    s.entered.engine = { s.engine with handed := some (Vector.ofFn (inputSampleOf s.rate s.ports.inputs)) } := by
  simp [State.entered, handInputs, advanceRamps, State.rate]

theorem entered_ports (s : State) :
    s.entered.ports = { s.ports with inputs := mapFin s.ports.inputs fun _ p => ⟨p.held.isSome, none⟩, direct := none } := by
  simp [State.entered, handInputs, advanceRamps]

theorem entered_causes (s : State) (c : Cause) :
    s.entered.causeSet c = (s.causeSet c || (((List.finRange 8).any fun j => s.ports.inputs[j].running && s.ports.inputs[j].held.isNone)
      && c == .inputSilent)) := by
  rw [State.entered, handInputs, causeSet_raiseIf]
  simp only [State.causeSet, advanceRamps, State.setPorts_control, State.setEngine_control, State.setStrips_control,
    State.setStrips_ports]

/-- The merge at a boundary raises nothing but MERGE DONE, and of the playback record changes the lists alone (R162). -/
theorem mergeBoundary_playback (s : State) :
    (mergeBoundary s).playback = { s.playback with strips := (mergeBoundary s).playback.strips } ∧
      ∀ c, c ≠ .mergeDone → (mergeBoundary s).causeSet c = s.causeSet c := by
  unfold mergeBoundary
  split
  · dsimp only
    split
    · exact ⟨rfl, fun c hc => by rw [causeSet_raise, beq_eq_false_iff_ne.mpr hc, Bool.or_false]; rfl⟩
    · exact ⟨rfl, fun _ _ => rfl⟩
  · exact ⟨rfl, fun _ _ => rfl⟩

/-- The counts of playback record, group line and surface port at a boundary (R136, R103, R133). -/
def advanceCounts (s : State) : State :=
  ((s.setPlayback (s.playback.boundary s.rate)).setGroup (s.group.boundary s.rate)).setSurface (s.surface.boundary s.rate)

theorem boundaryWork_eq (tag : Tag) (sample : Nat) (s : State) :
    boundaryWork tag sample s = mergeBoundary (advanceCounts (summerBoundary tag sample s.entered)) := by
  unfold boundaryWork State.entered advanceCounts
  dsimp only
  generalize summerBoundary tag sample (handInputs (advanceRamps s)) = v
  rfl

/-- What the advance of the ramps and the hand-over of samples leave, block by block. -/
theorem entered_keeps (s : State) :
    s.entered.straps = s.straps ∧ s.entered.tx = s.tx ∧ s.entered.peers = s.peers ∧ s.entered.summer = s.summer ∧
    s.entered.group = s.group ∧ s.entered.surface = s.surface ∧ s.entered.playback = s.playback ∧ s.entered.pass = s.pass ∧
    s.entered.strips = (advanceRamps s).strips := by
  refine ⟨?_, ?_, ?_, ?_, ?_, ?_, ?_, ?_, ?_⟩ <;> simp [State.entered, handInputs, advanceRamps]

/-- What the work of a frame boundary makes of a part, block by block (R117). -/
structure BoundaryDone (tag : Tag) (sample : Nat) (s t : State) : Prop where
  straps : t.straps = s.straps
  strips : ∀ i : Fin 64, t.strips[i] = { s.strips[i] with
    levelRamp := s.strips[i].levelRamp.advance, cutRamp := s.strips[i].cutRamp.advance }
  group : t.group = s.group.boundary s.rate
  surface : t.surface = s.surface.boundary s.rate
  playback : t.playback = { s.playback.boundary s.rate with strips := t.playback.strips }
  summer : SummerDone tag sample s.entered t
  causes : ∀ c, c ∉ .mergeDone :: summerCauses → t.causeSet c = s.entered.causeSet c

theorem boundaryDone (tag : Tag) (sample : Nat) (s : State) : BoundaryDone tag sample s (boundaryWork tag sample s) := by
  obtain ⟨-, -, straps, -, strips, group, surface, -⟩ := boundaryWork_blocks tag sample s
  obtain ⟨enteredStraps, -, -, -, -, -, enteredPlayback, -⟩ := entered_keeps s
  have frame := sumFrame_summerBoundary tag sample s.entered
  have sameStraps := frame.straps.trans enteredStraps
  have samePlayback := frame.playback.trans enteredPlayback
  have done := summerDone tag sample s.entered
  have quiet (c : Cause) (hc : c ∉ summerCauses) := summerBoundary_causes tag sample s.entered hc
  rw [boundaryWork_eq] at straps strips group surface ⊢
  generalize summerBoundary tag sample s.entered = v at *
  have playback : (advanceCounts v).playback = v.playback.boundary v.rate := rfl
  have rate : v.rate = s.rate := by rw [State.rate, sameStraps, State.rate]
  refine ⟨straps, fun i => ?_, group, surface, ?_, ?_, fun c hc => ?_⟩
  · rw [strips, advanceRamps, State.setStrips_strips, mapFin_get]
  · rw [(mergeBoundary_playback _).1, playback, rate, samePlayback]
  · obtain ⟨-, -, -, -, -, engine, tx, peers, summer, -, -, ports, -⟩ := mergeBoundary_keeps (advanceCounts v)
    exact ⟨engine.trans done.engine, tx.trans done.tx, ports.trans done.ports, peers.trans done.peers,
      (congrArg Summer.config summer).trans done.config, (congrArg Summer.pending summer).trans done.pending,
      (congrArg Summer.premix summer).trans done.premix, (congrArg Summer.suspended summer).trans done.suspended,
      (congrArg Summer.ownPremix summer).trans done.ownPremix, (congrArg Summer.ownStem summer).trans done.ownStem⟩
  · obtain ⟨merge, sum⟩ : c ≠ .mergeDone ∧ c ∉ summerCauses := by simpa using hc
    exact ((mergeBoundary_playback _).2 c merge).trans (quiet c sum)

/-! ### Every command that makes a boundary does that work -/

/-- The part as a boundary's work finds it: only the clock has moved, and CLOCK CHANGE may have been raised (R119). -/
structure AtBoundary (s u : State) : Prop where
  same : u = (s.setClock u.clock).setControl u.control
  causes : ∀ c, c ≠ .clockChange → u.causeSet c = s.causeSet c

theorem atBoundary_setClock {s u : State} (h : AtBoundary s u) (v : Clock) : AtBoundary s (u.setClock v) := by
  refine ⟨?_, h.causes⟩
  rw [h.same]
  rfl

theorem atBoundary_setClockState (c : Clock) (s : State) : AtBoundary s (setClockState c s) := by
  unfold setClockState
  generalize (s.clock.state != c.state) = b
  cases b with
  | true => exact ⟨rfl, fun d hd => by rw [raiseIf, if_pos rfl, causeSet_raise, beq_eq_false_iff_ne.mpr hd, Bool.or_false]; rfl⟩
  | false => exact ⟨rfl, fun d _ => rfl⟩

theorem atBoundary_refl (s : State) : AtBoundary s s := ⟨rfl, fun _ _ => rfl⟩

/-- A command makes the boundary that ends the frame of the tag and the sample in force. -/
def Bounds (s t : State) : Prop :=
  ∃ (u : State) (clock : Clock), AtBoundary s u ∧ t = (boundaryWork s.clock.tag s.clock.serial u).setClock clock

theorem setClock_self (s : State) : s.setClock s.clock = s := rfl

theorem setClock_setClock (s : State) (a b : Clock) : (s.setClock a).setClock b = s.setClock b := rfl

/-- A frame boundary made once the clock unit has moved to another state of the same frame. -/
theorem bounds_frameBoundary {s u : State} (h : AtBoundary s u) (tag : u.clock.tag = s.clock.tag)
    (serial : u.clock.serial = s.clock.serial) (time : Nat) (marked : Bool) : Bounds s (frameBoundary time marked u) := by
  have moved := atBoundary_setClock h (u.clock.boundary time (marked && u.clock.state == .locked))
  unfold frameBoundary
  dsimp only
  rw [tag, serial]
  generalize u.setClock (u.clock.boundary time (marked && u.clock.state == .locked)) = v at moved ⊢
  refine ⟨v, (boundaryWork s.clock.tag s.clock.serial v).clock, moved, ?_⟩
  rw [setClock_self]

theorem Bounds.setClock {s t : State} (h : Bounds s t) (clock : Clock) : Bounds s (t.setClock clock) := by
  obtain ⟨u, before, moved, eq⟩ := h
  exact ⟨u, clock, moved, by rw [eq, setClock_setClock]⟩

theorem setClockState_clock (c : Clock) (s : State) : (setClockState c s).clock = c := by
  rw [setClockState, raiseIf_clock, State.setClock_clock]

/-- The judgement of an edge leaves the tag and the sample of the frame (R109). -/
theorem Clock.judge_frame (rate : Rate) (time : Nat) (c : Clock) :
    (c.judge rate time).tag = c.tag ∧ (c.judge rate time).serial = c.serial := by
  unfold Clock.judge
  split
  · exact ⟨rfl, rfl⟩
  · exact ⟨rfl, rfl⟩
  · exact ⟨rfl, rfl⟩
  · exact ⟨rfl, rfl⟩
  · split <;> exact ⟨rfl, rfl⟩
  · split <;> exact ⟨rfl, rfl⟩

theorem bounds_referenceEdge {marked : Bool} {time : Nat} {s : State} (late : s.rate.half ≤ time - s.clock.latestBoundary) :
    Bounds s (referenceEdgeWork marked time s) := by
  unfold referenceEdgeWork
  dsimp only
  rw [if_neg (by simpa using late)]
  obtain ⟨tag, serial⟩ := Clock.judge_frame s.rate time s.clock
  refine bounds_frameBoundary (atBoundary_setClockState _ s) ?_ ?_ time marked
  · rw [setClockState_clock]
    exact tag
  · rw [setClockState_clock]
    exact serial

theorem bounds_loseReference (edge : Nat) (s : State) : Bounds s (loseReference edge s) := by
  unfold loseReference
  dsimp only
  refine Bounds.setClock (bounds_frameBoundary (atBoundary_setClockState _ s) ?_ ?_ _ _) _ <;> rw [setClockState_clock]

theorem onEvent_next {s : State} (pin : s.resetPin = false) (f : State → State) : onEvent s f = .next (f s) := by
  simp only [onEvent, pin, Bool.false_eq_true, ↓reduceIte]

/-- Every command that makes a frame boundary does the boundary's work (R109, R111, R115, R116, R117). -/
theorem exec_boundary {c : Instr} {s : State} (pin : s.resetPin = false) (h : makesBoundary s c) :
    ∃ t, exec c s = .next t ∧ Bounds s t := by
  cases c with
  | referenceEdge marked time => exact ⟨_, onEvent_next pin _, bounds_referenceEdge h⟩
  | dividerBoundary =>
    have free : s.clock.state = .free := h
    refine ⟨_, onEvent_next pin _, ?_⟩
    rw [if_pos free]
    exact bounds_frameBoundary (atBoundary_refl s) rfl rfl _ _
  | lossWindowExpiry =>
    obtain ⟨state, edge, inTime⟩ := h
    obtain ⟨e, edge⟩ := Option.ne_none_iff_exists'.mp edge
    refine ⟨loseReference e s, ?_, bounds_loseReference e s⟩
    rw [exec, execLossWindowExpiry, onEvent_next pin]
    rw [inTime, edge]
    rcases state with state | state <;> rw [state] <;> rfl
  | holdoverBoundary =>
    have holdover : s.clock.state = .holdover := h
    refine ⟨_, onEvent_next pin _, ?_⟩
    rw [if_pos holdover]
    exact (bounds_frameBoundary (atBoundary_refl s) rfl rfl _ _).setClock _
  | _ => exact h.elim

/-- The blocks that a boundary's work finds as the command found them. -/
theorem AtBoundary.blocks {s u : State} (h : AtBoundary s u) :
    u.straps = s.straps ∧ u.strips = s.strips ∧ u.engine = s.engine ∧ u.tx = s.tx ∧ u.peers = s.peers ∧ u.summer = s.summer ∧
    u.group = s.group ∧ u.surface = s.surface ∧ u.playback = s.playback ∧ u.pass = s.pass ∧ u.ports = s.ports := by
  rw [h.same]
  exact ⟨rfl, rfl, rfl, rfl, rfl, rfl, rfl, rfl, rfl, rfl, rfl⟩

/-- What a frame boundary makes of a part `s`: `v` is the part as its summer finds it, with ramps advanced and samples handed (R117). -/
structure BoundaryMade (s v t : State) : Prop where
  straps : v.straps = s.straps
  tx : v.tx = s.tx
  peers : v.peers = s.peers
  summer : v.summer = s.summer
  engine : v.engine = { s.engine with handed := some (Vector.ofFn (inputSampleOf s.rate s.ports.inputs)) }
  ports : v.ports = { s.ports with inputs := mapFin s.ports.inputs fun _ p => ⟨p.held.isSome, none⟩, direct := none }
  strips : ∀ i : Fin 64, t.strips[i] = { s.strips[i] with
    levelRamp := s.strips[i].levelRamp.advance, cutRamp := s.strips[i].cutRamp.advance }
  group : t.group = s.group.boundary s.rate
  surface : t.surface = s.surface.boundary s.rate
  playback : t.playback = { s.playback.boundary s.rate with strips := t.playback.strips }
  done : SummerDone s.clock.tag s.clock.serial v t
  causes : ∀ c, c ∉ .clockChange :: .mergeDone :: summerCauses → t.causeSet c = (s.causeSet c ||
    (((List.finRange 8).any fun j => s.ports.inputs[j].running && s.ports.inputs[j].held.isNone) && c == .inputSilent))

theorem Bounds.made {s t : State} (h : Bounds s t) : ∃ v, BoundaryMade s v t := by
  obtain ⟨u, clock, moved, eq⟩ := h
  obtain ⟨straps, strips, engine, tx, peers, summer, group, surface, playback, -, ports⟩ := moved.blocks
  obtain ⟨enteredStraps, enteredTx, enteredPeers, enteredSummer, -⟩ := entered_keeps u
  have enteredCauses := entered_causes u
  have enteredEngine := entered_engine u
  have enteredPorts := entered_ports u
  have rate : u.rate = s.rate := by rw [State.rate, straps, State.rate]
  obtain ⟨-, work, workGroup, workSurface, workPlayback, workSummer, workCauses⟩ :=
    boundaryDone s.clock.tag s.clock.serial u
  generalize boundaryWork s.clock.tag s.clock.serial u = w at *
  generalize u.entered = v at *
  subst eq
  rw [rate] at workGroup workSurface workPlayback enteredEngine
  rw [engine, ports] at enteredEngine
  rw [ports] at enteredPorts enteredCauses
  rw [strips] at work
  refine ⟨v, enteredStraps.trans straps, enteredTx.trans tx, enteredPeers.trans peers, enteredSummer.trans summer, enteredEngine,
    enteredPorts, work, group ▸ workGroup, surface ▸ workSurface, playback ▸ workPlayback, ⟨workSummer.engine, workSummer.tx,
    workSummer.ports, workSummer.peers, workSummer.config, workSummer.pending, workSummer.premix, workSummer.suspended,
    workSummer.ownPremix, workSummer.ownStem⟩, fun c hc => ?_⟩
  obtain ⟨clockChange, sum⟩ : c ≠ .clockChange ∧ c ∉ .mergeDone :: summerCauses := by simpa using hc
  rw [← moved.causes c clockChange, ← enteredCauses, ← workCauses c sum]
  rfl

/-- A command that makes a boundary makes of the part what the boundary's work makes of it (R117). -/
theorem exec_boundaryMade {c : Instr} {s : State} (pin : s.resetPin = false) (h : makesBoundary s c) :
    ∃ v t, exec c s = .next t ∧ BoundaryMade s v t := by
  obtain ⟨t, exec, bounds⟩ := exec_boundary pin h
  obtain ⟨v, made⟩ := bounds.made
  exact ⟨v, t, exec, made⟩

/-- The premix masters after a boundary: their ramps advanced, and nothing else (R84). -/
theorem BoundaryMade.premix {s v t : State} (h : BoundaryMade s v t) (p : Fin 64) :
    t.summer.premix[p] = { s.summer.premix[p] with
      levelRamp := s.summer.premix[p].levelRamp.advance, cutRamp := s.summer.premix[p].cutRamp.advance } := by
  rw [h.done.premix, readyToSum_premix, h.summer]

end Sys2Proof.Machine
end

section
/-! What every step keeps of the ramps, of the tuning of strips and masters, and of the codes; and where the gains move. -/

namespace Sys2Proof.Machine

/-- Work that keeps every ramp safe, a tuned part tuned, and every code in range. -/
structure Preserves (s t : State) : Prop where
  ramps : RampsSafe s → RampsSafe t
  tuned : StripsTuned s → StripsTuned t
  codes : CodesInRange s → CodesInRange t

theorem Preserves.trans {s t u : State} (h : Preserves s t) (k : Preserves t u) : Preserves s u :=
  ⟨k.ramps ∘ h.ramps, k.tuned ∘ h.tuned, k.codes ∘ h.codes⟩

theorem Kept.preserves {s t : State} (h : Kept s t) : Preserves s t := ⟨h.steady.rampsSafe, h.tuned, h.steady.codes⟩

/-- The ramps of a strip record moved, and nothing else of it; safe ramps stay safe. -/
structure Strip.Ramped (a b : Strip) : Prop where
  rest : b = { a with levelRamp := b.levelRamp, cutRamp := b.cutRamp }
  safe : rampsFor a.effLevel a.effCut a.levelRamp a.cutRamp → rampsFor b.effLevel b.effCut b.levelRamp b.cutRamp

theorem Strip.Ramped.sameTuning {a b : Strip} (h : a.Ramped b) : a.SameTuning b := by
  rw [h.rest]
  exact ⟨rfl, rfl, rfl, rfl, rfl, rfl, rfl, rfl⟩

theorem Strip.Ramped.inRange {a b : Strip} (h : a.Ramped b) (k : a.inRange) : b.inRange := by
  rw [h.rest]
  exact k

/-- Work that moves ramps, and leaves all else that safety speaks of. -/
theorem preserves_of_ramped {s t : State} (straps : t.straps = s.straps) (strips : ∀ i : Fin 64, s.strips[i].Ramped t.strips[i])
    (premix : ∀ p : Fin 64, rampsFor s.summer.premix[p].code s.summer.premix[p].cut s.summer.premix[p].levelRamp
      s.summer.premix[p].cutRamp → rampsFor t.summer.premix[p].code t.summer.premix[p].cut t.summer.premix[p].levelRamp
      t.summer.premix[p].cutRamp)
    (table : t.group.table = s.group.table) (solo : t.group.soloLevel = s.group.soloLevel)
    (mastered : t.group.mastered = s.group.mastered) (auto : t.playback.strips = s.playback.strips)
    (journal : t.pass.journal = s.pass.journal) (faders : t.surface.faders = s.surface.faders) : Preserves s t := by
  refine ⟨fun h => ⟨fun i => (strips i).safe (h.1 i), fun p => premix p (h.2 p)⟩, ?_, ?_⟩
  · exact StripsTuned.congr straps (fun i => (strips i).sameTuning) table solo mastered
  · exact CodesInRange.congr (fun i => (strips i).inRange) auto journal faders

/-! ### A frame boundary -/

theorem advanceCounts_keeps (s : State) :
    (advanceCounts s).group.table = s.group.table ∧ (advanceCounts s).group.soloLevel = s.group.soloLevel ∧
    (advanceCounts s).group.mastered = s.group.mastered ∧ (advanceCounts s).playback.strips = s.playback.strips ∧
    (advanceCounts s).surface.faders = s.surface.faders := ⟨rfl, rfl, rfl, rfl, rfl⟩

/-- What a boundary does before the merge. -/
theorem preserves_beforeMerge (tag : Tag) (sample : Nat) (s : State) :
    Preserves s (advanceCounts (summerBoundary tag sample s.entered)) := by
  obtain ⟨straps, -, -, summer, group, surface, playback, pass, strips⟩ := entered_keeps s
  have frame := sumFrame_summerBoundary tag sample s.entered
  have premix := (summerDone tag sample s.entered).premix
  generalize summerBoundary tag sample s.entered = v at *
  obtain ⟨countedTable, countedSolo, countedMastered, countedAuto, countedFaders⟩ := advanceCounts_keeps v
  generalize s.entered = u at *
  refine preserves_of_ramped (frame.straps.trans straps) (fun i => ?_) (fun p safe => ?_) ?_ ?_ ?_ ?_ ?_ ?_
  · have strip : (advanceCounts v).strips[i] = { s.strips[i] with
        levelRamp := s.strips[i].levelRamp.advance, cutRamp := s.strips[i].cutRamp.advance } := by
      have same : (advanceCounts v).strips = (advanceRamps s).strips := frame.strips.trans strips
      rw [same, advanceRamps, State.setStrips_strips, mapFin_get]
    rw [strip]
    exact ⟨rfl, rampsFor_advance⟩
  · have master : (advanceCounts v).summer.premix[p] = { s.summer.premix[p] with
        levelRamp := s.summer.premix[p].levelRamp.advance, cutRamp := s.summer.premix[p].cutRamp.advance } := by
      have same : (advanceCounts v).summer.premix = (u.readyToSum tag).summer.premix := premix
      rw [same, readyToSum_premix, summer]
    rw [master]
    exact rampsFor_advance safe
  · rw [countedTable, frame.group, group]
  · rw [countedSolo, frame.group, group]
  · rw [countedMastered, frame.group, group]
  · rw [countedAuto, frame.playback, playback]
  · exact congrArg Pass.journal (frame.pass.trans pass)
  · rw [countedFaders, frame.surface, surface]

theorem preserves_boundaryWork (tag : Tag) (sample : Nat) (s : State) : Preserves s (boundaryWork tag sample s) := by
  rw [boundaryWork_eq]
  exact (preserves_beforeMerge tag sample s).trans (kept_mergeBoundary _).preserves

theorem AtBoundary.kept {s u : State} (h : AtBoundary s u) : Kept s u := by
  rw [h.same]
  exact (kept_setClock s _).trans (kept_setControl _ _)

theorem Bounds.preserves {s t : State} (h : Bounds s t) : Preserves s t := by
  obtain ⟨u, clock, moved, rfl⟩ := h
  exact (moved.kept.preserves.trans (preserves_boundaryWork _ _ u)).trans (kept_setClock _ clock).preserves

/-! ### ENGINE RESTART (R174) -/

theorem preserves_setStrips {s : State} {v : Vector Strip 64} (strips : ∀ i : Fin 64, s.strips[i].Ramped v[i]) :
    Preserves s (s.setStrips v) := preserves_of_ramped rfl strips (fun _ => id) rfl rfl rfl rfl rfl rfl

theorem preserves_setSummer {s : State} {v : Summer}
    (premix : ∀ p : Fin 64, rampsFor s.summer.premix[p].code s.summer.premix[p].cut s.summer.premix[p].levelRamp
      s.summer.premix[p].cutRamp → rampsFor v.premix[p].code v.premix[p].cut v.premix[p].levelRamp v.premix[p].cutRamp) :
    Preserves s (s.setSummer v) := preserves_of_ramped rfl (fun _ => ⟨rfl, id⟩) premix rfl rfl rfl rfl rfl rfl

theorem preserves_restartStrips (s : State) : Preserves s (restartStrips s) := by
  unfold restartStrips
  refine (preserves_setStrips fun i => ?_).trans (kept_setEngine _ _).preserves
  rw [mapFin_get]
  exact ⟨rfl, rampsFor_snap⟩

theorem kept_restartTx (s : State) : Kept s (restartTx s) := kept_setTx s _

theorem kept_restartPeers (s : State) : Kept s (restartPeers s) := (kept_setPeers s _).trans (kept_raiseIf _ _ _)

theorem preserves_restartSummer (s : State) : Preserves s (restartSummer s) := by
  refine preserves_setSummer fun p safe => ?_
  rw [mapFin_get]
  exact rampsFor_snap safe

theorem seek_keeps (s : State) : (seek s).strips = s.strips ∧ (seek s).group.mastered = s.group.mastered := ⟨rfl, rfl⟩

theorem kept_restartGroup (s : State) : Kept s (restartGroup s) := by
  unfold restartGroup
  dsimp only
  refine Kept.trans ?_ (tuneFrame_foldl (fun t (m : Master) => tuneFrame_refreshGroup m.group t) _ _).kept
  refine kept_retuneAll ((lineFrame_setGroup s _).trans (tuneFrame_seek _).line) ?_ ?_
  · rw [(seek_keeps _).1, State.setGroup_strips]
  · rw [(seek_keeps _).2, State.setGroup_group]

theorem kept_restartSurface (s : State) : Kept s (restartSurface s) := by
  refine kept_setSurface fun h i => ?_
  rw [mapFin_get]
  exact h.fader i

theorem kept_restartAutoStrip {i : Fin 64} {s : State} (hi : s.hasStrip i = true) : Kept s (restartAutoStrip i s) := by
  have settled : Kept s (modAuto i (fun a => { a with touched := false, phase := .follow, cutLive := false }) s) :=
    kept_modAuto fun h => AutoStrip.inRange_leaveGlide (h.auto i) (by decide) false false
  unfold restartAutoStrip
  dsimp only
  generalize modAuto i (fun a => { a with touched := false, phase := .follow, cutLive := false }) s = u at settled ⊢
  split
  · have read := settled.trans (kept_readStrip i u)
    exact read.trans (kept_handValues (read.hasStrip hi))
  · exact settled.trans (kept_handValues (settled.hasStrip hi))

theorem kept_restartPass (s : State) : Kept s (restartPass s) := by
  have dropped : Kept s (s.setPass { s.pass with punches := Vector.replicate 64 ⟨none, none⟩, mergeList := [] }) :=
    kept_setPass_same rfl
  have ended := dropped.trans (kept_endPass _)
  unfold restartPass
  dsimp only
  split
  · exact .refl s
  · exact ended
  · exact ended
  · exact ended.trans (kept_raise _ _)

theorem preserves_restartWork (s : State) : Preserves s (restartWork s) := by
  unfold restartWork
  dsimp only
  have engine := ((preserves_restartStrips s).trans (kept_restartTx _).preserves).trans (kept_restartPeers _).preserves
  have audio := engine.trans (preserves_restartSummer _)
  have line := audio.trans ((kept_restartGroup _).trans (kept_restartSurface _)).preserves
  have ridden := line.trans (forStrips_kept (fun i t hi => kept_restartAutoStrip hi) _).preserves
  exact ridden.trans ((kept_restartPass _).trans (kept_setPorts _ _)).preserves

theorem preserves_engineRestart {address : BitVec 16} {data : List Byte} {s t : State}
    (h : exec (.engineRestart address data) s = .next t) : Preserves s t := by
  obtain rfl := Host.Outcome.next.inj h
  split
  · exact (kept_setControl s _).preserves
  · split
    · exact (preserves_restartWork s).trans (kept_respond _ _ _).preserves
    · exact (kept_respond _ _ s).preserves

/-! ### The resets (R173) -/

theorem strip_resetTo (straps : Straps) (s : State) (i : Fin 64) : (resetTo straps s).strips[i] = Strip.reset i := by
  simp [resetTo, State.resetWith]

theorem rampsSafe_resetTo (straps : Straps) (s : State) : RampsSafe (resetTo straps s) := by
  refine ⟨fun i => ?_, fun p => ?_⟩
  · rw [strip_resetTo]
    exact rampsFor_reset
  · have master : (resetTo straps s).summer.premix[p] = PremixMaster.reset := by simp [resetTo, State.resetWith, Summer.reset]
    rw [master]
    exact rampsFor_reset

/-- A part just reset has no GROUP MASTER and no mastered group, and every strip stands at level 0 with its cut gain at unity. -/
theorem stripsTuned_resetTo (straps : Straps) (s : State) : StripsTuned (resetTo straps s) := by
  have mastered : (resetTo straps s).group.mastered = [] := rfl
  have audio (i : Fin 64) : (resetTo straps s).strips[i].role = .audio := by rw [strip_resetTo]; rfl
  have noMaster {i : Fin 64} {g : Fin 32} (role : (resetTo straps s).strips[i].role = .groupMaster g) : False := by
    rw [audio] at role
    cases role
  rw [stripsTuned_iff]
  refine ⟨fun i _ => ⟨fun _ => ?_, fun g role => (noMaster role).elim⟩, ⟨fun i j g _ _ role => (noMaster role).elim, ?_, ?_⟩⟩
  · rw [strip_resetTo]
    exact ⟨rfl, rfl⟩
  · rw [mastered]
    exact fun g hg => absurd hg List.not_mem_nil
  · rw [mastered]
    exact .nil

theorem Strip.inRange_reset (i : Fin 64) : (Strip.reset i).inRange := by
  simp [Strip.inRange, Strip.reset, Send.reset]

theorem AutoStrip.inRange_reset : AutoStrip.reset.inRange := by simp [AutoStrip.inRange, AutoStrip.reset]

theorem codesInRange_resetTo (straps : Straps) (s : State) : CodesInRange (resetTo straps s) := by
  refine ⟨fun i => ?_, fun i => ?_, fun r hr => absurd hr List.not_mem_nil, fun i => ?_⟩
  · rw [strip_resetTo]
    exact Strip.inRange_reset i
  · have record : (resetTo straps s).playback.strips[i] = AutoStrip.reset := by simp [resetTo, State.resetWith, Playback.reset]
    rw [record]
    exact AutoStrip.inRange_reset
  · have fader : (resetTo straps s).surface.faders[i] = Fader.reset := by simp [resetTo, State.resetWith, Surface.reset]
    rw [fader]
    decide

theorem preserves_resetTo (straps : Straps) (s : State) : Preserves s (resetTo straps s) :=
  ⟨fun _ => rampsSafe_resetTo straps s, fun _ => stripsTuned_resetTo straps s, fun _ => codesInRange_resetTo straps s⟩

theorem kept_setResetPin (s : State) (v : Bool) : Kept s (s.setResetPin v) :=
  Quiet.kept ⟨rfl, rfl, rfl, rfl, rfl, rfl, rfl, rfl, rfl⟩

theorem kept_resetPinAssert {s t : State} (h : execResetPinAssert s = .next t) : Kept s t := by
  obtain rfl := Host.Outcome.next.inj h
  refine Kept.trans ?_ (kept_setResetPin _ true)
  refine Kept.trans ?_ (kept_setControl _ _)
  refine (kept_setTx s { s.tx with inFlight := none, waiting := none }).trans ?_
  exact kept_setQueue rfl rfl rfl

/-! ### Every command -/

/-- A command that would make a boundary does nothing while RESET is asserted (R173). -/
theorem exec_boundary_pinned {c : Instr} {s : State} (pin : s.resetPin = true) (h : makesBoundary s c) : exec c s = .next s := by
  have idle (f : State → State) : onEvent s f = .next s := by simp only [onEvent, pin, ↓reduceIte]
  cases c with
  | referenceEdge marked time => exact idle _
  | dividerBoundary => exact idle _
  | lossWindowExpiry =>
    rw [exec, execLossWindowExpiry]
    exact idle _
  | holdoverBoundary => exact idle _
  | _ => exact h.elim

theorem exec_preserves {c : Instr} {s t : State} (h : exec c s = .next t) : Preserves s t := by
  by_cases bound : makesBoundary s c
  · cases pin : s.resetPin with
    | true =>
      obtain rfl := Host.Outcome.next.inj ((exec_boundary_pinned pin bound).symm.trans h)
      exact (Kept.refl s).preserves
    | false =>
      obtain ⟨u, ran, bounds⟩ := exec_boundary pin bound
      obtain rfl := Host.Outcome.next.inj (ran.symm.trans h)
      exact bounds.preserves
  · by_cases restart : ∃ address data, c = .engineRestart address data
    · obtain ⟨address, data, rfl⟩ := restart
      exact preserves_engineRestart h
    · cases c with
      | powerOnReset straps =>
        obtain rfl := Host.Outcome.next.inj h
        exact preserves_resetTo straps s
      | resetPinRelease straps =>
        obtain rfl := Host.Outcome.next.inj h
        exact preserves_resetTo straps s
      | resetPinAssert => exact (kept_resetPinAssert h).preserves
      | _ => exact (exec_kept h bound id fun a d e => restart ⟨a, d, e⟩).preserves

/-- What a step preserves: that of the command it takes from the queue. -/
theorem step_preserves {s t : State} (h : step s = .next t) : Preserves s t := by
  unfold step at h
  split at h
  · obtain rfl := Host.Outcome.next.inj h
    exact (Kept.refl s).preserves
  · exact (kept_setPending s _).preserves.trans (exec_preserves h)

/-- Settles O16: every command either moves no gain and keeps the ramps aimed, or advances, snaps or resets them all. -/
theorem stepKeepsRampsSafe : Obligations.StepKeepsRampsSafe := fun _ _ safe h => (step_preserves h).ramps safe

/-- Settles O23: no command leaves an existing strip's level, cut or master stale, nor a code out of range. -/
theorem stepKeepsStripsTunedAndCodesInRange : Obligations.StepKeepsStripsTunedAndCodesInRange :=
  ⟨fun _ _ tuned h => (step_preserves h).tuned tuned, fun _ _ codes h => (step_preserves h).codes codes⟩

/-! ### Where the gains move -/

/-- Every command has a next state: no event stops the part, and none is refused by the model. -/
theorem exec_total (c : Instr) (s : State) : ∃ t, exec c s = .next t := by cases c <;> exact ⟨_, rfl⟩

/-- Settles O15: a boundary advances every ramp once, and no other command but a reset or ENGINE RESTART moves a gain. -/
theorem gainsMoveOnlyAtBoundaries : Obligations.GainsMoveOnlyAtBoundaries := by
  intro c s pin
  obtain ⟨t, ran⟩ := exec_total c s
  refine ⟨t, ran, fun bound i => ?_, fun noBoundary noReset noRestart i => ?_⟩
  · obtain ⟨v, u, bounds, made⟩ := exec_boundaryMade pin bound
    obtain rfl := Host.Outcome.next.inj (bounds.symm.trans ran)
    exact ⟨made.strips i, made.premix i⟩
  · obtain ⟨-, strips, premix, -⟩ := (exec_kept ran noBoundary noReset noRestart).steady
    exact ⟨(strips i).level, (strips i).gate, (premix i).level, (premix i).gate⟩

end Sys2Proof.Machine
end

section
/-! The totals of a frame boundary: what each bus of the accumulation set sums (R17, R64, R66, R79). -/

namespace Sys2Proof.Machine

/-! ### Peers at a boundary (R60 to R66) -/

theorem Peer.rise_state (p : Peer) : p.rise.state = p.state ∧ p.rise.last = p.last := by
  unfold Peer.rise
  split <;> exact ⟨rfl, rfl⟩

/-- The frame that a peer in LIVE or HOLD gives, with its fade position; none in another state (R64). -/
theorem Peer.contribution_eq (p : Peer) :
    p.contribution = if p.state = .live ∨ p.state = .hold then p.last.map fun f => (f, p.fade) else none := by
  unfold Peer.contribution
  cases p.state <;> rfl

/-- An answered peer fades on from where it stood, but from 0 where it entered LIVE from ACQUIRING (R66). -/
theorem Peer.answered_fade {p : Peer} {f : LaneFrame} {rest : List LaneFrame}
    (live : (p.answered f rest).state = .live ∨ (p.answered f rest).state = .hold) :
    (p.answered f rest).fade = if p.state = .acquiring then 0 else p.fade := by
  unfold Peer.answered at live ⊢
  dsimp only at live ⊢
  by_cases acquiring : p.state = .acquiring
  · have entered : PeerState.afterOnTime (min 16 (p.good + 1)) p.state = .live := by
      rw [acquiring] at live ⊢
      unfold PeerState.afterOnTime at live ⊢
      dsimp only at live ⊢
      split at live
      · exact if_pos ‹_›
      · simp at live
    rw [if_pos ⟨acquiring, entered⟩, if_pos acquiring]
  · rw [if_neg fun h => acquiring h.1, if_neg acquiring]

/-- An unanswered peer in LIVE or HOLD was not ACQUIRING, and keeps its fade position (R63, R66). -/
theorem Peer.unanswered_fade {p : Peer} {rest : List LaneFrame}
    (live : (p.unanswered rest).state = .live ∨ (p.unanswered rest).state = .hold) :
    (p.unanswered rest).fade = if p.state = .acquiring then 0 else p.fade := by
  unfold Peer.unanswered at live ⊢
  dsimp only at live ⊢
  have present : PeerState.afterMiss (min 8 (p.miss + 1)) p.state ≠ .absent := by
    rintro absent
    rw [absent] at live
    simp at live
  have held : p.state ≠ .acquiring := by
    intro acquiring
    rw [acquiring] at live
    unfold PeerState.afterMiss at live
    dsimp only at live
    split at live <;> simp at live
  rw [if_neg fun h => present h.2, if_neg held]

theorem Peer.request_fade {p : Peer} {tag : Tag} (live : (p.request tag).state = .live ∨ (p.request tag).state = .hold) :
    (p.request tag).fade = if p.state = .acquiring then 0 else p.fade := by
  unfold Peer.request at live ⊢
  dsimp only at live ⊢
  split at live
  · exact Peer.answered_fade live
  · exact Peer.unanswered_fade live

/-! ### Sums over the peers and lookups in the totals -/

/-- A sum over the places that a filter picks is a sum over all places, with 0 where it picks none. -/
theorem sum_map_filterMap {α β : Type} (f : α → Option β) (g : β → Int) (l : List α) :
    ((l.filterMap f).map g).sum = (l.map fun a => (f a).elim 0 g).sum := by
  induction l with
  | nil => rfl
  | cons a l ih => cases h : f a <;> simp [h, ih]

theorem lookup_totalsOf (buses : List Nat) (p : Nat → Bool) (own : BusList) (peers : List (BusList × Nat)) (b : Nat) :
    (totalsOf buses p own peers).lookup b = if b ∈ buses ∧ p b then some (busTotal own peers b) else none := by
  unfold totalsOf
  split
  · next h => exact List.lookup_graph (busTotal own peers) (List.mem_filter.mpr h)
  · next h =>
    rw [List.lookup_eq_none_iff]
    intro e he
    obtain ⟨c, hc, rfl⟩ := List.mem_map.mp he
    have : b ≠ c := fun e => h (e ▸ List.mem_filter.mp hc)
    simpa using this

/-- The entries of a frame for a bus: section A for a premix channel, section B for a stem bus (R40). -/
def LaneFrame.entryFor (f : LaneFrame) (b : Nat) : Int := BusList.value (if b < 64 then f.a else f.b) b

/-- What a slot's peer record adds to a bus's total (R17, R64, R66). -/
def Peer.share (p : Peer) (b : Nat) : Int := p.contribution.elim 0 fun (f, k) => fadeTerm (f.entryFor b) k

/-- The total of a bus, whose entries the section picked holds: the peers' shares summed slot by slot. -/
theorem busTotal_given {s : State} {own : BusList} {b : Nat} {pick : LaneFrame → BusList}
    (picked : ∀ f, (pick f).value b = f.entryFor b) :
    busTotal own (s.given.map fun (_, f, k) => (pick f, k)) b =
      satWide (own.value b + ∑ j : Fin 16, if j = s.straps.slot then 0 else s.peers[j].share b) := by
  unfold busTotal
  rw [List.map_map, State.given, Fin.sum_univ_def, sum_map_filterMap]
  congr 4
  funext j
  split
  · rfl
  · unfold Peer.share
    cases s.peers[j].contribution with
    | none => rfl
    | some e => exact congrArg (fadeTerm · e.2) (picked e.1)

/-- The totals of a boundary, bus by bus (R79). -/
theorem lookup_totals (tag : Tag) (sample : Nat) (s : State) (b : Nat) :
    (s.totals tag sample).lookup b = if b ∈ s.summer.pending.buses then
      some (satWide ((s.ownShare (if b < 64 then ownList s.summer.ownPremix sample
        else if sample = 0 then [] else ownList s.summer.ownStem (sample - 1))).value b +
        ∑ j : Fin 16, if j = s.straps.slot then 0 else (s.answered tag).peers[j].share b)) else none := by
  have straps := (sumStage_answered tag s).straps
  rw [State.totals, List.lookup_append, State.premixTotals, State.stemTotals, lookup_totalsOf, lookup_totalsOf, ← straps]
  by_cases member : b ∈ s.summer.pending.buses
  · by_cases premix : b < 64
    · rw [if_pos ⟨member, by simpa using premix⟩, if_pos member, if_pos premix, Option.some_or,
        busTotal_given fun f => by rw [LaneFrame.entryFor, if_pos premix]]
    · rw [if_neg fun h => premix (by simpa using h.2), if_pos ⟨member, by simpa using premix⟩, if_pos member, if_neg premix,
        Option.none_or, busTotal_given fun f => by rw [LaneFrame.entryFor, if_neg premix]]
  · rw [if_neg fun h => member h.1, if_neg fun h => member h.1, if_neg member]
    rfl

/-! ### The obligation -/

theorem BusList.value_nil (b : Nat) : BusList.value [] b = 0 := rfl

/-- The share of a slot's peer in a total is the term that the part shows after the boundary. -/
theorem BoundaryMade.peerTerm {s v t : State} (h : BoundaryMade s v t) (b : Nat) (j : Fin 16) :
    peerTerm s t b j = if j = s.straps.slot then 0 else (v.answered s.clock.tag).peers[j].share b := by
  unfold Machine.peerTerm
  split
  · rfl
  · next other =>
    have asked : (v.answered s.clock.tag).peers[j] = s.peers[j].request s.clock.tag := by
      rw [answered_peers, h.straps, if_neg other, h.peers]
    have risen : t.peers[j] = (s.peers[j].request s.clock.tag).rise := by
      rw [h.done.peers, readyToSum_peers, h.straps, if_neg other, h.peers]
    obtain ⟨state, last⟩ := (s.peers[j].request s.clock.tag).rise_state
    rw [asked, risen, Peer.share, Peer.contribution_eq, state, last]
    split
    · next live =>
      rw [Peer.request_fade live]
      cases (s.peers[j].request s.clock.tag).last <;> rfl
    · rfl

/-- The own share of a total is the own contribution, unless the station is listen-only (R78, R81, R91). -/
theorem BoundaryMade.ownShare {s v t : State} (h : BoundaryMade s v t) (b : Nat) :
    (v.ownShare (if b < 64 then ownList v.summer.ownPremix s.clock.serial
      else if s.clock.serial = 0 then [] else ownList v.summer.ownStem (s.clock.serial - 1))).value b =
      if s.listenOnly then 0 else s.ownContribution b := by
  have listen : v.listenOnly = s.listenOnly := by rw [State.listenOnly, h.tx, State.listenOnly]
  have restarted : v.engine.restarted = s.engine.restarted := by rw [h.engine]
  rw [State.ownShare, listen, restarted, h.summer, State.ownContribution]
  cases s.listenOnly with
  | true => rfl
  | false =>
    cases s.engine.restarted with
    | true => rfl
    | false =>
      by_cases premix : b < 64
      · simp only [premix, ↓reduceIte, Bool.or_self, Bool.false_eq_true, ownList]
      · by_cases first : s.clock.serial = 0
        · simp only [premix, first, ↓reduceIte, Bool.or_self, Bool.false_eq_true, BusList.value_nil]
        · simp only [premix, first, ↓reduceIte, Bool.or_self, Bool.false_eq_true, ownList]

/-- Settles O31: the totals of the summer's own steps, with each peer's share read off the part after the boundary. -/
theorem boundaryFormsTheTotals : Obligations.BoundaryFormsTheTotals := by
  intro c s pin bound
  obtain ⟨v, t, ran, made⟩ := exec_boundaryMade pin bound
  have ports := made.done.ports
  refine ⟨t, ran, ?_, ?_, ?_, fun b _ => ?_⟩
  · rw [made.done.config, made.summer]
  · rw [made.done.pending, made.summer]
  · rw [ports]
  · have totals : t.ports.totals = v.totals s.clock.tag s.clock.serial := by rw [ports]
    rw [totals, lookup_totals, made.ownShare]
    simp only [made.peerTerm, made.straps, made.summer]

end Sys2Proof.Machine
end

section
/-! Lists of (bus, value) pairs: which buses they hold and what they sum at each (R29 to R31). -/

namespace Sys2Proof.Machine

theorem mem_busesFrom {lo b : Nat} {p : Nat → Bool} : b ∈ busesFrom lo p ↔ lo ≤ b ∧ b < lo + 64 ∧ p b = true := by
  unfold busesFrom
  rw [List.mem_filter, List.mem_map, ← and_assoc]
  refine and_congr_left fun _ => ⟨?_, fun ⟨le, lt⟩ => ⟨b - lo, List.mem_range.mpr (by omega), by omega⟩⟩
  rintro ⟨k, hk, rfl⟩
  have := List.mem_range.mp hk
  omega

theorem pairwise_busesFrom (lo : Nat) (p : Nat → Bool) : (busesFrom lo p).Pairwise (· < ·) := by
  unfold busesFrom
  refine (List.Pairwise.map _ (fun a b (h : a < b) => ?_) List.pairwise_lt_range).filter _
  omega

/-- A list that pairs each of its buses with a value holds those buses, in their order. -/
theorem map_fst_pairs (l : List Nat) (f : Nat → Int) : (l.map fun b => (b, f b)).map Prod.fst = l := by
  rw [List.map_map, Function.comp_def]
  exact List.map_id l

theorem mem_pairs {l : List Nat} {f : Nat → Int} {b : Nat} {v : Int} : (b, v) ∈ l.map (fun b => (b, f b)) ↔ b ∈ l ∧ v = f b := by
  simp only [List.mem_map, Prod.mk.injEq]
  constructor
  · rintro ⟨_, h, rfl, rfl⟩
    exact ⟨h, rfl⟩
  · rintro ⟨h, rfl⟩
    exact ⟨b, h, rfl, rfl⟩

theorem targets_iff {terms : BusList} {b : Nat} : targets terms b = true ↔ ∃ v, (b, v) ∈ terms := by
  simp only [targets, List.any_eq_true, beq_iff_eq, Prod.exists]
  constructor
  · rintro ⟨_, v, h, rfl⟩
    exact ⟨v, h⟩
  · rintro ⟨v, h⟩
    exact ⟨b, v, h, rfl⟩

/-! ### Sums at a bus -/

theorem sumAt_nil (b : Nat) : sumAt [] b = 0 := rfl

theorem sumAt_cons (e : Nat × Int) (l : BusList) (b : Nat) : sumAt (e :: l) b = (if e.1 = b then e.2 else 0) + sumAt l b := by
  by_cases h : e.1 = b <;> simp [sumAt, h]

theorem sumAt_append (l m : BusList) (b : Nat) : sumAt (l ++ m) b = sumAt l b + sumAt m b := by
  simp only [sumAt, List.filter_append, List.map_append, List.sum_append]

theorem sumAt_flatMap {α : Type} (f : α → BusList) (l : List α) (b : Nat) :
    sumAt (l.flatMap f) b = (l.map fun a => sumAt (f a) b).sum := by
  induction l with
  | nil => rfl
  | cons a l ih => rw [List.flatMap_cons, sumAt_append, ih, List.map_cons, List.sum_cons]

theorem sumAt_finRange {n : Nat} (f : Fin n → BusList) (b : Nat) :
    sumAt ((List.finRange n).flatMap f) b = ∑ i : Fin n, sumAt (f i) b := by
  rw [sumAt_flatMap, Fin.sum_univ_def]

theorem toList_eq_map {α : Type} {n : Nat} (v : Vector α n) : v.toList = (List.finRange n).map fun i => v[i] := by
  refine List.ext_getElem (by simp) fun i h k => ?_
  simp

end Sys2Proof.Machine
end

section
/-! The completed own stem contributions of a frame boundary (R31, R84). -/

namespace Sys2Proof.Machine

/-! ### The terms of a master -/

/-- The stem bus that a premix-to-stem send targets (R84). -/
def PremixSend.bus (send : PremixSend) : Option Nat := send.target.map fun stem => 64 + stem.val

theorem PremixSend.sumAt_term (send : PremixSend) (m : Int) (b : Nat) :
    sumAt (send.term m) b = if send.bus = some b then product m (coefficient send.code) else 0 := by
  unfold PremixSend.term PremixSend.bus
  cases send.target with
  | none => rfl
  | some stem =>
    dsimp only
    simp only [sumAt_cons, sumAt_nil, add_zero, Option.map_some, Option.some.injEq]

theorem PremixSend.mem_term {send : PremixSend} {m : Int} {b : Nat} : (∃ v, (b, v) ∈ send.term m) ↔ send.bus = some b := by
  unfold PremixSend.term PremixSend.bus
  cases send.target with
  | none => simp
  | some stem =>
    dsimp only
    simp only [List.mem_singleton, Prod.mk.injEq, exists_and_left, exists_eq, and_true, Option.map_some, Option.some.injEq]
    exact eq_comm

theorem PremixMaster.sumAt_terms (m : PremixMaster) (total : Int) (b : Nat) :
    sumAt (m.terms total) b =
      ∑ k : Fin 2, if (m.send k).bus = some b then product (m.output total) (coefficient (m.send k).code) else 0 := by
  rw [PremixMaster.terms, sumAt_append, PremixSend.sumAt_term, PremixSend.sumAt_term, Fin.sum_univ_two]
  rfl

theorem PremixMaster.mem_terms {m : PremixMaster} {total : Int} {b : Nat} :
    (∃ v, (b, v) ∈ m.terms total) ↔ ∃ k : Fin 2, (m.send k).bus = some b := by
  simp only [PremixMaster.terms, List.mem_append, exists_or, PremixSend.mem_term, Fin.exists_fin_two]
  rfl

/-- Whether a premix channel's master gives terms: the channel is owned in force and not suspended (R84). -/
def State.givesTerms (s : State) (p : Fin 64) : Prop := p.val ∈ s.summer.config.owned ∧ p.val ∉ s.summer.suspended

theorem givesTerms_iff (s : State) (p : Fin 64) :
    (s.summer.config.owned.contains p.val && !s.summer.suspended.contains p.val) = true ↔ s.givesTerms p := by
  simp [State.givesTerms]

/-- The premix-to-stem terms that the masters of `s` give, seen from a part `t` with the same masters and the totals handed (R84). -/
theorem sumAt_premixTerms {s t : State} {totals : BusList} (config : t.summer.config = s.summer.config)
    (suspended : t.summer.suspended = s.summer.suspended) (premix : t.summer.premix = s.summer.premix)
    (handed : ∀ p : Fin 64, t.ports.totals.value p.val = totals.value p.val) (b : Nat) :
    sumAt (s.premixTerms totals) b = ∑ p : Fin 64, ∑ k : Fin 2, t.masterTerm b p k := by
  rw [State.premixTerms, sumAt_finRange]
  refine Finset.sum_congr rfl fun p _ => ?_
  unfold State.masterTerm
  rw [config, suspended, premix, handed]
  by_cases gives : s.givesTerms p
  · obtain ⟨owned, heard⟩ := gives
    rw [if_pos ((givesTerms_iff s p).mpr ⟨owned, heard⟩), PremixMaster.sumAt_terms]
    refine Finset.sum_congr rfl fun k _ => ?_
    simp only [owned, heard, not_false_eq_true, true_and]
    rfl
  · rw [if_neg fun h => gives ((givesTerms_iff s p).mp h), sumAt_nil]
    exact (Finset.sum_eq_zero fun k _ => if_neg fun h => gives ⟨h.1, h.2.1⟩).symm

theorem targets_premixTerms {s t : State} {totals : BusList} (config : t.summer.config = s.summer.config)
    (suspended : t.summer.suspended = s.summer.suspended) (premix : t.summer.premix = s.summer.premix) (b : Nat) :
    targets (s.premixTerms totals) b = true ↔ ∃ (p : Fin 64) (k : Fin 2), t.masterAims b p k := by
  rw [targets_iff, State.premixTerms]
  unfold State.masterAims
  rw [config, suspended, premix]
  simp only [List.mem_flatMap, List.mem_finRange, true_and]
  rw [exists_comm]
  refine exists_congr fun p => ?_
  by_cases gives : s.givesTerms p
  · obtain ⟨owned, heard⟩ := gives
    rw [if_pos ((givesTerms_iff s p).mpr ⟨owned, heard⟩), PremixMaster.mem_terms]
    exact exists_congr fun k => ⟨fun h => ⟨owned, heard, h⟩, fun h => h.2.2⟩
  · rw [if_neg fun h => gives ((givesTerms_iff s p).mp h)]
    simp only [List.not_mem_nil, exists_false, false_iff, not_exists]
    exact fun k h => gives ⟨h.1, h.2.1⟩

/-! ### The obligation -/

theorem mem_completedStems {held terms : BusList} {b : Nat} {v : Int} :
    (b, v) ∈ completedStems held terms ↔ 64 ≤ b ∧ b < 128 ∧ ((∃ w, (b, w) ∈ held) ∨ targets terms b = true) ∧
      v = satWide (sumAt held b + sumAt terms b) := by
  rw [completedStems, mem_pairs, mem_busesFrom, Bool.or_eq_true, targets_iff, and_assoc, and_assoc]

theorem BoundaryMade.handedTotals {s v t : State} (h : BoundaryMade s v t) (p : Fin 64) :
    t.ports.totals.value p.val = (v.premixTotals s.clock.tag s.clock.serial).value p.val := by
  have totals : t.ports.totals = v.totals s.clock.tag s.clock.serial := by rw [h.done.ports]
  have noStem : (v.stemTotals s.clock.tag s.clock.serial).lookup p.val = none := by
    rw [State.stemTotals, lookup_totalsOf, if_neg]
    have := p.isLt
    simp only [decide_eq_true_eq]
    omega
  rw [BusList.value, totals, State.totals, List.lookup_append, noStem, Option.or_none, BusList.value]

/-- Settles O33: the own stem list is the held sums and the terms of the masters, which the part shows after the boundary. -/
theorem boundaryCompletesTheStems : Obligations.BoundaryCompletesTheStems := by
  intro c s pin bound held
  obtain ⟨v, t, ran, made⟩ := exec_boundaryMade pin bound
  have completing : v.engine.completing = held := by rw [made.engine]; rfl
  have listen : v.listenOnly = s.listenOnly := by rw [State.listenOnly, made.tx, State.listenOnly]
  have config : t.summer.config = (v.readyToSum s.clock.tag).summer.config := by rw [made.done.config, readyToSum_config]
  refine ⟨t, v.stemList s.clock.tag s.clock.serial, ran, ?_, ?_, ?_, fun b x => ?_, ?_, ?_, ?_⟩
  · rw [made.done.engine]
  · rw [made.done.engine]
  · rw [State.stemList, completedStems, map_fst_pairs]
    exact pairwise_busesFrom _ _
  · rw [State.stemList, mem_completedStems, completing, targets_premixTerms config made.done.suspended made.done.premix,
      sumAt_premixTerms config made.done.suspended made.done.premix made.handedTotals]
    rfl
  · rw [made.done.tx, listen, made.tx]
  · rw [made.done.ownStem, made.summer]
    rfl
  · rw [made.done.ownPremix, made.summer]

end Sys2Proof.Machine
end

section
/-! The processing of a frame by the strip engine (R8, R21, R28 to R32) and its hand-over (R42, R43, R46). -/

namespace Sys2Proof.Machine

/-! ### The terms of the sends (R28) -/

theorem sumAt_map_filter {α : Type} (p : α → Bool) (f : α → Nat × Int) (l : List α) (b : Nat) :
    sumAt ((l.filter p).map f) b = (l.map fun a => if p a = true ∧ (f a).1 = b then (f a).2 else 0).sum := by
  induction l with
  | nil => rfl
  | cons a l ih => cases h : p a <;> simp [h, ih, sumAt_cons]

/-- The terms of a strip's sends at a bus, summed send by send. -/
theorem Strip.sumAt_terms (rate : Rate) (samples : Vector Int 64) (st : Strip) (b : Nat) :
    sumAt (st.terms rate samples) b = ∑ n : Fin 4, if st.sends[n].on = true ∧ st.sends[n].bus.val = b then
      st.sends[n].term (st.cutSample rate samples) (st.faderOutput rate samples) else 0 := by
  rw [Strip.terms, sumAt_map_filter, toList_eq_map, List.map_map, Fin.sum_univ_def]
  rfl

theorem Strip.mem_terms {rate : Rate} {samples : Vector Int 64} {st : Strip} {b : Nat} :
    (∃ v, (b, v) ∈ st.terms rate samples) ↔ ∃ n : Fin 4, st.sends[n].on = true ∧ st.sends[n].bus.val = b := by
  rw [Strip.terms, toList_eq_map]
  simp only [List.mem_map, List.mem_filter, List.mem_finRange, true_and, Prod.mk.injEq]
  constructor
  · rintro ⟨v, send, ⟨⟨n, rfl⟩, on⟩, bus, -⟩
    exact ⟨n, on, bus⟩
  · rintro ⟨n, on, bus⟩
    exact ⟨_, _, ⟨⟨n, rfl⟩, on⟩, bus, rfl⟩

theorem isAudio_iff (s : State) (i : Fin 64) : s.isAudio i = true ↔ s.hasStrip i = true ∧ s.strips[i].role = .audio := by
  rw [State.isAudio, Bool.and_eq_true, beq_iff_eq]

theorem stripOutput_of_audio {s : State} {i : Fin 64} (audio : s.isAudio i = true) (samples : Vector Int 64) :
    s.stripOutput samples i = s.strips[i].faderOutput s.rate samples := by
  rw [State.stripOutput, if_pos ((isAudio_iff s i).mp audio)]
  rfl

theorem directValues_eq (s : State) (samples : Vector Int 64) :
    s.directValues samples = Vector.ofFn fun i => s.stripOutput samples i := by
  unfold State.directValues
  congr 1
  funext i
  split
  · next audio => exact (stripOutput_of_audio audio samples).symm
  · next other => exact (if_neg fun h => other ((isAudio_iff s i).mpr h)).symm

theorem sumAt_sendTerms (s : State) (samples : Vector Int 64) (b : Nat) :
    sumAt (s.sendTerms samples) b = s.sendSum samples b := by
  rw [State.sendTerms, sumAt_finRange, State.sendSum]
  refine Finset.sum_congr rfl fun i _ => ?_
  by_cases audio : s.isAudio i = true
  · obtain ⟨exists_, role⟩ := (isAudio_iff s i).mp audio
    rw [if_pos audio, Strip.sumAt_terms]
    refine Finset.sum_congr rfl fun n _ => ?_
    simp only [exists_, role, true_and, stripOutput_of_audio audio, Send.term]
    rfl
  · rw [if_neg audio, sumAt_nil]
    exact (Finset.sum_eq_zero fun n _ => if_neg fun h => audio ((isAudio_iff s i).mpr ⟨h.1, h.2.1⟩)).symm

theorem targets_sendTerms (s : State) (samples : Vector Int 64) (b : Nat) :
    targets (s.sendTerms samples) b = true ↔ s.aimsAt b := by
  rw [targets_iff, State.sendTerms, State.aimsAt]
  simp only [List.mem_flatMap, List.mem_finRange, true_and]
  rw [exists_comm]
  refine exists_congr fun i => ?_
  by_cases audio : s.isAudio i = true
  · obtain ⟨exists_, role⟩ := (isAudio_iff s i).mp audio
    simp only [audio, ↓reduceIte, Strip.mem_terms, exists_, role, true_and]
  · rw [if_neg audio]
    exact iff_of_false (fun ⟨_, h⟩ => List.not_mem_nil h) fun ⟨_, exists_, role, _⟩ =>
      audio ((isAudio_iff s i).mpr ⟨exists_, role⟩)

/-! ### The hand-over (R42, R43, R46, R50) -/

theorem handOverA_blocks (a : BusList) (s : State) :
    (handOverA a s).straps = s.straps ∧ (handOverA a s).strips = s.strips ∧ (handOverA a s).engine = s.engine ∧
    (handOverA a s).clock = s.clock ∧ (handOverA a s).peers = s.peers ∧ (handOverA a s).summer = s.summer ∧
    (handOverA a s).group = s.group ∧ (handOverA a s).surface = s.surface ∧ (handOverA a s).playback = s.playback ∧
    (handOverA a s).pass = s.pass ∧ (handOverA a s).ports = s.ports := by
  unfold handOverA
  split
  · exact ⟨rfl, rfl, rfl, rfl, rfl, rfl, rfl, rfl, rfl, rfl, rfl⟩
  · simp

theorem handOverA_listenOnly {s : State} (a : BusList) (silent : s.listenOnly = true) : handOverA a s = s := if_pos silent

/-- The lane transmitter takes the frame assembled: it starts, or waits behind the one in flight; the pending B section is consumed. -/
theorem handOverA_driving {s : State} (a : BusList) (driving : s.listenOnly = false) :
    (s.tx.inFlight = none → (handOverA a s).tx = { s.tx with inFlight := some (s.assembled a), pendingB := [] }) ∧
    (s.tx.inFlight ≠ none → (handOverA a s).tx = { s.tx with waiting := some (s.assembled a), pendingB := [] }) ∧
    (handOverA a s).causeSet .laneOverflow = (s.causeSet .laneOverflow || decide (s.rate.capacity < a.length) ||
      decide (s.rate.capacity < s.tx.pendingB.length)) := by
  unfold handOverA
  rw [if_neg (by simp [driving])]
  refine ⟨fun free => ?_, fun busy => ?_, ?_⟩
  · simp [free]
  · obtain ⟨f, hf⟩ := Option.ne_none_iff_exists'.mp busy
    simp [hf]
  · rw [causeSet_raiseIf, BEq.rfl, Bool.and_true, Bool.or_assoc]
    rfl

/-! ### The obligation -/

theorem mem_premixContributions {terms : BusList} {b : Nat} {v : Int} :
    (b, v) ∈ premixContributions terms ↔ b < 64 ∧ targets terms b = true ∧ v = satWide (sumAt terms b) := by
  rw [premixContributions, mem_pairs, mem_busesFrom, Nat.zero_add, and_assoc, and_assoc]
  simp

theorem mem_stemSums {terms : BusList} {b : Nat} {v : Int} :
    (b, v) ∈ stemSums terms ↔ 64 ≤ b ∧ b < 128 ∧ targets terms b = true ∧ v = sumAt terms b := by
  rw [stemSums, mem_pairs, mem_busesFrom, and_assoc, and_assoc]

/-- The part as its lane transmitter takes the hand-over: DIRECT values, held sums and own premix list in place (R31, R32, R78). -/
def State.formed (s : State) (samples : Vector Int 64) : State :=
  let own := premixContributions (s.sendTerms samples)
  let u := s.setPorts { s.ports with direct := some (s.directValues samples) }
  let u := u.setEngine { s.engine with handed := none, heldStems := stemSums (s.sendTerms samples) }
  u.setSummer { s.summer with ownPremix := holdList s.clock.serial own s.summer.ownPremix }

theorem processFrame_eq (s : State) (samples : Vector Int 64) :
    processFrame samples s = handOverA (premixContributions (s.sendTerms samples)) (s.formed samples) := rfl

/-- Settles O21: the terms of the sends, summed bus by bus, and the hand-over of the premix list. -/
theorem stripFrameProcessFormsTheContributions : Obligations.StripFrameProcessFormsTheContributions := by
  intro s samples pin handed
  have ran : exec .stripFrameProcess s = .next (processFrame samples s) := by
    rw [exec, execStripFrameProcess, onEvent_next pin, handed]
  rw [processFrame_eq] at ran
  obtain ⟨-, strips, engine, clock, peers, summer, group, surface, playback, pass, ports⟩ :=
    handOverA_blocks (premixContributions (s.sendTerms samples)) (s.formed samples)
  refine ⟨_, premixContributions (s.sendTerms samples), ran, ?_, ?_, ?_, ?_, fun b v => ?_, ?_, fun b v => ?_, summer.trans rfl, ?_,
    strips.trans rfl, clock.trans rfl, peers.trans rfl, group.trans rfl, surface.trans rfl, playback.trans rfl, pass.trans rfl⟩
  · rw [engine]
    rfl
  · rw [engine]
    rfl
  · rw [ports, ← directValues_eq]
    rfl
  · rw [premixContributions, map_fst_pairs]
    exact pairwise_busesFrom _ _
  · rw [mem_premixContributions, targets_sendTerms, sumAt_sendTerms]
  · have held : (s.formed samples).engine.heldStems = stemSums (s.sendTerms samples) := rfl
    rw [engine, held, stemSums, map_fst_pairs]
    exact pairwise_busesFrom _ _
  · have held : (s.formed samples).engine.heldStems = stemSums (s.sendTerms samples) := rfl
    rw [engine, held, mem_stemSums, targets_sendTerms, sumAt_sendTerms]
  · rintro f rfl
    refine ⟨fun silent => ?_, fun driving => ?_, fun driving => ?_, fun driving => ?_⟩
    · rw [handOverA_listenOnly (s := s.formed samples) _ silent]
      exact ⟨rfl, rfl⟩
    · exact (handOverA_driving (s := s.formed samples) _ driving).1
    · exact (handOverA_driving (s := s.formed samples) _ driving).2.1
    · exact (handOverA_driving (s := s.formed samples) _ driving).2.2

end Sys2Proof.Machine
end

section
/-! The audio ports: frames in, the hand-over of a boundary, and frames out (R7, R103, R133, R136, R166 to R168). -/

namespace Sys2Proof.Machine

/-- A port carries 8 channels at 48 kHz and 4 at 96 kHz (R166). -/
theorem channels_bounds (rate : Rate) : 0 < rate.channels ∧ rate.channels ≤ 8 := by cases rate <;> decide

/-! ### Samples in (R166) -/

/-- A channel that lies on a port reads its place of the frame that the port holds. -/
theorem inputSampleOf_port {rate : Rate} {inputs : Vector InputPort 8} {c : Fin 64} {j k : Fin 8} (hk : k.val < rate.channels)
    (hc : c.val = j.val * rate.channels + k.val) :
    inputSampleOf rate inputs c = inputs[j].held.elim 0 fun samples => samples[k].toInt := by
  have pos := (channels_bounds rate).1
  have port : c.val / rate.channels = j.val := by
    rw [hc, Nat.mul_comm, Nat.mul_add_div pos, Nat.div_eq_of_lt hk, Nat.add_zero]
  have place : c.val % rate.channels = k.val := by
    rw [hc, Nat.mul_comm, Nat.mul_add_mod, Nat.mod_eq_of_lt hk]
  unfold inputSampleOf
  simp only [port, place, j.isLt, ↓reduceDIte]
  simp only [Fin.getElem_fin]
  cases inputs[j.val].held with
  | none => rfl
  | some samples => simp

/-- A channel beyond the ports reads 0. -/
theorem inputSampleOf_beyond {rate : Rate} {inputs : Vector InputPort 8} {c : Fin 64} (hc : 8 * rate.channels ≤ c.val) :
    inputSampleOf rate inputs c = 0 := by
  have pos := (channels_bounds rate).1
  have beyond : ¬ c.val / rate.channels < 8 := Nat.not_lt.mpr ((Nat.le_div_iff_mul_le pos).mpr hc)
  unfold inputSampleOf
  rw [dif_neg beyond]

/-! ### Counts (R103, R136) -/

theorem refreshSpacing_pos (rate : Rate) : 0 < rate.refreshSpacing := by cases rate <;> decide

/-- The refresh count stands below 32 spacings, so the group whose place it reaches is the one it counts spacings to. -/
theorem GroupLine.boundary_refreshDue (rate : Rate) (g : GroupLine) :
    (∀ h : Fin 32, (g.boundary rate).refreshCount = rate.refreshSpacing * h.val → (g.boundary rate).refreshDue = some h) ∧
    ((∀ h : Fin 32, (g.boundary rate).refreshCount ≠ rate.refreshSpacing * h.val) → (g.boundary rate).refreshDue = g.refreshDue) := by
  have pos := refreshSpacing_pos rate
  have below : (g.boundary rate).refreshCount < 32 * rate.refreshSpacing := Nat.mod_lt _ (by omega)
  have due : (g.boundary rate).refreshDue = if (g.boundary rate).refreshCount % rate.refreshSpacing = 0 then
      some (Fin.ofNat 32 ((g.boundary rate).refreshCount / rate.refreshSpacing)) else g.refreshDue := rfl
  rw [due]
  generalize (g.boundary rate).refreshCount = n at *
  constructor
  · rintro h rfl
    rw [Nat.mul_mod_right, if_pos rfl, Nat.mul_div_cancel_left _ pos]
    simp
  · intro nowhere
    refine if_neg fun divides => ?_
    have place : n / rate.refreshSpacing < 32 := Nat.div_lt_of_lt_mul (by rwa [Nat.mul_comm])
    exact nowhere ⟨_, place⟩ (Nat.mul_div_cancel' (Nat.dvd_of_mod_eq_zero divides)).symm

theorem Playback.boundary_step (rate : Rate) (p : Playback) :
    (p.stepCount + 1 < rate.stepFrames → (p.boundary rate).stepCount = p.stepCount + 1 ∧ (p.boundary rate).stepDue = p.stepDue) ∧
    (p.stepCount + 1 = rate.stepFrames → (p.boundary rate).stepCount = 0 ∧ (p.boundary rate).stepDue = true) := by
  unfold Playback.boundary
  dsimp only
  refine ⟨fun before => ?_, fun wraps => ?_⟩
  · have : decide (rate.stepFrames ≤ p.stepCount + 1) = false := by simpa using before
    simp [this]
  · simp [wraps]

/-! ### Frames out (R7, R168) -/

/-- The sample of a map entry in the frame of its port. -/
theorem frameOf_place {rate : Rate} {p : Ports} {direct : Vector Int 64} {c : Fin 64} {j : Fin 8} (hc : c.val / rate.channels = j.val) :
    (p.frameOf rate direct j)[c.val % rate.channels]? = some (clampPort (p.value direct p.map[c])) := by
  have pos := (channels_bounds rate).1
  have place : c.val % rate.channels < rate.channels := Nat.mod_lt _ pos
  have index : j.val * rate.channels + c.val % rate.channels = c.val := by
    rw [← hc, Nat.mul_comm]
    exact Nat.div_add_mod _ _
  have entry : p.map.toList.getD c.val .silence = p.map[c] := by simp
  unfold Ports.frameOf
  rw [List.getElem?_map, List.getElem?_range place, Option.map_some, index, entry]

/-! ### The obligation -/

theorem portFrameArrival_held (s : State) (port : Fin 8) (samples : Vector (BitVec 24) 8) (pin : s.resetPin = false) :
    exec (.portFrameArrival port samples) s = .next (s.setPorts { s.ports with
      inputs := s.ports.inputs.set port { s.ports.inputs[port] with held := some samples } }) := by
  rw [exec, execPortFrameArrival, onEvent_next pin]

/-- The hand-over of a boundary: each port's frame taken, the port RUNNING where it held one, and INPUT SILENT (R166). -/
theorem BoundaryMade.inputs {s v t : State} (h : BoundaryMade s v t) :
    t.engine.handed = some (Vector.ofFn (inputSampleOf s.rate s.ports.inputs)) ∧
    (∀ j : Fin 8, t.ports.inputs[j] = ⟨s.ports.inputs[j].held.isSome, none⟩) ∧
    (t.causeSet .inputSilent = true ↔ s.causeSet .inputSilent = true ∨
      ∃ j : Fin 8, s.ports.inputs[j].running = true ∧ s.ports.inputs[j].held = none) ∧
    t.ports.map = s.ports.map ∧ t.ports.emitted = s.ports.emitted := by
  refine ⟨?_, fun j => ?_, ?_, ?_, ?_⟩
  · rw [h.done.engine, h.engine]
  · have same : t.ports.inputs = v.ports.inputs := by rw [h.done.ports]
    rw [same, h.ports, mapFin_get]
  · rw [h.causes .inputSilent (by decide), BEq.rfl, Bool.and_true, Bool.or_eq_true, List.any_eq_true]
    simp only [List.mem_finRange, true_and, Bool.and_eq_true, Option.isNone_iff_eq_none]
  · rw [h.done.ports, h.ports]
  · rw [h.done.ports, h.ports]

/-- What an output port frame start does once totals and DIRECT values have been handed (R168). -/
theorem exec_outputPortFrameStart {s : State} {direct : Vector Int 64} (pin : s.resetPin = false) (totals : s.ports.totalsHanded = true)
    (handed : s.ports.direct = some direct) :
    exec .outputPortFrameStart s = .next (s.setPorts { s.ports with
      emitted := Vector.ofFn (s.ports.frameOf s.rate direct), totalsHanded := false }) := by
  rw [exec, execOutputPortFrameStart, onEvent_next pin, totals, handed]

/-- Settles O56: the input side from the hand-over of a boundary, the counts block by block, and the output side place by place. -/
theorem portsTakeAndGiveTheirFrames : Obligations.PortsTakeAndGiveTheirFrames := by
  refine ⟨fun s port samples pin => portFrameArrival_held s port samples pin, fun c s pin bound => ?_,
    fun s direct pin totals handed => ?_⟩
  · obtain ⟨v, t, ran, made⟩ := exec_boundaryMade pin bound
    obtain ⟨handed, inputs, silent, map, emitted⟩ := made.inputs
    obtain ⟨stepBefore, stepWraps⟩ := Playback.boundary_step s.rate s.playback
    obtain ⟨due, notDue⟩ := GroupLine.boundary_refreshDue s.rate s.group
    have playback := made.playback
    refine ⟨t, Vector.ofFn (inputSampleOf s.rate s.ports.inputs), ran, handed, fun c j k hk hc => ?_, fun c hc => ?_, inputs, silent, map,
      emitted, ?_, fun before => ?_, fun wraps => ?_, ?_, ?_, ?_, ?_, made.surface, ?_⟩
    · have place : (Vector.ofFn (inputSampleOf s.rate s.ports.inputs))[c] = inputSampleOf s.rate s.ports.inputs c := by simp
      rw [place, inputSampleOf_port hk hc]
      cases s.ports.inputs[j].held <;> rfl
    · simpa using inputSampleOf_beyond hc
    · rw [playback]
      rfl
    · rw [playback]
      exact stepBefore before
    · rw [playback]
      exact stepWraps wraps
    · rw [made.group]
      rfl
    · rw [made.group]
      exact due
    · rw [made.group]
      exact notDue
    · rw [made.group]
      rfl
    · rw [playback]
      rfl
  · refine ⟨_, exec_outputPortFrameStart pin totals handed, rfl, fun j => ?_, fun c j hc => ?_⟩
    · simp [Ports.frameOf]
    · have port : (Vector.ofFn (s.ports.frameOf s.rate direct))[j] = s.ports.frameOf s.rate direct j := by simp
      rw [State.setPorts_ports, port, frameOf_place hc]
      cases s.ports.map[c] <;> rfl

end Sys2Proof.Machine
end

section
/-! The machine right after reset: every block's invariant holds with every strapping. -/

namespace Sys2Proof.Machine

/-- A reset of a part with an empty command queue leaves the reset machine. -/
theorem resetTo_resetWith (straps : Straps) : resetTo straps (State.resetWith straps) = State.resetWith straps := rfl

/-- The clock unit starts FREE, with a window of nominal frames (R120). -/
theorem clockSafe_resetWith (straps : Straps) : ClockSafe (State.resetWith straps) := by
  have window : (State.resetWith straps).clock.window = List.replicate 256 straps.rate.nominal := rfl
  refine ⟨?_, fun n hn => ?_, Nat.zero_le _, Nat.zero_le _, Nat.zero_le _, Nat.zero_le _, ⟨fun _ => .inl rfl, fun _ => rfl⟩,
    ⟨fun full => (by cases full), fun locked => (by cases locked)⟩⟩
  · rw [window, List.length_replicate]
  · rw [window] at hn
    obtain rfl := List.eq_of_mem_replicate hn
    exact decide_eq_true ⟨Nat.sub_le _ _, Nat.le_succ _⟩

theorem Peer.safe_reset : Peer.reset.safe := by simp [Peer.safe, Peer.reset, queueSafe]

/-- No peer is heard and the transmitter is idle (R54, R56). -/
theorem lanesSafe_resetWith (straps : Straps) : LanesSafe (State.resetWith straps) := by
  refine ⟨fun j => ?_, fun waits => (waits rfl).elim, Nat.zero_le 1, fun _ => ⟨rfl, rfl⟩⟩
  have peer : (State.resetWith straps).peers[j] = Peer.reset := by simp [State.resetWith]
  rw [peer]
  exact Peer.safe_reset

/-- With no owned channel and no enabled window the accumulation set is empty (R75, R90). -/
theorem SumConfig.safe_reset (rate : Rate) : SumConfig.reset.safe rate := by
  have disabled (b : Nat) : (⟨0#7, 0#7, false⟩ : Window).selects b = false := rfl
  refine ⟨?_, .nil, fun p hp => absurd hp List.not_mem_nil, Nat.zero_le _⟩
  simp [buildConfig, wantedBuses, SumConfig.reset, disabled]

theorem summerSafe_resetWith (straps : Straps) : SummerSafe (State.resetWith straps) := by
  have meter (b : Fin 128) : (State.resetWith straps).summer.meters[b] = ⟨0, 0⟩ := by simp [State.resetWith, Summer.reset]
  refine ⟨SumConfig.safe_reset _, SumConfig.safe_reset _, fun p hp => absurd hp List.not_mem_nil, fun b _ => meter b, fun b => ?_,
    Nat.zero_le 2, Nat.zero_le 2⟩
  rw [meter]
  decide

/-- The send queue is empty and the group table is clear (R107). -/
theorem groupSafe_resetWith (straps : Straps) : GroupSafe (State.resetWith straps) := by
  have queue : (State.resetWith straps).group.queue = [] := rfl
  refine ⟨by simp [queue], by simp [queue], by simp [queue], by simp [queue], fun _ => queue, fun g => ?_⟩
  have entry : (State.resetWith straps).group.table[g] = TableEntry.reset := by simp [State.resetWith, GroupLine.reset]
  rw [entry]
  decide

theorem Fader.safe_reset : Fader.reset.safe := by simp [Fader.safe, Fader.reset]

theorem surfaceSafe_resetWith (straps : Straps) : SurfaceSafe (State.resetWith straps) := by
  have fader (i : Fin 64) : (State.resetWith straps).surface.faders[i] = Fader.reset := by simp [State.resetWith, Surface.reset]
  refine ⟨fun i => ?_, Nat.zero_le _, Nat.zero_le _, fun _ i _ => ?_⟩
  · rw [fader]
    exact Fader.safe_reset
  · rw [fader]
    rfl

/-- The automation store is empty (R138). -/
theorem storeSafe_resetWith (straps : Straps) : StoreSafe (State.resetWith straps) := by
  have record (i : Fin 64) : (State.resetWith straps).playback.strips[i] = AutoStrip.reset := by
    simp [State.resetWith, Playback.reset]
  have empty : (State.resetWith straps).storeCount = 0 := by simp [State.storeCount, record, AutoStrip.reset]
  refine ⟨fun i => ?_, fun i => ?_, empty ▸ Nat.zero_le _, .nil, fun merging => (by cases merging)⟩ <;>
    rw [record] <;> exact .nil

/-- No pass is open: no journal and no punch (R152). -/
theorem passSafe_resetWith (straps : Straps) : PassSafe (State.resetWith straps) := by
  have punches (i : Fin 64) : (State.resetWith straps).pass.punches[i] = ⟨none, none⟩ := by simp [State.resetWith, Pass.reset]
  have closed : (State.resetWith straps).pass.openPunches = 0 := by
    simp [Pass.openPunches, State.resetWith, Pass.reset, Punches.count]
  refine ⟨closed ▸ Nat.zero_le _, fun i k isOpen => ?_, fun _ => rfl, ⟨fun _ => rfl, fun _ => rfl⟩,
    ⟨fun merging => (by cases merging), fun listed => (listed rfl).elim⟩⟩
  cases k <;> simp [Pass.isOpen, punches] at isOpen

theorem safe_resetWith (straps : Straps) : Safe (State.resetWith straps) where
  ramps := resetTo_resetWith straps ▸ rampsSafe_resetTo straps _
  tuned := resetTo_resetWith straps ▸ stripsTuned_resetTo straps _
  codes := resetTo_resetWith straps ▸ codesInRange_resetTo straps _
  clock := clockSafe_resetWith straps
  lanes := lanesSafe_resetWith straps
  summer := summerSafe_resetWith straps
  group := groupSafe_resetWith straps
  surface := surfaceSafe_resetWith straps
  store := storeSafe_resetWith straps
  pass := passSafe_resetWith straps

/-- Settles O60: the reset state of each block, block by block, is safe. -/
theorem resetStatesAreSafe : Obligations.ResetStatesAreSafe := ⟨safe_resetWith resetStraps, safe_resetWith⟩

end Sys2Proof.Machine
end

section
/-! Control requests, the strips they name, and their replies (R19, R169, R170). -/

namespace Sys2Proof.Machine

/-! ### The strips that exist (R19) -/

theorem hasStrip_iff {s : State} {i : Fin 64} : s.hasStrip i = true ↔ i.val < s.rate.strips := decide_eq_true_iff

theorem existing_of_lt {s : State} {n : Nat} {i : Fin 64} (h : n = i.val) (hi : i.val < s.rate.strips) : existing s n = some i := by
  subst h
  simp [existing, hasStrip_iff.mpr hi]

theorem existing_of_le {s : State} {n : Nat} (h : s.rate.strips ≤ n) : existing s n = none := by
  have missing (hn : n < 64) : s.hasStrip ⟨n, hn⟩ = false := decide_eq_false (Nat.not_lt.mpr h)
  simp [existing, missing]

/-! ### Requests that are taken or refused (R169, R170) -/

theorem refuse_eq (status : Status) (s : State) : refuse status s = s.setControl { s.control with reply := some ⟨status, []⟩ } := rfl

/-- The reply of a taken command is the only trace of its acknowledgement. -/
@[simp] theorem ok_strips (s : State) : (ok s).strips = s.strips := rfl

theorem onCommand_next {s : State} (pin : s.resetPin = false) (f : State → State) : onCommand s f = .next (f s) := by
  simp only [onCommand, pin, Bool.false_eq_true, ↓reduceIte]

theorem onBare_next {s : State} (pin : s.resetPin = false) (f : State → State) : onBare 0 [] s f = .next (f s) := by
  rw [onBare, onCommand_next pin, if_pos ⟨rfl, rfl⟩]

theorem onBare_refuses {address : BitVec 16} {data : List Byte} {s : State} (pin : s.resetPin = false) (h : data ≠ [] ∨ address ≠ 0)
    (f : State → State) : onBare address data s f = .next (refuse .range s) := by
  rw [onBare, onCommand_next pin, if_neg fun ⟨noData, noAddress⟩ => h.elim (· noData) (· noAddress)]

theorem onGlobal_next {α : Type} {d : Option α} {v : α} {s : State} (pin : s.resetPin = false) (read : d = some v)
    (f : α → State → State) : onGlobal 0 d s f = .next (f v s) := by
  rw [onGlobal, onCommand_next pin, read]
  rfl

theorem onGlobal_refuses {α : Type} {address : BitVec 16} {d : Option α} {s : State} (pin : s.resetPin = false)
    (h : d = none ∨ address ≠ 0) (f : α → State → State) : onGlobal address d s f = .next (refuse .range s) := by
  rw [onGlobal, onCommand_next pin]
  cases d with
  | none => rfl
  | some v =>
    obtain none | away := h
    · cases none
    · exact congrArg Host.Outcome.next (if_neg away)

theorem onStrip_next {α : Type} {address : BitVec 16} {d : Option α} {v : α} {i : Fin 64} {s : State} (pin : s.resetPin = false)
    (named : address.toNat = i.val) (hi : i.val < s.rate.strips) (read : d = some v) (f : Fin 64 → α → State → State) :
    onStrip address d s f = .next (f i v s) := by
  rw [onStrip, onCommand_next pin, existing_of_lt named hi, read]

theorem onStrip_refuses {α : Type} {address : BitVec 16} {d : Option α} {s : State} (pin : s.resetPin = false)
    (h : s.rate.strips ≤ address.toNat ∨ d = none) (f : Fin 64 → α → State → State) :
    onStrip address d s f = .next (refuse .range s) := by
  rw [onStrip, onCommand_next pin]
  obtain missing | unread := h
  · rw [existing_of_le missing]
  · rw [unread]
    cases existing s address.toNat <;> rfl

/-! ### Operands (R182) -/

theorem index_of_eq {n v : Nat} {i : Fin n} (h : v = i.val) : index n v = some i := by
  subst h
  exact dif_pos i.isLt

theorem index_of_le {n v : Nat} (h : n ≤ v) : index n v = none := dif_neg (Nat.not_lt.mpr h)

/-- Two bytes, the more significant first (R175). -/
theorem ofBytes_pair (high low : Byte) : ofBytes [high, low] = 256 * high.toNat + low.toNat := by
  simp [ofBytes, Nat.mul_comm]

/-! ### WRITE SEND (R36) -/

theorem readSendData_of_eq {number bus : Byte} {n : Fin 4} {b : Fin 128} (hn : number.toNat = n.val) (hb : bus.toNat = b.val)
    (high low flags : Byte) : readSendData [number, bus, high, low, flags] =
      some (n, ⟨b, min 1020 (256 * high.toNat + low.toNat), if flags.getLsbD 1 then .pre else .post, flags.getLsbD 0⟩) := by
  simp only [readSendData, index_of_eq hn, index_of_eq hb, storedCode, ofBytes_pair]

theorem readSendData_eq_none {number bus : Byte} (h : 3 < number.toNat ∨ 127 < bus.toNat) (high low flags : Byte) :
    readSendData [number, bus, high, low, flags] = none := by
  obtain number | bus := h
  · simp only [readSendData, index_of_le number]
  · simp only [readSendData, index_of_le bus]
    cases index 4 number.toNat <;> rfl

/-- A WRITE SEND whose send is read stores it in its strip. -/
theorem exec_writeSend {s : State} {address : BitVec 16} {data : List Byte} {i : Fin 64} {d : Fin 4 × Send} (pin : s.resetPin = false)
    (named : address.toNat = i.val) (hi : i.val < s.rate.strips) (read : readSendData data = some d) :
    exec (.writeSend address data) s = .next (ok (modStrip i (fun st => { st with sends := st.sends.set d.1 d.2 }) s)) := by
  rw [exec, execWriteSend, onStrip_next pin named hi read]

/-- Settles O18: the one send that the data names is replaced, and the reply is the only other change. -/
theorem writeSendStoresOneSend : Obligations.WriteSendStoresOneSend := by
  intro s address number bus high low flags pin
  constructor
  · intro i n b named hi hn hb
    refine ⟨_, exec_writeSend pin named hi (readSendData_of_eq hn hb high low flags), rfl, ?_, fun m hm => ?_, ?_, fun j hj => ?_,
      rfl, rfl⟩
    · rw [ok_strips, modStrip_self, set_get, if_pos rfl]
    · rw [ok_strips, modStrip_self, set_get, if_neg hm.symm]
    · rw [ok_strips, modStrip_self]
    · rw [ok_strips, modStrip_other hj]
  · intro bad
    rw [exec, execWriteSend,
      onStrip_refuses pin (bad.imp_right fun unread => readSendData_eq_none unread high low flags), refuse_eq]

end Sys2Proof.Machine
end

section
/-! The solo line (R24, R105, R106): when the part drives it, and what a change of its level does to the strips. -/

namespace Sys2Proof.Machine

/-! ### The drive (R24, R105, R106) -/

theorem soloDemand_iff {s : State} : s.soloDemand = true ↔
    ∃ i : Fin 64, i.val < s.rate.strips ∧ s.strips[i].role = .audio ∧ s.strips[i].solo = true := by
  simp only [State.soloDemand, List.any_eq_true, List.mem_finRange, true_and, Bool.and_eq_true, hasStrip_iff, beq_iff_eq]
  exact exists_congr fun i => by rw [and_assoc, and_comm (a := s.strips[i].solo = true)]

theorem listenOnly_eq_false {s : State} : s.listenOnly = false ↔ s.tx.drive = .driving := by
  simp [State.listenOnly]

theorem soloDrive_iff (s : State) : s.soloDrive = true ↔ s.resetPin = false ∧ s.tx.drive = .driving ∧
    ∃ i : Fin 64, i.val < s.rate.strips ∧ s.strips[i].role = .audio ∧ s.strips[i].solo = true := by
  simp only [State.soloDrive, Bool.and_eq_true, Bool.not_eq_true', soloDemand_iff, listenOnly_eq_false]
  tauto

/-! ### A change of the level (R23, R24, R105) -/

/-- A strip whose held level is current and whose cut ramp points where its held cut asks takes from a re-evaluation its cut alone. -/
theorem Strip.retune_recut {table : Vector TableEntry 32} {st : Strip} (solo : Bool) (level : st.effLevel = st.levelUnder table)
    (gate : st.cutRamp.direction = Direction.ofCut st.effCut) :
    st.retune table solo = { st with
      effCut := st.cutUnder table solo
      cutRamp := ⟨st.cutRamp.current, Direction.ofCut (st.cutUnder table solo)⟩ } := by
  unfold Strip.retune
  dsimp only
  rw [if_pos level.symm, ← level]
  split
  · next same => rw [same, ← gate]
  · rfl

/-- A re-evaluation of a strip that is current changes nothing. -/
theorem Strip.retune_current {table : Vector TableEntry 32} {solo : Bool} {st : Strip} (level : st.effLevel = st.levelUnder table)
    (cut : st.effCut = st.cutUnder table solo) : st.retune table solo = st := by
  unfold Strip.retune
  dsimp only
  rw [if_pos level.symm, if_pos cut.symm, ← level, ← cut]

theorem StripsTuned.current {s : State} (h : StripsTuned s) {i : Fin 64} (hi : s.hasStrip i = true) : StripCurrent s i :=
  ((stripsTuned_iff s).mp h).1 i hi

/-- In a tuned part a re-evaluation of every strip changes nothing. -/
theorem retuneWhere_of_tuned {p : Strip → Bool} {s : State} (h : StripsTuned s) : (retuneWhere p s).strips = s.strips := by
  refine Vector.ext fun n hn => ?_
  have at_n : (retuneWhere p s).strips[(⟨n, hn⟩ : Fin 64)] = s.strips[(⟨n, hn⟩ : Fin 64)] := by
    rw [retuneWhere_strip]
    split
    · next selected =>
      obtain ⟨⟨hi, role⟩, -⟩ : (s.hasStrip ⟨n, hn⟩ = true ∧ s.strips[(⟨n, hn⟩ : Fin 64)].role = .audio) ∧ _ := by
        simpa only [Bool.and_eq_true, beq_iff_eq] using selected
      obtain ⟨level, cut⟩ := (h.current hi).audio role
      exact Strip.retune_current level cut
    · rfl
  exact at_n

/-- A change of the solo line's level re-evaluates every strip; where the level stands as it was, that finds nothing to change. -/
theorem exec_soloLineChange {s : State} (pin : s.resetPin = false) (tuned : StripsTuned s) (active : Bool) :
    exec (.soloLineChange active) s = .next (retuneWhere (fun _ => true) (s.setGroup { s.group with soloLevel := active })) := by
  rw [exec, execSoloLineChange, onEvent_next pin]
  split
  · next same =>
    have group : s.setGroup { s.group with soloLevel := active } = s := by rw [← same]; rfl
    rw [group]
    exact congrArg Host.Outcome.next (congrArg s.setStrips (retuneWhere_of_tuned (p := fun _ => true) tuned)).symm
  · rfl

/-- Settles O22: a re-evaluation of a tuned strip with safe ramps can move its cut alone. -/
theorem soloLineChangeRecutsTheStrips : Obligations.SoloLineChangeRecutsTheStrips := by
  refine ⟨soloDrive_iff, fun s active pin tuned ramps => ⟨_, exec_soloLineChange pin tuned active, rfl, rfl, fun i => ⟨?_, ?_⟩⟩⟩
  · intro hi role
    obtain ⟨-, -, -, -, gate⟩ := ramps.1 i
    have strip : (retuneWhere (fun _ => true) (s.setGroup { s.group with soloLevel := active })).strips[i] =
        s.strips[i].retune s.group.table active := by
      rw [retuneWhere_strip, if_pos]
      · rfl
      · exact Bool.and_eq_true_iff.mpr ⟨Bool.and_eq_true_iff.mpr ⟨hi, beq_iff_eq.mpr role⟩, rfl⟩
    rw [strip, Strip.retune_recut active ((tuned.current hi).audio role).1 gate]
    exact ⟨rfl, rfl, rfl⟩
  · intro other
    rw [retuneWhere_strip, if_neg]
    · rfl
    · rintro selected
      obtain ⟨⟨hi, role⟩, -⟩ : (s.hasStrip i = true ∧ (s.strips[i].role == .audio) = true) ∧ true = true := by
        rwa [← Bool.and_eq_true_iff, ← Bool.and_eq_true_iff]
      obtain missing | master := other
      · cases missing.symm.trans hi
      · exact master (eq_of_beq role)

end Sys2Proof.Machine
end

section
/-! A group message heard on the line (R98 to R100). -/

namespace Sys2Proof.Machine

/-! ### The group table (R100) -/

/-- The part once a group message stands in the table and the member strips have taken a changed value. -/
def tableTaken (kind : Kind) (g : Fin 32) (value : Int) (slot : Fin 16) (s : State) : State :=
  let after := s.group.table[g].take kind value slot
  let u := s.setGroup { s.group with table := s.group.table.set g after }
  if s.group.table[g].offset != after.offset || s.group.table[g].cut != after.cut then retuneWhere (fun st => st.groups.contains g) u
  else u

/-- Of the part a group message changes the table entry and strips of the group. -/
theorem tableTaken_same (kind : Kind) (g : Fin 32) (value : Int) (slot : Fin 16) (s : State) :
    tableTaken kind g value slot s = (s.setGroup { s.group with
      table := s.group.table.set g (s.group.table[g].take kind value slot) }).setStrips (tableTaken kind g value slot s).strips := by
  unfold tableTaken
  dsimp only
  split <;> rfl

theorem takeGroup_eq (kind : Kind) (g : Fin 32) (value : Int) (slot : Fin 16) (s : State) :
    takeGroup kind g value slot s =
      raiseIf (slot != s.straps.slot && s.group.masters g) .groupConflict (tableTaken kind g value slot s) := by
  have straps : (tableTaken kind g value slot s).straps = s.straps := by rw [tableTaken_same]; rfl
  have masters : (tableTaken kind g value slot s).group.masters g = s.group.masters g := by rw [tableTaken_same]; rfl
  rw [← straps, ← masters]
  rfl

theorem takeGroup_group (kind : Kind) (g : Fin 32) (value : Int) (slot : Fin 16) (s : State) :
    (takeGroup kind g value slot s).group =
      { s.group with table := s.group.table.set g (s.group.table[g].take kind value slot) } := by
  rw [takeGroup_eq, raiseIf_group, tableTaken_same]
  rfl

theorem takeGroup_causes (kind : Kind) (g : Fin 32) (value : Int) (slot : Fin 16) (s : State) (c : Cause) :
    (takeGroup kind g value slot s).causeSet c =
      (s.causeSet c || ((slot != s.straps.slot && s.group.masters g) && c == .groupConflict)) := by
  rw [takeGroup_eq, causeSet_raiseIf, tableTaken_same]
  rfl

/-- A message of a group reaches the strips of that group alone. -/
theorem takeGroup_strip_other {kind : Kind} {g : Fin 32} {value : Int} {slot : Fin 16} {s : State} {i : Fin 64}
    (other : g ∉ s.strips[i].groups) : (takeGroup kind g value slot s).strips[i] = s.strips[i] := by
  rw [takeGroup_eq, raiseIf_strips]
  unfold tableTaken
  dsimp only
  split
  · exact retuneWhere_strip_other fun _ => by simpa using other
  · rfl

theorem raiseIf_same (b : Bool) (c : Cause) (s : State) : raiseIf b c s = s.setControl (raiseIf b c s).control := by cases b <;> rfl

/-- A group message changes group line, strips and causes alone. -/
theorem takeGroup_same (kind : Kind) (g : Fin 32) (value : Int) (slot : Fin 16) (s : State) :
    takeGroup kind g value slot s = ((s.setGroup (takeGroup kind g value slot s).group).setStrips
      (takeGroup kind g value slot s).strips).setControl (takeGroup kind g value slot s).control := by
  rw [takeGroup_group, takeGroup_eq, raiseIf_strips]
  refine (raiseIf_same _ _ _).trans ?_
  generalize (raiseIf _ _ _).control = control
  exact congrArg (fun t : State => t.setControl control) (tableTaken_same kind g value slot s)

theorem masters_iff {g : GroupLine} {h : Fin 32} : g.masters h = true ↔ ∃ x ∈ g.mastered, x.group = h := by
  simp [GroupLine.masters]

/-- A table entry after a GROUP LEVEL or GROUP CUT, by the kind of the message. -/
theorem TableEntry.take_eq (e : TableEntry) (kind : Kind) (value : Int) (slot : Fin 16) :
    e.take kind value slot = ⟨if kind = .level then max (-1020) (min 120 value) else e.offset,
      if kind = .cut then decide (value ≠ 0) else e.cut, some slot, true⟩ := by
  cases kind
  · rfl
  · by_cases h : value = 0 <;> simp [TableEntry.take, h]

/-! ### The end of a message (R98, R99) -/

/-- A message that the station is not sending is judged as any receiver judges it. -/
theorem exec_groupMessageEnd {s : State} (pin : s.resetPin = false) (line : s.group.line = .message) (idle : s.group.sending = none)
    (bits : BitVec 38) : exec (.groupMessageEnd bits) s = .next (judgeMessage bits s) := by
  rw [exec, execGroupMessageEnd, onEvent_next pin, messageEndWork, line, idle]

/-- The part as a taken message finds it: SEEKING, the message counted (R92, R98). -/
def State.heard (s : State) : State :=
  (seek s).setGroup { (seek s).group with taken := count16 s.group.taken 1 }

theorem judgeMessage_bad {bits : BitVec 38} {s : State} (bad : readMessage bits = none) : judgeMessage bits s = lineError (seek s) := by
  rw [judgeMessage, bad]

theorem judgeMessage_group {bits : BitVec 38} {m : Message} {g : Fin 32} {kind : Kind} {s : State} (good : readMessage bits = some m)
    (number : m.number = g.val) (kindOf : m.kind = kind.message) :
    judgeMessage bits s = takeGroup kind g m.value m.slot s.heard := by
  obtain ⟨k, slot, n, v⟩ := m
  obtain rfl : n = g.val := number
  obtain rfl : k = kind.message := kindOf
  rw [judgeMessage, good]
  cases kind <;> simp only [handMessage, Kind.message, g.isLt, ↓reduceDIte] <;> rfl

/-- The effective level of a strip record of the same inputs, written out (R26). -/
theorem Strip.SameInputs.levelUnder {a b : Strip} (h : Strip.SameInputs a b) (table : Vector TableEntry 32) :
    b.levelUnder table = a.levelUnder table := by rw [h]; rfl

theorem Strip.SameInputs.cutUnder {a b : Strip} (h : Strip.SameInputs a b) (table : Vector TableEntry 32) (solo : Bool) :
    b.cutUnder table solo = a.cutUnder table solo := by rw [h]; rfl

/-- Settles O37: a bad message is a line error, and a taken one leaves every member strip current under the new table. -/
theorem groupMessageEndReachesTheTable : Obligations.GroupMessageEndReachesTheTable := by
  intro s bits pin line idle tuned
  refine ⟨fun bad => ?_, fun m g good number kindOf => ?_⟩
  · refine ⟨lineError (seek s), ?_, rfl, ?_, fun c other => ?_, rfl⟩
    · rw [exec_groupMessageEnd pin line idle, judgeMessage_bad bad]
    · simp [lineError]
    · rw [lineError, causeSet_raise, beq_eq_false_iff_ne.mpr other, Bool.or_false]
      rfl
  · obtain ⟨kind, kindIs⟩ : ∃ kind : Kind, m.kind = kind.message := kindOf.elim (⟨.level, ·⟩) (⟨.cut, ·⟩)
    have ran := exec_groupMessageEnd pin line idle bits
    have after := (kept_execGroupMessageEnd ran).tuned tuned
    rw [judgeMessage_group good number kindIs] at ran after
    have inputs := (lineFrame_takeGroup kind g m.value m.slot s.heard).strips
    have group := takeGroup_group kind g m.value m.slot s.heard
    refine ⟨_, ran, ?_, ?_, fun i hi role => ?_, fun i other => takeGroup_strip_other (s := s.heard) other, ?_⟩
    · rw [group, TableEntry.take_eq, kindIs]
      cases kind <;> rfl
    · have known : s.heard.group.masters g = true ↔ ∃ x ∈ s.group.mastered, x.group = g := masters_iff
      rw [takeGroup_causes, BEq.rfl, Bool.and_true, Bool.or_eq_true, Bool.and_eq_true, bne_iff_ne, known]
      rfl
    · obtain ⟨level, cut⟩ := (after.current ((takeGroup_same ..).symm ▸ hi)).audio ((inputs i).role.trans role)
      rw [(inputs i).levelUnder] at level
      rw [(inputs i).cutUnder, show (takeGroup kind g m.value m.slot s.heard).group.soloLevel = s.group.soloLevel by rw [group]; rfl]
        at cut
      exact ⟨level, cut⟩
    · exact takeGroup_same kind g m.value m.slot s.heard

end Sys2Proof.Machine
end

section
/-! The control port: causes, mask and attention line, requests refused by their form, what the port sends, and READ STRIP (R37, R169 to
R173, R181, R182). -/

namespace Sys2Proof.Machine

/-! ### Causes and the attention line (R171, R172) -/

theorem Cause.exists_position {k : Nat} (h : k < 15) : ∃ c : Cause, c.position = k := by
  have all : ∀ k : Fin 15, ∃ c ∈ [Cause.peerChange, .slotConflict, .premixConflict, .groupConflict, .clockChange, .busOver, .laneOverflow,
    .windowOversubscribed, .inputSilent, .stuckTouch, .journalFull, .passMissed, .mergeDone, .mergeAborted, .lineError],
    c.position = k.val := by decide
  obtain ⟨c, -, hc⟩ := all ⟨k, h⟩
  exact ⟨c, hc⟩

/-- Every bit of a field of 15 marks belongs to a cause. -/
theorem marks_ne_zero_iff (marks : BitVec 15) : marks ≠ 0 ↔ ∃ c : Cause, marks.getLsbD c.position = true := by
  constructor
  · intro h
    by_contra none
    refine h (BitVec.eq_of_getLsbD_eq fun k hk => ?_)
    obtain ⟨c, rfl⟩ := Cause.exists_position hk
    simpa using fun set => none ⟨c, set⟩
  · rintro ⟨c, set⟩ rfl
    simp at set

theorem attentionLine_iff (s : State) : s.attentionLine = true ↔ s.resetPin = false ∧
    ∃ c : Cause, s.causeSet c = true ∧ s.control.mask.getLsbD c.position = true := by
  simp only [State.attentionLine, Bool.and_eq_true, Bool.not_eq_true', bne_iff_ne, marks_ne_zero_iff, BitVec.getLsbD_and, State.causeSet]

/-- The 15 marks of two bytes are their low bits (R181). -/
theorem readCauseMarks_getLsbD (high low : Byte) (c : Cause) :
    ((high ++ low).extractLsb' 0 15).getLsbD c.position = (high ++ low).getLsbD c.position := by
  rw [BitVec.getLsbD_extractLsb', decide_eq_true c.position_lt, Bool.true_and, Nat.zero_add]

/-- The cause set as two bytes: cause i in bit i, and bit 15 clear (R171, R181). -/
theorem causes_bytes (causes : BitVec 15) : ∃ high low : Byte, beBytes 2 causes.toNat = [high, low] ∧
    high ++ low = causes.setWidth 16 := by
  refine ⟨BitVec.ofNat 8 (causes.toNat >>> 8), BitVec.ofNat 8 causes.toNat, rfl, ?_⟩
  have bound : causes.toNat < 2 ^ 15 := causes.isLt
  refine BitVec.eq_of_toNat_eq ?_
  rw [BitVec.toNat_append, BitVec.toNat_setWidth, BitVec.toNat_ofNat, BitVec.toNat_ofNat, ← Nat.shiftLeft_add_eq_or_of_lt
    (Nat.mod_lt _ (by decide)), Nat.shiftLeft_eq, Nat.shiftRight_eq_div_pow]
  omega

/-! ### Requests refused by their form (R169, R170, R182) -/

/-- What an operand reader reads has its length. -/
theorem readCauseMarks_length {data : List Byte} (h : data.length ≠ 2) : readCauseMarks data = none := by
  unfold readCauseMarks; split
  · exact absurd rfl h
  · rfl

theorem readNone_length {data : List Byte} (h : data.length ≠ 0) : readNone data = none :=
  if_neg fun empty => h (List.length_eq_zero_iff.mpr empty)

theorem readStripData_length {data : List Byte} (h : data.length ≠ 15) : readStripData data = none := by
  unfold readStripData; split
  · exact absurd rfl h
  · rfl

theorem readSendData_length {data : List Byte} (h : data.length ≠ 5) : readSendData data = none := by
  unfold readSendData; split
  · exact absurd rfl h
  · rfl

theorem readPremixData_length {data : List Byte} (h : data.length ≠ 9) : readPremixData data = none := by
  unfold readPremixData; split
  · exact absurd rfl h
  · rfl

theorem readWindowData_length {data : List Byte} (h : data.length ≠ 3) : readWindowData data = none := by
  unfold readWindowData; split
  · exact absurd rfl h
  · rfl

theorem readOutputData_length {data : List Byte} (h : data.length ≠ 2) : readOutputData data = none := by
  unfold readOutputData; split
  · exact absurd rfl h
  · rfl

theorem readPair_length {data : List Byte} (h : data.length ≠ 4) : readPair data = none := by
  unfold readPair; split
  · exact absurd rfl h
  · rfl

theorem readCount_length {data : List Byte} (h : data.length ≠ 1) : readCount data = none := by
  unfold readCount; split
  · exact absurd rfl h
  · rfl

theorem readInsertData_length {data : List Byte} (h : data.length ≠ 10) : readInsertData data = none := by
  unfold readInsertData; split
  · exact absurd rfl h
  · rfl

theorem readDeleteData_length {data : List Byte} (h : data.length ≠ 13) : readDeleteData data = none := by
  unfold readDeleteData; split
  · exact absurd rfl h
  · rfl

theorem readMovesData_length {data : List Byte} (h : data.length ≠ 7) : readMovesData data = none := by
  unfold readMovesData; split
  · exact absurd rfl h
  · rfl

theorem onEdit_refuses {α : Type} {address : BitVec 16} {d : Option α} {s : State} (pin : s.resetPin = false) (h : d = none)
    (f : Fin 64 → α → State → State) : onEdit address d s f = .next (refuse .range s) := by
  rw [onEdit, onCommand_next pin, h]

/-- A request of another length than its command's, or with an object address that should be 0 and is not. -/
def formBroken (command : Byte) (address : BitVec 16) (data : List Byte) : Prop :=
  data.length ≠ commandLength command ∨ (namesNoObject command = true ∧ address ≠ 0)

/-- A broken request of a command that names an object has a wrong length. -/
theorem formBroken.length {command : Byte} {address : BitVec 16} {data : List Byte} (h : formBroken command address data)
    (object : namesNoObject command = false) : data.length ≠ commandLength command :=
  h.resolve_right fun ⟨noObject, _⟩ => Bool.false_ne_true (object.symm.trans noObject)

/-- A broken request of a command with no data and no object. -/
theorem formBroken.bare {command : Byte} {address : BitVec 16} {data : List Byte} (h : formBroken command address data)
    (empty : commandLength command = 0) : data ≠ [] ∨ address ≠ 0 :=
  h.imp (fun length none => length (by rw [none, empty]; rfl)) And.right

/-- A broken request of a command with no data that names an object. -/
theorem formBroken.data {command : Byte} {address : BitVec 16} {data : List Byte} (h : formBroken command address data)
    (object : namesNoObject command = false) (empty : commandLength command = 0) : data ≠ [] :=
  fun none => h.length object (by rw [none, empty]; rfl)

theorem exec_refuses_broken {c : Instr} {command : Byte} {address : BitVec 16} {data : List Byte} {s : State} (pin : s.resetPin = false)
    (request : c.request = some (command, address, data)) (broken : formBroken command address data) :
    exec c s = .next (refuse .range s) := by
  cases c with
  | readStatus =>
    cases request
    rw [exec, execReadStatus, onBare_refuses pin (broken.bare rfl)]
  | readCauses =>
    cases request
    rw [exec, execReadCauses, onBare_refuses pin (broken.bare rfl)]
  | clearCauses =>
    cases request
    rw [exec, execClearCauses, onGlobal_refuses pin (broken.imp readCauseMarks_length And.right)]
  | writeAttentionMask =>
    cases request
    rw [exec, execWriteAttentionMask, onGlobal_refuses pin (broken.imp readCauseMarks_length And.right)]
  | readStrip =>
    cases request
    rw [exec, execReadStrip, onStrip_refuses pin (.inr (readNone_length (broken.length rfl)))]
  | writeStrip =>
    cases request
    rw [exec, execWriteStrip, onStrip_refuses pin (.inr (readStripData_length (broken.length rfl)))]
  | writeSend =>
    cases request
    rw [exec, execWriteSend, onStrip_refuses pin (.inr (readSendData_length (broken.length rfl)))]
  | writePremix =>
    cases request
    rw [exec, execWritePremix, onCommand_next pin, readPremixData_length (broken.length rfl)]
    split
    · next unread => cases unread
    · rfl
  | writeWindow =>
    cases request
    rw [exec, execWriteWindow, onCommand_next pin, readWindowData_length (broken.length rfl)]
    split
    · next unread => cases unread
    · rfl
  | writeOutput =>
    cases request
    rw [exec, execWriteOutput, onStrip_refuses pin (.inr (readOutputData_length (broken.length rfl)))]
  | writeCalibration =>
    cases request
    rw [exec, execWriteCalibration, onStrip_refuses pin (.inr (readPair_length (broken.length rfl)))]
  | writeTouch =>
    cases request
    rw [exec, execWriteTouch, onStrip_refuses pin (.inr (readPair_length (broken.length rfl)))]
  | readMeters =>
    cases request
    rw [exec, execReadMeters, onCommand_next pin, readCount_length (broken.length rfl)]
  | readPeers =>
    cases request
    rw [exec, execReadPeers, onCommand_next pin, readCount_length (broken.length rfl)]
  | insertMove =>
    cases request
    rw [exec, execInsertMove, onEdit_refuses pin (readInsertData_length (broken.length rfl))]
  | deleteMoves =>
    cases request
    rw [exec, execDeleteMoves, onEdit_refuses pin (readDeleteData_length (broken.length rfl))]
  | clearStrip =>
    cases request
    rw [exec, execClearStrip, onEdit_refuses pin (readNone_length (broken.length rfl))]
  | clearStore =>
    cases request
    rw [exec, execClearStore, onBare_refuses pin (broken.bare rfl)]
  | readMoves =>
    cases request
    rw [exec, execReadMoves, onStrip_refuses pin (.inr (readMovesData_length (broken.length rfl)))]
  | passOpen =>
    cases request
    rw [exec, execPassOpen, onCommand_next pin, if_pos (.inl (broken.data rfl rfl))]
  | passClose =>
    cases request
    rw [exec, execPassClose, onCommand_next pin, if_pos (.inl (broken.data rfl rfl))]
  | passKeep =>
    cases request
    rw [exec, execPassKeep, onBare_refuses pin (broken.bare rfl)]
  | passDrop =>
    cases request
    rw [exec, execPassDrop, onBare_refuses pin (broken.bare rfl)]
  | engineRestart =>
    cases request
    rw [exec, execEngineRestart, onBare_refuses pin (broken.bare rfl)]
  | commandByteNamesNoCommand =>
    rw [exec, execCommandByteNamesNoCommand, onCommand_next pin]
  | _ => cases request

end Sys2Proof.Machine
end

section
/-! What the control port answers and sends, and the reply of READ STRIP (R37, R169, R181, R182). -/

namespace Sys2Proof.Machine

/-! ### Every control command is a transaction that replies (R169) -/

/-- A transaction: not taken while RESET is asserted, and otherwise ended with a reply. -/
def IsTransaction (s : State) (result : Result) : Prop :=
  ∃ f : State → State, result = onCommand s f ∧ ∀ u, ∃ r, (f u).control.reply = some r

theorem replied_respond (status : Status) (data : List Byte) (s : State) : ∃ r, (respond status data s).control.reply = some r :=
  ⟨_, rfl⟩

theorem replied_ok (s : State) : ∃ r, (ok s).control.reply = some r := ⟨_, rfl⟩

theorem replied_refuse (status : Status) (s : State) : ∃ r, (refuse status s).control.reply = some r := ⟨_, rfl⟩

theorem isTransaction_onBare {address : BitVec 16} {data : List Byte} {s : State} {f : State → State}
    (h : ∀ u, ∃ r, (f u).control.reply = some r) : IsTransaction s (onBare address data s f) := by
  refine ⟨_, rfl, fun u => ?_⟩
  split
  · exact h u
  · exact replied_refuse _ u

theorem isTransaction_onGlobal {α : Type} {address : BitVec 16} {d : Option α} {s : State} {f : α → State → State}
    (h : ∀ v u, ∃ r, (f v u).control.reply = some r) : IsTransaction s (onGlobal address d s f) := by
  refine ⟨_, rfl, fun u => ?_⟩
  split
  · split
    · exact h _ u
    · exact replied_refuse _ u
  · exact replied_refuse _ u

theorem isTransaction_onStrip {α : Type} {address : BitVec 16} {d : Option α} {s : State} {f : Fin 64 → α → State → State}
    (h : ∀ i v u, ∃ r, (f i v u).control.reply = some r) : IsTransaction s (onStrip address d s f) := by
  refine ⟨_, rfl, fun u => ?_⟩
  split
  · exact h _ _ u
  · exact replied_refuse _ u

theorem isTransaction_onEdit {α : Type} {address : BitVec 16} {d : Option α} {s : State} {f : Fin 64 → α → State → State}
    (h : ∀ i v u, ∃ r, (f i v u).control.reply = some r) : IsTransaction s (onEdit address d s f) := by
  refine ⟨_, rfl, fun u => ?_⟩
  split
  · exact replied_refuse _ u
  · split
    · exact replied_refuse _ u
    · split
      · exact h _ _ u
      · exact replied_refuse _ u

theorem replied_unless {c : Prop} [Decidable c] {status : Status} {s t : State} (h : ∃ r, t.control.reply = some r) :
    ∃ r, (if c then refuse status s else t).control.reply = some r := by
  split
  · exact replied_refuse _ s
  · exact h

theorem replied_when {c : Prop} [Decidable c] {status : Status} {s t : State} (h : ∃ r, t.control.reply = some r) :
    ∃ r, (if c then t else refuse status s).control.reply = some r := by
  split
  · exact h
  · exact replied_refuse _ s

theorem replied_sendPass (kind : MsgKind) (n : Nat) (atOnce : State → State) (s : State) :
    ∃ r, (sendPass kind n atOnce s).control.reply = some r := by
  unfold sendPass
  dsimp only
  split
  · exact replied_ok _
  · exact replied_unless (replied_ok _)

theorem isTransaction_exec {c : Instr} {request : Byte × BitVec 16 × List Byte} (h : c.request = some request) (s : State) :
    IsTransaction s (exec c s) := by
  cases c with
  | readStatus =>
    rw [exec, execReadStatus]
    exact isTransaction_onBare fun u => replied_respond _ _ _
  | readCauses =>
    rw [exec, execReadCauses]
    exact isTransaction_onBare fun u => replied_respond _ _ _
  | clearCauses =>
    rw [exec, execClearCauses]
    exact isTransaction_onGlobal fun v u => replied_ok _
  | writeAttentionMask =>
    rw [exec, execWriteAttentionMask]
    exact isTransaction_onGlobal fun v u => replied_ok _
  | readStrip =>
    rw [exec, execReadStrip]
    exact isTransaction_onStrip fun i v u => replied_respond _ _ _
  | writeStrip =>
    rw [exec, execWriteStrip]
    exact isTransaction_onStrip fun i v u => replied_unless (replied_ok _)
  | writeSend =>
    rw [exec, execWriteSend]
    exact isTransaction_onStrip fun i v u => replied_ok _
  | writePremix =>
    rw [exec, execWritePremix]
    refine ⟨_, rfl, fun u => ?_⟩
    split
    · exact replied_unless (replied_ok _)
    · exact replied_refuse _ u
  | writeWindow =>
    rw [exec, execWriteWindow]
    refine ⟨_, rfl, fun u => ?_⟩
    split
    · exact replied_ok _
    · exact replied_refuse _ u
  | writeOutput =>
    rw [exec, execWriteOutput]
    exact isTransaction_onStrip fun i v u => replied_unless (replied_ok _)
  | writeCalibration =>
    rw [exec, execWriteCalibration]
    exact isTransaction_onStrip fun i v u => replied_when (replied_ok _)
  | writeTouch =>
    rw [exec, execWriteTouch]
    exact isTransaction_onStrip fun i v u => replied_when (replied_ok _)
  | readMeters =>
    rw [exec, execReadMeters]
    refine ⟨_, rfl, fun u => ?_⟩
    dsimp only
    split
    · exact replied_unless (replied_respond _ _ _)
    · exact replied_refuse _ u
  | readPeers =>
    rw [exec, execReadPeers]
    refine ⟨_, rfl, fun u => ?_⟩
    dsimp only
    split
    · exact replied_unless (replied_respond _ _ _)
    · exact replied_refuse _ u
  | insertMove =>
    rw [exec, execInsertMove]
    refine isTransaction_onEdit fun i v u => ?_
    split
    · exact replied_refuse _ u
    · exact replied_unless (replied_ok _)
  | deleteMoves =>
    rw [exec, execDeleteMoves]
    refine isTransaction_onEdit fun i v u => ?_
    split
    · exact replied_refuse _ u
    · exact replied_unless (replied_ok _)
  | clearStrip =>
    rw [exec, execClearStrip]
    exact isTransaction_onEdit fun i v u => replied_ok _
  | clearStore =>
    rw [exec, execClearStore]
    exact isTransaction_onBare fun u => replied_unless (replied_ok _)
  | readMoves =>
    rw [exec, execReadMoves]
    refine isTransaction_onStrip fun i v u => ?_
    dsimp only
    split
    · exact replied_refuse _ u
    · exact replied_respond _ _ u
    · exact replied_respond _ _ u
  | passOpen =>
    rw [exec, execPassOpen]
    refine ⟨_, rfl, fun u => replied_unless ?_⟩
    split
    · exact replied_sendPass _ _ _ u
    · exact replied_refuse _ u
    · exact replied_refuse _ u
    · exact replied_refuse _ u
  | passClose =>
    rw [exec, execPassClose]
    refine ⟨_, rfl, fun u => replied_unless ?_⟩
    split
    · exact replied_when (replied_sendPass _ _ _ u)
    · exact replied_refuse _ u
    · exact replied_refuse _ u
    · exact replied_refuse _ u
  | passKeep =>
    rw [exec, execPassKeep]
    refine isTransaction_onBare fun u => ?_
    split
    · exact replied_unless (replied_ok _)
    · exact replied_refuse _ u
    · exact replied_refuse _ u
    · exact replied_refuse _ u
  | passDrop =>
    rw [exec, execPassDrop]
    refine isTransaction_onBare fun u => ?_
    split
    · exact replied_ok _
    · exact replied_refuse _ u
    · exact replied_refuse _ u
    · exact replied_refuse _ u
  | engineRestart =>
    rw [exec, execEngineRestart]
    exact isTransaction_onBare fun u => replied_ok _
  | commandByteNamesNoCommand =>
    rw [exec, execCommandByteNamesNoCommand]
    exact ⟨_, rfl, replied_refuse _⟩
  | _ => cases h

/-- While RESET is asserted a transaction leaves no reply (R169). -/
theorem IsTransaction.noReply {s t : State} (h : IsTransaction s (.next t)) (pin : s.resetPin = true) : t.control.reply = none := by
  obtain ⟨f, ran, -⟩ := h
  obtain rfl := Host.Outcome.next.inj ran
  rw [if_pos pin]
  rfl

theorem IsTransaction.reply {s t : State} (h : IsTransaction s (.next t)) (pin : s.resetPin = false) : ∃ r, t.control.reply = some r := by
  obtain ⟨f, ran, replied⟩ := h
  rw [onCommand_next pin] at ran
  obtain rfl := Host.Outcome.next.inj ran
  exact replied s

/-! ### What the port sends (R169, R181) -/

theorem sentBytes_length (received : List Byte) (s : State) : (s.sentBytes received).length = received.length := by
  simp only [State.sentBytes, List.length_take, List.length_append, List.length_replicate]
  omega

theorem sentBytes_silent {received : List Byte} {s : State} (h : (decodeRequest received).request = none ∨ s.control.reply = none) :
    ∀ b ∈ s.sentBytes received, b = 0 := by
  have silent : s.sentBytes received = (List.replicate received.length (0 : Byte)).take received.length := by
    unfold State.sentBytes
    obtain unread | unsent := h
    · rw [unread]
      cases s.control.reply <;> rfl
    · rw [unsent]
      cases (decodeRequest received).request <;> rfl
  intro b hb
  rw [silent] at hb
  exact List.eq_of_mem_replicate (List.mem_of_mem_take hb)

/-- The bytes of an answered request, one by one: 00h to the end of the turnaround, the status, the reply data, and 00h past them. -/
theorem sentBytes_get {received : List Byte} {s : State} {command : Byte} {address : BitVec 16} {data : List Byte} {r : Reply}
    (request : (decodeRequest received).request = some (command, address, data)) (reply : s.control.reply = some r) {k : Nat}
    (hk : k < received.length) :
    (s.sentBytes received)[k]? = some (if k < 6 + data.length then 0
      else if k = 6 + data.length then BitVec.ofNat 8 r.status.code else r.data.getD (k - (7 + data.length)) 0) := by
  have sent : s.sentBytes received = (List.replicate (6 + data.length) 0 ++
      (BitVec.ofNat 8 r.status.code :: (r.data ++ List.replicate received.length 0))).take received.length := by
    have turnaround : List.replicate (6 + data.length) (0 : Byte) = List.replicate (4 + data.length) 0 ++ [0, 0] := by
      rw [show 6 + data.length = 4 + data.length + 2 by omega, ← List.replicate_append_replicate]
      rfl
    simp only [State.sentBytes, request, reply, Reply.bytes, turnaround, byte, List.append_assoc, List.cons_append, List.nil_append]
  rw [sent, List.getElem?_take_of_lt hk]
  split
  · next before => rw [List.getElem?_append_left (by rwa [List.length_replicate]), List.getElem?_replicate_of_lt before]
  · next past =>
    rw [List.getElem?_append_right (by rw [List.length_replicate]; omega), List.length_replicate]
    split
    · next here => rw [here, Nat.sub_self, List.getElem?_cons_zero]
    · next beyond =>
      obtain ⟨j, rfl⟩ : ∃ j, k = j + (7 + data.length) := ⟨k - (7 + data.length), by omega⟩
      rw [show j + (7 + data.length) - (6 + data.length) = j + 1 by omega, List.getElem?_cons_succ, Nat.add_sub_cancel]
      by_cases within : j < r.data.length
      · rw [List.getElem?_append_left within, List.getD_eq_getElem?_getD, List.getElem?_eq_getElem within, Option.getD_some]
      · rw [List.getElem?_append_right (Nat.le_of_not_lt within), List.getElem?_replicate_of_lt (by omega),
          List.getD_eq_default _ _ (Nat.le_of_not_lt within)]

/-! ### The layout of READ STRIP (R37, R182) -/

theorem beBytes_one (v : Nat) : beBytes 1 v = byte v := by simp [beBytes, byte]

theorem flagByte_eq (b : Bool) : flagByte b = mark b := by cases b <;> rfl

theorem orNone_byte {α : Type} (f : α → Nat) (v : Option α) :
    orNone 1 (v.map fun x => byte (f x)) = optional (fun x => byte (f x)) (byte 0) v := by
  cases v <;> rfl

theorem listed_bytes {α : Type} (f : α → Nat) (l : List α) :
    listed (l.map fun x => byte (f x)) = counted (fun x => byte (f x)) l := by
  rw [listed, counted, List.length_map, List.flatMap_def]
  rfl

theorem placeOf_mode (m : Mode) : placeOf [.off, .read, .touch, .latch, .write] m = byte m.code := by cases m <;> rfl

theorem placeOf_source (v : Source) : placeOf [.desk, .store] v = byte v.code := by cases v <;> rfl

theorem placeOf_tap (v : Tap) : placeOf [.pre, .post] v = byte v.code := by cases v <;> rfl

theorem placeOf_direction (v : Direction) : placeOf [.cutting, .opening] v = byte v.code := by cases v <;> rfl

/-- In a tuned part the level and cut that READ STRIP reports are those the strip's record gives (R33, R37). -/
theorem StripsTuned.effective {s : State} (h : StripsTuned s) {i : Fin 64} (hi : s.hasStrip i = true) :
    s.effective i = match s.strips[i].role with
      | .audio => ((s.strips[i].effLevel : Int), s.strips[i].effCut)
      | .groupMaster _ => (masterOffset s.strips[i].faderCode, s.strips[i].modeCut) := by
  have handed := (h.current hi).master
  unfold State.effective
  cases role : s.strips[i].role with
  | audio => rfl
  | groupMaster g =>
    obtain ⟨m, found, values⟩ := Option.map_eq_some_iff.mp (handed g role)
    simp only [found]
    exact values

theorem Send.report_eq (send : Send) :
    send.report = fields [beBytes 1 send.bus, two send.code, placeOf [.pre, .post] send.tap, flagByte send.on] := by
  simp only [fields, List.flatten_cons, List.flatten_nil, List.append_nil, List.append_assoc, beBytes_one, placeOf_tap, flagByte_eq,
    Send.report]

/-- A READ STRIP of an existing strip in a tuned part, its reply laid out as R182 has it. -/
theorem stripReport_eq {s : State} (tuned : StripsTuned s) {i : Fin 64} (hi : s.hasStrip i = true) :
    s.stripReport i =
      let st := s.strips[i]
      let cutRamp := fields [four st.cutRamp.current, placeOf [.cutting, .opening] st.cutRamp.direction]
      fields [
        (match st.role with
          | .audio => [0, 0, 0]
          | .groupMaster g => 1 :: 1 :: beBytes 1 g),
        orNone 1 (st.input.map fun c => beBytes 1 c.val), two st.trim, flagByte st.manualCut, flagByte st.solo, flagByte st.soloSafe,
        listed (st.groups.map fun g => beBytes 1 g.val), placeOf [.off, .read, .touch, .latch, .write] st.mode, two st.glideSteps,
        two st.staticCode, two st.liveCode, placeOf [.desk, .store] st.levelSource, two st.storeLevel,
        placeOf [.desk, .store] st.cutSource, flagByte st.storeCut,
        fields (st.sends.toList.map fun send => fields
          [beBytes 1 send.bus, two send.code, placeOf [.pre, .post] send.tap, flagByte send.on]),
        four st.levelRamp.current, four st.levelRamp.target, four st.levelRamp.step, beBytes 1 st.levelRamp.count, cutRamp,
        flagByte st.present,
        two (match st.role with
          | .audio => st.effLevel
          | .groupMaster _ => if st.faderCode = 0 then -1020 else (st.faderCode : Int) - 900),
        flagByte (match st.role with
          | .audio => st.effCut
          | .groupMaster _ => st.modeCut),
        four st.levelRamp.current, four st.levelRamp.target, beBytes 1 st.levelRamp.count, cutRamp,
        flagByte s.group.soloLevel] := by
  have sends (l : List Send) : fields (l.map fun send => fields
      [beBytes 1 send.bus, two send.code, placeOf [.pre, .post] send.tap, flagByte send.on]) = l.flatMap Send.report := by
    simp only [← Send.report_eq]
    rw [fields, List.flatMap_def]
  dsimp only
  rw [State.stripReport, tuned.effective hi, sends]
  unfold Strip.record
  generalize s.strips[i] = st
  simp only [fields, List.flatten_cons, List.flatten_nil, List.append_nil, List.append_assoc, beBytes_one, placeOf_mode, placeOf_source,
    placeOf_direction, flagByte_eq, orNone_byte, listed_bytes]
  cases st.role <;> rfl

/-- Settles O57: each register by its own rule, requests by their form, and the bytes of a transaction one by one. -/
theorem controlPortReadsAndWritesItsRegisters : Obligations.ControlPortReadsAndWritesItsRegisters := by
  intro s
  refine ⟨attentionLine_iff s, rfl, fun received t ran => ⟨sentBytes_length received t, ?_, ?_⟩, fun pin => ⟨?_, ?_, ?_, ?_, ?_⟩⟩
  · intro silent
    refine sentBytes_silent ?_
    cases request : (decodeRequest received).request with
    | none => exact .inl rfl
    | some request' =>
      obtain pin | abandoned := silent
      · exact .inr ((ran ▸ isTransaction_exec request s).noReply pin)
      · rw [abandoned] at request
        cases request
  · intro pin command address data request
    obtain ⟨r, reply⟩ := (ran ▸ isTransaction_exec request s : IsTransaction s (.next t)).reply pin
    refine ⟨r, reply, fun k hk => ?_⟩
    rw [sentBytes_get request reply hk]
    cases r.status <;> rfl
  · intro command address data
    rw [exec, execCommandByteNamesNoCommand, onCommand_next pin, refuse_eq]
  · intro c command address data request broken
    exact (exec_refuses_broken pin request broken).trans (congrArg _ (refuse_eq _ _))
  · obtain ⟨high, low, bytes, joined⟩ := causes_bytes s.control.causes
    refine ⟨high, low, ?_, fun c => ?_, ?_⟩
    · change exec _ s = .next _
      rw [exec, execReadCauses, onBare_next pin, bytes]
      rfl
    · rw [joined, BitVec.getLsbD_setWidth, decide_eq_true (Nat.lt_succ_of_lt c.position_lt), Bool.true_and]
      rfl
    · rw [joined, BitVec.getLsbD_setWidth, BitVec.getLsbD_of_ge _ _ (Nat.le_refl 15), Bool.and_false]
  · intro high low
    have read : readCauseMarks [high, low] = some ((high ++ low).extractLsb' 0 15) := rfl
    refine ⟨s.control.causes &&& ~~~(high ++ low).extractLsb' 0 15, (high ++ low).extractLsb' 0 15, ?_, ?_, fun c => ⟨?_, ?_⟩⟩
    · change exec _ s = .next _
      rw [exec, execClearCauses, onGlobal_next pin read]
      rfl
    · change exec _ s = .next _
      rw [exec, execWriteAttentionMask, onGlobal_next pin read]
      rfl
    · rw [BitVec.getLsbD_and, BitVec.getLsbD_not, decide_eq_true c.position_lt, Bool.true_and, readCauseMarks_getLsbD]
      rfl
    · exact readCauseMarks_getLsbD high low c
  · intro address
    refine ⟨fun i named hi tuned => ?_, fun missing => ?_⟩
    · change exec _ s = .next _
      rw [exec, execReadStrip, onStrip_next pin named hi (rfl : readNone [] = some ()), stripReport_eq tuned (hasStrip_iff.mpr hi)]
      rfl
    · change exec _ s = .next _
      rw [exec, execReadStrip, onStrip_refuses pin (.inl missing), refuse_eq]

end Sys2Proof.Machine
end

section
/-! Settings: what the card processor writes, and that a command changes no setting but the one its rule names. -/

namespace Sys2Proof.Machine

/-! ### The settings and what keeps them -/

/-- A setting, or a part of the state that a statement about settings names beside them. -/
inductive Setting
  | mask
  | map
  | faders
  | strips
  | sends
  | premix
  | windows
  | clock

/-- The fields of a strip that WRITE STRIP writes (R35). -/
def Strip.written (st : Strip) : Role × Option (Fin 64) × Nat × Bool × Bool × Bool × List (Fin 32) × Mode × Nat × Nat :=
  (st.role, st.input, st.trim, st.manualCut, st.solo, st.soloSafe, st.groups, st.mode, st.glideSteps, st.staticCode)

/-- The fields of a fader record that WRITE CALIBRATION and WRITE TOUCH write (R126, R131). -/
def Fader.written (f : Fader) : Nat × Nat × Nat × Nat := (f.low, f.high, f.onThreshold, f.offThreshold)

/-- The fields of a premix master that WRITE PREMIX writes (R83). -/
def PremixMaster.written (m : PremixMaster) : Nat × Bool × PremixSend × PremixSend := (m.code, m.cut, m.send0, m.send1)

theorem Strip.sameWritten_iff {a b : Strip} : Strip.sameWritten a b ↔ a.written = b.written := by
  simp only [Strip.sameWritten, Strip.written, Prod.mk.injEq]

theorem Fader.sameWritten_iff {a b : Fader} : Fader.sameWritten a b ↔ a.written = b.written := by
  simp only [Fader.sameWritten, Fader.written, Prod.mk.injEq]

theorem PremixMaster.sameWritten_iff {a b : PremixMaster} : PremixMaster.sameWritten a b ↔ a.written = b.written := by
  simp only [PremixMaster.sameWritten, PremixMaster.written, Prod.mk.injEq]

/-- Two states agree in a setting. -/
def Setting.Same (s t : State) : Setting → Prop
  | .mask => t.control.mask = s.control.mask
  | .map => t.ports.map = s.ports.map
  | .faders => (fun i : Fin 64 => t.surface.faders[i].written) = fun i => s.surface.faders[i].written
  | .strips => (fun i : Fin 64 => t.strips[i].written) = fun i => s.strips[i].written
  | .sends => (fun i : Fin 64 => t.strips[i].sends) = fun i => s.strips[i].sends
  | .premix => (t.summer.pending.owned, fun p : Fin 64 => t.summer.premix[p].written) =
      (s.summer.pending.owned, fun p => s.summer.premix[p].written)
  | .windows => t.summer.pending.windows = s.summer.pending.windows
  | .clock => t.clock = s.clock

theorem Setting.Same.trans {s t u : State} {k : Setting} (h : k.Same s t) (h' : k.Same t u) : k.Same s u := by
  cases k <;> exact Eq.trans h' h

/-- Work that leaves the queue of commands, the straps and the RESET pin, and every setting but the one written. -/
structure Settled (written : Option Setting) (s t : State) : Prop where
  pending : t.pending = s.pending
  straps : t.straps = s.straps
  resetPin : t.resetPin = s.resetPin
  same : ∀ k, written ≠ some k → k.Same s t

variable {w : Option Setting} {s t u : State}

theorem Settled.trans (h : Settled w s t) (k : Settled w t u) : Settled w s u :=
  ⟨k.pending.trans h.pending, k.straps.trans h.straps, k.resetPin.trans h.resetPin, fun x hx => (h.same x hx).trans (k.same x hx)⟩

/-- Work that keeps every setting keeps all but any one. -/
theorem Settled.any (h : Settled none s t) : Settled w s t :=
  ⟨h.pending, h.straps, h.resetPin, fun k _ => h.same k (Option.some_ne_none _).symm⟩

theorem Settled.refl (s : State) : Settled w s s := ⟨rfl, rfl, rfl, fun k _ => by cases k <;> rfl⟩

/-! ### The operations every command is built from -/

theorem settled_setEngine (s : State) (v : Engine) : Settled w s (s.setEngine v) := ⟨rfl, rfl, rfl, fun k _ => by cases k <;> rfl⟩

theorem settled_setTx (s : State) (v : LaneTx) : Settled w s (s.setTx v) := ⟨rfl, rfl, rfl, fun k _ => by cases k <;> rfl⟩

theorem settled_setPeers (s : State) (v : Vector Peer 16) : Settled w s (s.setPeers v) := ⟨rfl, rfl, rfl, fun k _ => by cases k <;> rfl⟩

theorem settled_setGroup (s : State) (v : GroupLine) : Settled w s (s.setGroup v) := ⟨rfl, rfl, rfl, fun k _ => by cases k <;> rfl⟩

theorem settled_setPlayback (s : State) (v : Playback) : Settled w s (s.setPlayback v) :=
  ⟨rfl, rfl, rfl, fun k _ => by cases k <;> rfl⟩

theorem settled_setPass (s : State) (v : Pass) : Settled w s (s.setPass v) := ⟨rfl, rfl, rfl, fun k _ => by cases k <;> rfl⟩

theorem settled_setClock (s : State) (v : Clock) : Settled (some .clock) s (s.setClock v) := by
  refine ⟨rfl, rfl, rfl, fun k other => ?_⟩
  cases k with
  | clock => exact (other rfl).elim
  | _ => rfl

theorem settled_setPorts {v : Ports} (map : w = some .map ∨ v.map = s.ports.map) : Settled w s (s.setPorts v) := by
  refine ⟨rfl, rfl, rfl, fun k other => ?_⟩
  cases k with
  | map => exact map.resolve_left other
  | _ => rfl

theorem settled_setControl {v : Control} (mask : w = some .mask ∨ v.mask = s.control.mask) : Settled w s (s.setControl v) := by
  refine ⟨rfl, rfl, rfl, fun k other => ?_⟩
  cases k with
  | mask => exact mask.resolve_left other
  | _ => rfl

theorem settled_setSurface {v : Surface} (faders : w = some .faders ∨ ∀ i : Fin 64, v.faders[i].written = s.surface.faders[i].written) :
    Settled w s (s.setSurface v) := by
  refine ⟨rfl, rfl, rfl, fun k other => ?_⟩
  cases k with
  | faders => exact funext (faders.resolve_left other)
  | _ => rfl

theorem settled_setStrips {v : Vector Strip 64} (written : w = some .strips ∨ ∀ i : Fin 64, v[i].written = s.strips[i].written)
    (sends : w = some .sends ∨ ∀ i : Fin 64, v[i].sends = s.strips[i].sends) : Settled w s (s.setStrips v) := by
  refine ⟨rfl, rfl, rfl, fun k other => ?_⟩
  cases k with
  | strips => exact funext (written.resolve_left other)
  | sends => exact funext (sends.resolve_left other)
  | _ => rfl

theorem settled_setSummer {v : Summer}
    (premix : w = some .premix ∨ (v.pending.owned = s.summer.pending.owned ∧
      ∀ p : Fin 64, v.premix[p].written = s.summer.premix[p].written))
    (windows : w = some .windows ∨ v.pending.windows = s.summer.pending.windows) : Settled w s (s.setSummer v) := by
  refine ⟨rfl, rfl, rfl, fun k other => ?_⟩
  cases k with
  | premix =>
    obtain ⟨owned, written⟩ := premix.resolve_left other
    exact Prod.ext owned (funext written)
  | windows => exact windows.resolve_left other
  | _ => rfl

theorem settled_raise (c : Cause) (s : State) : Settled w s (raise c s) := settled_setControl (.inr (by rfl))

theorem settled_raiseIf (b : Bool) (c : Cause) (s : State) : Settled w s (raiseIf b c s) := by
  cases b
  · exact .refl s
  · exact settled_raise c s

theorem settled_modAuto (i : Fin 64) (f : AutoStrip → AutoStrip) (s : State) : Settled w s (modAuto i f s) := settled_setPlayback s _

theorem settled_modFader {i : Fin 64} {f : Fader → Fader} (h : w = some .faders ∨ ∀ x, (f x).written = x.written) :
    Settled w s (modFader i f s) := by
  refine settled_setSurface (h.imp_right fun same j => ?_)
  rw [set_get]
  split
  · next e => rw [← e]; exact same _
  · rfl

theorem settled_modStrip {i : Fin 64} {f : Strip → Strip} (written : w = some .strips ∨ ∀ x, (f x).written = x.written)
    (sends : w = some .sends ∨ ∀ x, (f x).sends = x.sends) : Settled w s (modStrip i f s) := by
  refine settled_setStrips (written.imp_right fun same j => ?_) (sends.imp_right fun same j => ?_) <;> rw [set_get] <;> split
  · next e => rw [← e]; exact same _
  · rfl
  · next e => rw [← e]; exact same _
  · rfl

/-- What the automation engine hands to a strip is no setting. -/
theorem Strip.SameDesk.settings {a b : Strip} (h : Strip.SameDesk a b) : b.written = a.written ∧ b.sends = a.sends := by
  rw [h]
  exact ⟨rfl, rfl⟩

/-- The work of strips, group line, automation engine and pass record changes no setting. -/
theorem RideFrame.settled (h : RideFrame s t) : Settled w s t := by
  refine ⟨h.inner.pending, h.inner.straps, h.inner.resetPin, fun k _ => ?_⟩
  cases k with
  | mask => exact h.inner.mask
  | map => exact congrArg Ports.map h.inner.ports
  | faders => exact congrArg (fun (v : Surface) (i : Fin 64) => v.faders[i].written) h.inner.surface
  | strips => exact funext fun i => (h.strips i).settings.1
  | sends => exact funext fun i => (h.strips i).settings.2
  | premix => exact congrArg (fun v : Summer => (v.pending.owned, fun p : Fin 64 => v.premix[p].written)) h.inner.summer
  | windows => exact congrArg (fun v : Summer => v.pending.windows) h.inner.summer
  | clock => exact h.inner.clock

theorem Settled.whenDone {c : Prop} [Decidable c] (h : Settled w s t) (k : Settled w t u) : Settled w s (if c then u else t) := by
  split
  · exact h.trans k
  · exact h

theorem forStrips_settled {f : Fin 64 → State → State} (h : ∀ i t, Settled w t (f i t)) (s : State) : Settled w s (forStrips f s) :=
  forStrips_induct (P := fun t => Settled w s t) (.refl s) fun i t _ ht => ht.trans (h i t)

theorem Settled.responded (h : Settled w s t) (status : Status) (data : List Byte) : Settled w s (respond status data t) :=
  h.trans (settled_setControl (.inr (by rfl)))

theorem settled_refuse (status : Status) (s : State) : Settled w s (refuse status s) := settled_setControl (.inr (by rfl))

theorem settled_onEvent {f : State → State} (k : Settled w s (f s)) (h : onEvent s f = .next t) : Settled w s t := by
  obtain rfl := Host.Outcome.next.inj h
  split
  · exact .refl s
  · exact k

theorem settled_onCommand {f : State → State} (k : Settled w s (f s)) (h : onCommand s f = .next t) : Settled w s t := by
  obtain rfl := Host.Outcome.next.inj h
  split
  · exact settled_setControl (.inr (by rfl))
  · exact k

theorem settled_onBare {address : BitVec 16} {data : List Byte} {f : State → State} (k : Settled w s (f s))
    (h : onBare address data s f = .next t) : Settled w s t := by
  refine settled_onCommand ?_ h
  split
  · exact k
  · exact settled_refuse _ s

theorem settled_onGlobal {α : Type} {address : BitVec 16} {d : Option α} {f : α → State → State} (k : ∀ v, Settled w s (f v s))
    (h : onGlobal address d s f = .next t) : Settled w s t := by
  refine settled_onCommand ?_ h
  split
  · split
    · exact k _
    · exact settled_refuse _ s
  · exact settled_refuse _ s

theorem settled_onStrip {α : Type} {address : BitVec 16} {d : Option α} {f : Fin 64 → α → State → State}
    (k : ∀ i v, Settled w s (f i v s)) (h : onStrip address d s f = .next t) : Settled w s t := by
  refine settled_onCommand ?_ h
  split
  · exact k _ _
  · exact settled_refuse _ s

theorem settled_onEdit {α : Type} {address : BitVec 16} {d : Option α} {f : Fin 64 → α → State → State}
    (k : ∀ i v, Settled w s (f i v s)) (h : onEdit address d s f = .next t) : Settled w s t := by
  refine settled_onCommand ?_ h
  split
  · exact settled_refuse _ s
  · split
    · exact settled_refuse _ s
    · split
      · exact k _ _
      · exact settled_refuse _ s

/-! ### Lanes and frames -/

theorem settled_handOverA (a : BusList) (s : State) : Settled w s (handOverA a s) := by
  unfold handOverA
  split
  · exact .refl s
  · exact (settled_setTx s _).trans (settled_raiseIf _ _ _)

theorem settled_processFrame (samples : Vector Int 64) (s : State) : Settled w s (processFrame samples s) := by
  unfold processFrame
  dsimp only
  refine Settled.trans ?_ (settled_handOverA _ _)
  exact ((settled_setPorts (.inr (by rfl))).trans (settled_setEngine _ _)).trans (settled_setSummer (.inr (by exact ⟨rfl, fun _ => rfl⟩)) (.inr (by rfl)))

theorem settled_completeLaneFrame (readBack : List Byte) (clean : Bool) (s : State) :
    Settled w s (completeLaneFrame readBack clean s) := by
  unfold completeLaneFrame
  split
  · exact .refl s
  · next f _ =>
    dsimp only
    generalize (if isMatch f readBack clean then 0 else s.tx.mismatches + 1) = count
    split
    · exact ((settled_setTx s _).trans (settled_raise _ _)).trans (settled_setGroup _ _)
    · exact settled_setTx s _

theorem settled_takeLaneFrame (lane : Fin 16) (bytes : List Byte) (s : State) : Settled w s (takeLaneFrame lane bytes s) := by
  unfold takeLaneFrame
  split
  · exact .refl s
  · split <;> exact settled_setPeers s _

/-! ### The group line -/

theorem ride_messageEndWork (bits : BitVec 38) (s : State) : RideFrame s (messageEndWork bits s) := by
  unfold messageEndWork
  split
  · exact .refl s
  · exact .refl s
  · split
    · exact ride_judgeMessage bits s
    · dsimp only
      split
      · exact (ride_setGroup s _).trans (ride_judgeMessage bits _)
      · split
        · exact (lineFrame_loseArbitration s).ride.trans (ride_judgeMessage bits _)
        · exact (lineFrame_meetFault s).ride

theorem ride_positionWork (bytes : List Byte) (s : State) : RideFrame s (positionWork bytes s) := by
  unfold positionWork
  split
  · exact ride_setPlayback s _
  · exact ride_takePosition _ _ s

theorem settled_sendPass {kind : MsgKind} {n : Nat} {atOnce : State → State} {s : State} (k : RideFrame s (atOnce s)) :
    Settled w s (sendPass kind n atOnce s) := by
  unfold sendPass
  dsimp only
  split
  · exact k.settled.responded _ _
  · have asked := settled_setGroup (w := w) s (s.group.enqueue kind n 0)
    split
    · exact asked.responded _ _
    · exact (asked.trans (lineFrame_startIfIdle _).ride.settled).responded _ _

/-! ### The surface port -/

theorem settled_evalStrip (i : Fin 64) (s : State) : Settled w s (evalStrip i s) := (ride_evalStrip i s).settled

theorem settled_takeCode (i : Fin 64) (raw : Nat) (s : State) : Settled w s (takeCode i raw s) := by
  unfold takeCode
  dsimp only
  split
  · refine Settled.trans ?_ (settled_evalStrip i _)
    exact (settled_modFader (.inr (by exact fun _ => rfl))).trans
      (settled_modStrip (.inr (by exact fun _ => rfl)) (.inr (by exact fun _ => rfl)))
  · exact .refl s

theorem Fader.judge_written (delta : Nat) (f : Fader) : (f.judge delta).1.written = f.written := by
  unfold Fader.judge
  split
  · split
    · split <;> rfl
    · rfl
  · dsimp only
    split
    · split <;> rfl
    · rfl

theorem Fader.drift_written (baseline count : Nat) (f : Fader) : (f.drift baseline count).written = f.written := by
  unfold Fader.drift
  split
  · rfl
  · split <;> rfl

/-- A touch count moves no calibration and no threshold (R127, R128, R130). -/
theorem Fader.sense_written (count : Nat) (f : Fader) : (f.sense count).1.written = f.written := by
  unfold Fader.sense
  split
  · rfl
  · next held _ =>
    have judged := Fader.judge_written (max held count - count) { f with baseline := some (max held count) }
    have drifted := (Fader.drift_written (max held count) count _).trans judged
    dsimp only
    split
    · exact drifted
    · exact drifted

theorem settled_handTouch (i : Fin 64) (e : TouchEvent) (s : State) : Settled w s (handTouch i e s) := by
  cases e with
  | none => exact .refl s
  | touch => exact (ride_touchStrip i s).settled
  | release => exact (ride_releaseStrip i s).settled
  | stuck => exact (ride_releaseStrip i s).settled.trans (settled_raise _ _)

theorem settled_takeTouch (i : Fin 64) (count : Nat) (s : State) : Settled w s (takeTouch i count s) := by
  unfold takeTouch
  dsimp only
  refine Settled.trans (settled_setSurface (.inr fun j => ?_)) (settled_handTouch i _ _)
  rw [set_get]
  split
  · next e => rw [← e]; exact Fader.sense_written _ _
  · rfl

theorem settled_setPresence (i : Fin 64) (present : Bool) (s : State) : Settled w s (setPresence i present s) := by
  refine Settled.trans ?_ (settled_evalStrip i _)
  exact (settled_modFader (.inr (by exact fun _ => rfl))).trans
    (settled_modStrip (.inr (by exact fun _ => rfl)) (.inr (by exact fun _ => rfl)))

theorem settled_losePresence (i : Fin 64) (s : State) : Settled w s (losePresence i s) := by
  unfold losePresence
  dsimp only
  refine Settled.whenDone ?_ (ride_releaseStrip i _).settled
  exact (settled_setPresence i false s).trans (settled_modFader (.inr fun _ => rfl))

theorem settled_takeFader (readings : List Reading) (i : Fin 64) (s : State) : Settled w s (takeFader readings i s) := by
  unfold takeFader
  split
  · dsimp only
    refine Settled.trans ?_ (settled_takeTouch i _ _)
    refine Settled.trans ?_ (settled_takeCode i _ _)
    split
    · exact .refl s
    · exact settled_setPresence i true s
  · exact (Settled.refl s).whenDone (settled_losePresence i s)

theorem settled_sendMotorReturn (readings : List Reading) (s : State) : Settled w s (sendMotorReturn readings s) :=
  settled_setSurface (.inr fun _ => rfl)

theorem settled_scanWork (bytes : List Byte) (s : State) : Settled w s (scanWork bytes s) := by
  unfold scanWork
  split
  · exact settled_setSurface (.inr (by exact fun _ => rfl))
  · next readings _ =>
    have active : Settled w s (s.setSurface { s.surface with link := .active, silence := 0 }) := settled_setSurface (.inr fun _ => rfl)
    have taken := active.trans (forStrips_settled (settled_takeFader readings) _)
    exact taken.trans (settled_sendMotorReturn readings _)

theorem settled_silenceExpiry (s : State) : Settled w s (silenceExpiry s) := by
  unfold silenceExpiry
  split
  · exact settled_setSurface (.inr (by exact fun _ => rfl))
  · exact (settled_setSurface (.inr (by exact fun _ => rfl))).trans
      (forStrips_settled (fun i t => (Settled.refl t).whenDone (settled_losePresence i t)) _)

/-! ### A frame boundary (R117) -/

theorem settled_boundaryWork (tag : Tag) (sample : Nat) (s : State) : Settled none s (boundaryWork tag sample s) := by
  obtain ⟨pending, resetPin, straps, clock, strips, -, surface, map, mask, -⟩ := boundaryWork_blocks tag sample s
  have done := (boundaryDone tag sample s).summer
  obtain ⟨-, -, -, entered, -⟩ := entered_keeps s
  have strip (i : Fin 64) : (boundaryWork tag sample s).strips[i] = { s.strips[i] with
      levelRamp := s.strips[i].levelRamp.advance, cutRamp := s.strips[i].cutRamp.advance } := by
    rw [strips, advanceRamps, State.setStrips_strips, mapFin_get]
  generalize boundaryWork tag sample s = t at *
  refine ⟨pending, straps, resetPin, fun k _ => ?_⟩
  cases k with
  | mask => exact mask
  | map => exact map
  | faders => exact funext fun i => by rw [surface]; rfl
  | strips => exact funext fun i => by rw [strip]; rfl
  | sends => exact funext fun i => by rw [strip]
  | premix =>
    refine Prod.ext (congrArg SumConfig.owned (by rw [done.pending, entered])) (funext fun p => ?_)
    dsimp only
    rw [done.premix, readyToSum_premix, entered]
    rfl
  | windows => exact congrArg SumConfig.windows (by rw [done.pending, entered])
  | clock => exact clock

theorem settled_frameBoundary (time : Nat) (marked : Bool) (s : State) : Settled (some .clock) s (frameBoundary time marked s) := by
  unfold frameBoundary
  dsimp only
  exact (settled_setClock s _).trans (settled_boundaryWork _ _ _).any

theorem settled_setClockState (c : Clock) (s : State) : Settled (some .clock) s (setClockState c s) :=
  (settled_setClock s c).trans (settled_raiseIf _ _ _)

theorem settled_referenceEdge (marked : Bool) (time : Nat) (s : State) : Settled (some .clock) s (referenceEdgeWork marked time s) := by
  have judged := settled_setClockState
    { s.clock.judge s.rate time with latestEdge := some time, expiryMet := s.clock.meetsExpiry s.rate time } s
  unfold referenceEdgeWork
  dsimp only
  split
  · exact judged
  · exact judged.trans (settled_frameBoundary _ _ _)

theorem settled_loseReference (edge : Nat) (s : State) : Settled (some .clock) s (loseReference edge s) := by
  unfold loseReference
  dsimp only
  exact ((settled_setClockState _ s).trans (settled_frameBoundary _ _ _)).trans (settled_setClock _ _)

/-! ### ENGINE RESTART (R174) -/

theorem settled_restartStrips (s : State) : Settled w s (restartStrips s) := by
  refine Settled.trans (settled_setStrips (.inr fun i => ?_) (.inr fun i => ?_)) (settled_setEngine _ _) <;> rw [mapFin_get]
  rfl

theorem settled_restartPeers (s : State) : Settled w s (restartPeers s) := (settled_setPeers s _).trans (settled_raiseIf _ _ _)

theorem settled_restartSummer (s : State) : Settled w s (restartSummer s) := by
  refine settled_setSummer (.inr ⟨rfl, fun p => ?_⟩) (.inr rfl)
  rw [mapFin_get]
  rfl

theorem lineFrame_foldl {α : Type} {f : State → α → State} (h : ∀ t a, LineFrame t (f t a)) (l : List α) (s : State) :
    LineFrame s (l.foldl f s) := by
  induction l generalizing s with
  | nil => exact .refl s
  | cons a l ih => exact (h s a).trans (ih _)

theorem lineFrame_restartGroup (s : State) : LineFrame s (restartGroup s) := by
  unfold restartGroup
  dsimp only
  refine LineFrame.trans ?_ (lineFrame_foldl (fun t (m : Master) => lineFrame_refreshGroup m.group t) _ _)
  exact ((lineFrame_setGroup s _).trans (lineFrame_seek _)).trans (lineFrame_retuneWhere _ _)

theorem settled_restartSurface (s : State) : Settled w s (restartSurface s) := by
  refine settled_setSurface (.inr fun i => ?_)
  rw [mapFin_get]
  rfl

theorem ride_restartAutoStrip (i : Fin 64) (s : State) : RideFrame s (restartAutoStrip i s) := by
  unfold restartAutoStrip
  dsimp only
  refine RideFrame.trans ?_ (ride_handValues i _)
  exact (ride_modAuto _ _ _).whenDone (ride_readStrip _ _)

theorem ride_restartPass (s : State) : RideFrame s (restartPass s) := by
  have ended := (ride_setPass s { s.pass with punches := Vector.replicate 64 ⟨none, none⟩, mergeList := [] }).trans (ride_endPass _)
  unfold restartPass
  dsimp only
  split
  · exact .refl s
  · exact ended
  · exact ended
  · exact ended.trans (ride_raise _ _)

theorem settled_restartPorts (s : State) : Settled w s (restartPorts s) := settled_setPorts (.inr rfl)

theorem settled_restartWork (s : State) : Settled w s (restartWork s) := by
  unfold restartWork
  dsimp only
  refine Settled.trans ?_ (settled_restartPorts _)
  refine Settled.trans ?_ (ride_restartPass _).settled
  refine Settled.trans ?_ (forStrips_ride ride_restartAutoStrip _).settled
  refine Settled.trans ?_ (settled_restartSurface _)
  refine Settled.trans ?_ (lineFrame_restartGroup _).ride.settled
  refine Settled.trans ?_ (settled_restartSummer _)
  refine Settled.trans ?_ (settled_restartPeers _)
  exact (settled_restartStrips s).trans (settled_setTx _ _)

end Sys2Proof.Machine
end

section
/-! Every command but a reset writes at most the setting its rule names (R35, R36, R73, R83, R117, R126, R131, R167, R172). -/

namespace Sys2Proof.Machine

/-- The setting that a command's rule lets it write; the clock for what can make a frame boundary or judges or reports it. -/
def writtenBy : Instr → Option Setting
  | .writeAttentionMask _ _ => some .mask
  | .writeOutput _ _ => some .map
  | .writeCalibration _ _ => some .faders
  | .writeTouch _ _ => some .faders
  | .writeStrip _ _ => some .strips
  | .writeSend _ _ => some .sends
  | .writePremix _ _ => some .premix
  | .writeWindow _ _ => some .windows
  | .referenceEdge _ _ => some .clock
  | .dividerBoundary => some .clock
  | .lossWindowExpiry => some .clock
  | .holdoverBoundary => some .clock
  | .readStatus _ _ => some .clock
  | _ => none

/-! ### The writes -/

theorem settled_clearStatusCounters (s : State) : Settled (some .clock) s (clearStatusCounters s) := by
  unfold clearStatusCounters
  dsimp only
  refine Settled.trans ?_ (settled_setPlayback _ _)
  refine Settled.trans ?_ (settled_setSurface (.inr fun _ => rfl))
  exact (settled_setClock s _).trans (settled_setGroup _ _)

/-- A taken WRITE STRIP stores its fields, and what it then hands on changes no desk field of a strip. -/
theorem ride_writeStripWork (i : Fin 64) (d : StripData) (s : State) :
    RideFrame (modStrip i (Strip.store d) s) (writeStripWork i d s) := by
  unfold writeStripWork
  dsimp only
  refine RideFrame.unlessDone ?_ (ride_changeMode i _)
  refine RideFrame.whenDone ?_ (ride_evalStrip i _)
  refine RideFrame.unlessDone ?_ (ride_changeCut i _)
  exact (RideFrame.refl _).unlessDone (lineFrame_changeRole i _ _).ride

theorem settled_writeStripWork (i : Fin 64) (d : StripData) (s : State) : Settled (some .strips) s (writeStripWork i d s) :=
  (settled_modStrip (.inl rfl) (.inr (by exact fun _ => rfl))).trans (ride_writeStripWork i d s).settled

theorem settled_keepWork {w : Option Setting} (s : State) : Settled w s (keepWork s) := by
  unfold keepWork
  dsimp only
  split
  · exact ((settled_setPass s _).trans (ride_endPass _).settled).trans (settled_raise _ _)
  · exact (settled_setPass s _).trans (settled_setPass _ _)

/-! ### Command by command -/

/-- Every command but a reset leaves queue, straps and RESET pin, and every setting its rule does not write. -/
theorem exec_settled {c : Instr} {s t : State} (h : exec c s = .next t) (noReset : ¬ isReset c) : Settled (writtenBy c) s t := by
  cases c with
  | powerOnReset => exact absurd trivial noReset
  | resetPinAssert => exact absurd trivial noReset
  | resetPinRelease => exact absurd trivial noReset
  | referenceEdge =>
    rw [exec, execReferenceEdge] at h
    refine settled_onEvent ?_ h
    exact settled_referenceEdge _ _ s
  | dividerBoundary =>
    rw [exec, execDividerBoundary] at h
    refine settled_onEvent ?_ h
    exact (Settled.refl s).whenDone (settled_frameBoundary _ _ s)
  | lossWindowExpiry =>
    obtain rfl | ⟨e, -, -, -, -, rfl⟩ := execLossWindowExpiry_cases h
    · exact .refl _
    · exact settled_loseReference e s
  | holdoverBoundary =>
    rw [exec, execHoldoverBoundary] at h
    refine settled_onEvent ?_ h
    exact (Settled.refl s).whenDone ((settled_frameBoundary _ _ s).trans (settled_setClock _ _))
  | automationStep =>
    rw [exec, execAutomationStep] at h
    have step := (ride_setPlayback s { s.playback with stepDue := false }).trans (ride_automationStepWork _)
    refine settled_onEvent ?_ h
    exact (Settled.refl s).whenDone step.settled
  | groupRefresh =>
    rw [exec, execGroupRefresh] at h
    refine settled_onEvent ?_ h
    split
    · exact .refl s
    · exact (settled_setGroup s _).trans (lineFrame_refreshGroup _ _).ride.settled
  | silenceWindowExpiry =>
    rw [exec, execSilenceWindowExpiry] at h
    refine settled_onEvent ?_ h
    exact (Settled.refl s).whenDone (settled_silenceExpiry s)
  | stripFrameProcess =>
    rw [exec, execStripFrameProcess] at h
    refine settled_onEvent ?_ h
    split
    · exact .refl s
    · exact settled_processFrame _ s
  | laneFrameCompletion =>
    rw [exec, execLaneFrameCompletion] at h
    refine settled_onEvent ?_ h
    exact settled_completeLaneFrame _ _ s
  | outputPortFrameStart =>
    rw [exec, execOutputPortFrameStart] at h
    refine settled_onEvent ?_ h
    split
    · exact settled_setPorts (.inr rfl)
    · exact .refl s
  | frameArrival =>
    rw [exec, execFrameArrival] at h
    refine settled_onEvent ?_ h
    exact settled_takeLaneFrame _ _ s
  | portFrameArrival =>
    rw [exec, execPortFrameArrival] at h
    refine settled_onEvent ?_ h
    exact settled_setPorts (.inr (by rfl))
  | scanArrival =>
    rw [exec, execScanArrival] at h
    refine settled_onEvent ?_ h
    exact settled_scanWork _ s
  | positionRecordArrival =>
    rw [exec, execPositionRecordArrival] at h
    exact settled_onEvent (ride_positionWork _ s).settled h
  | lineRest =>
    rw [exec, execLineRest] at h
    refine settled_onEvent ?_ h
    split
    · exact (settled_setGroup s _).trans (lineFrame_startIfIdle _).ride.settled
    · exact .refl s
    · exact .refl s
  | arbitrationLoss =>
    rw [exec, execArbitrationLoss] at h
    refine settled_onEvent ?_ h
    exact (Settled.refl s).whenDone (lineFrame_loseArbitration s).ride.settled
  | lineFault =>
    rw [exec, execLineFault] at h
    refine settled_onEvent ?_ h
    exact (Settled.refl s).whenDone (lineFrame_meetFault s).ride.settled
  | groupMessageEnd =>
    rw [exec, execGroupMessageEnd] at h
    exact settled_onEvent (ride_messageEndWork _ s).settled h
  | soloLineChange =>
    rw [exec, execSoloLineChange] at h
    refine settled_onEvent ?_ h
    split
    · exact .refl s
    · exact (settled_setGroup s _).trans (lineFrame_retuneWhere _ _).ride.settled
  | controlRequestAbandoned =>
    obtain rfl := Host.Outcome.next.inj h
    exact .refl _
  | readStatus =>
    rw [exec, execReadStatus] at h
    refine settled_onBare ?_ h
    exact (settled_clearStatusCounters s).responded _ _
  | readCauses =>
    rw [exec, execReadCauses] at h
    refine settled_onBare ?_ h
    exact (Settled.refl s).responded _ _
  | clearCauses =>
    rw [exec, execClearCauses] at h
    refine settled_onGlobal (fun selection => ?_) h
    exact (settled_setControl (.inr (by rfl))).responded _ _
  | writeAttentionMask =>
    rw [exec, execWriteAttentionMask] at h
    refine settled_onGlobal (fun mask => ?_) h
    exact (settled_setControl (.inl rfl)).responded _ _
  | readStrip =>
    rw [exec, execReadStrip] at h
    refine settled_onStrip (fun i _ => ?_) h
    exact (Settled.refl s).responded _ _
  | writeStrip =>
    rw [exec, execWriteStrip] at h
    refine settled_onStrip (fun i d => ?_) h
    split
    · exact settled_refuse _ s
    · exact (settled_writeStripWork i d s).responded _ _
  | writeSend =>
    rw [exec, execWriteSend] at h
    refine settled_onStrip (fun i d => ?_) h
    exact (settled_modStrip (.inr (by exact fun _ => rfl)) (.inl rfl)).responded _ _
  | writePremix =>
    rw [exec, execWritePremix] at h
    refine settled_onCommand ?_ h
    split
    · split
      · exact settled_refuse _ s
      · refine Settled.responded ?_ _ _
        exact (settled_setSummer (.inl rfl) (.inr (by rfl))).trans (settled_setSummer (.inl rfl) (.inr (by rfl)))
    · exact settled_refuse _ s
  | writeWindow =>
    rw [exec, execWriteWindow] at h
    refine settled_onCommand ?_ h
    split
    · exact (settled_setSummer (.inr (by exact ⟨rfl, fun _ => rfl⟩)) (.inl rfl)).responded _ _
    · exact settled_refuse _ s
  | writeOutput =>
    rw [exec, execWriteOutput] at h
    refine settled_onStrip (fun _ _ => ?_) h
    split
    · exact settled_refuse _ s
    · exact (settled_setPorts (.inl rfl)).responded _ _
  | writeCalibration =>
    rw [exec, execWriteCalibration] at h
    refine settled_onStrip (fun i _ => ?_) h
    split
    · exact (settled_modFader (.inl rfl)).responded _ _
    · exact settled_refuse _ s
  | writeTouch =>
    rw [exec, execWriteTouch] at h
    refine settled_onStrip (fun i _ => ?_) h
    split
    · exact (settled_modFader (.inl rfl)).responded _ _
    · exact settled_refuse _ s
  | readMeters =>
    rw [exec, execReadMeters] at h
    refine settled_onCommand ?_ h
    split
    · dsimp only
      split
      · exact settled_refuse _ s
      · exact (settled_setSummer (.inr (by exact ⟨rfl, fun _ => rfl⟩)) (.inr (by rfl))).responded _ _
    · exact settled_refuse _ s
  | readPeers =>
    rw [exec, execReadPeers] at h
    refine settled_onCommand ?_ h
    split
    · dsimp only
      split
      · exact settled_refuse _ s
      · exact (settled_setPeers s _).responded _ _
    · exact settled_refuse _ s
  | insertMove =>
    rw [exec, execInsertMove] at h
    refine settled_onEdit (fun i _ => ?_) h
    split
    · exact settled_refuse _ s
    · split
      · exact settled_refuse _ s
      · exact (settled_modAuto i _ s).responded _ _
  | deleteMoves =>
    rw [exec, execDeleteMoves] at h
    refine settled_onEdit (fun i _ => ?_) h
    split
    · exact settled_refuse _ s
    · split
      · exact settled_refuse _ s
      · exact (settled_modAuto i _ s).responded _ _
  | clearStrip =>
    rw [exec, execClearStrip] at h
    refine settled_onEdit (fun i _ => ?_) h
    exact (settled_modAuto i _ s).responded _ _
  | clearStore =>
    rw [exec, execClearStore] at h
    refine settled_onBare ?_ h
    split
    · exact settled_refuse _ s
    · exact (settled_setPlayback s _).responded _ _
  | readMoves =>
    rw [exec, execReadMoves] at h
    refine settled_onStrip (fun _ _ => ?_) h
    dsimp only
    split <;> exact (Settled.refl s).responded _ _
  | passOpen =>
    rw [exec, execPassOpen] at h
    refine settled_onCommand ?_ h
    split
    · exact settled_refuse _ s
    · split
      · exact settled_sendPass (ride_takePassOpen _ s)
      all_goals exact settled_refuse _ s
  | passClose =>
    rw [exec, execPassClose] at h
    refine settled_onCommand ?_ h
    split
    · exact settled_refuse _ s
    · split
      · split
        · exact settled_sendPass (ride_takePassClose _ s)
        · exact settled_refuse _ s
      all_goals exact settled_refuse _ s
  | passKeep =>
    rw [exec, execPassKeep] at h
    refine settled_onBare ?_ h
    split
    · split
      · exact settled_refuse _ s
      · exact (settled_keepWork s).responded _ _
    all_goals exact settled_refuse _ s
  | passDrop =>
    rw [exec, execPassDrop] at h
    refine settled_onBare ?_ h
    split
    · exact (ride_endPass s).settled.responded _ _
    all_goals exact settled_refuse _ s
  | engineRestart =>
    rw [exec, execEngineRestart] at h
    refine settled_onBare ?_ h
    exact (settled_restartWork s).responded _ _
  | dominantBitSeen =>
    rw [exec, execDominantBitSeen] at h
    refine settled_onEvent ?_ h
    split
    · exact settled_setGroup s _
    · exact (settled_setGroup s _).trans (lineFrame_markInFlight _).ride.settled
    · exact .refl s
  | commandByteNamesNoCommand =>
    rw [exec, execCommandByteNamesNoCommand] at h
    refine settled_onCommand ?_ h
    exact settled_refuse _ s

/-! ### The obligation -/

/-- No command changes the queue of waiting commands; the resets put the queue back as it was. -/
theorem exec_pending {c : Instr} {s t : State} (h : exec c s = .next t) : t.pending = s.pending := by
  by_cases reset : isReset c
  · cases c with
    | powerOnReset | resetPinAssert | resetPinRelease =>
      obtain rfl := Host.Outcome.next.inj h
      rfl
    | _ => exact reset.elim
  · exact (exec_settled h reset).pending

/-- An own boundary of the clock that is not due changes nothing (R111, R115, R116). -/
theorem exec_noBoundary {c : Instr} {s t : State} (own : c = .dividerBoundary ∨ c = .lossWindowExpiry ∨ c = .holdoverBoundary)
    (h : exec c s = .next t) (noBoundary : ¬ makesBoundary s c) : t = s := by
  obtain rfl | rfl | rfl := own
  · rw [exec, execDividerBoundary, onEvent, if_neg (show ¬ s.clock.state = .free from noBoundary), ite_self] at h
    exact (Host.Outcome.next.inj h).symm
  · obtain same | ⟨e, -, inTime, state, edge, -⟩ := execLossWindowExpiry_cases h
    · exact same
    · exact absurd ⟨state, by rw [edge]; exact Option.some_ne_none e, inTime⟩ noBoundary
  · rw [exec, execHoldoverBoundary, onEvent, if_neg (show ¬ s.clock.state = .holdover from noBoundary), ite_self] at h
    exact (Host.Outcome.next.inj h).symm

/-- The commands that write a setting are those that its rule names. -/
theorem writtenBy_names (c : Instr) :
    (writtenBy c = some .mask → ∃ a d, c = .writeAttentionMask a d) ∧ (writtenBy c = some .map → ∃ a d, c = .writeOutput a d) ∧
    (writtenBy c = some .faders → (∃ a d, c = .writeCalibration a d) ∨ ∃ a d, c = .writeTouch a d) ∧
    (writtenBy c = some .strips → ∃ a d, c = .writeStrip a d) ∧ (writtenBy c = some .sends → ∃ a d, c = .writeSend a d) ∧
    (writtenBy c = some .premix → ∃ a d, c = .writePremix a d) ∧ (writtenBy c = some .windows → ∃ a d, c = .writeWindow a d) ∧
    (writtenBy c = some .clock → (∃ m k, c = .referenceEdge m k) ∨ (∃ a d, c = .readStatus a d) ∨
      (c = .dividerBoundary ∨ c = .lossWindowExpiry ∨ c = .holdoverBoundary)) := by
  cases c <;> simp [writtenBy]

/-- Settles O2: a command that may write a setting is one that its rule names. -/
theorem settingsChangeOnlyByTheirCommands : Obligations.SettingsChangeOnlyByTheirCommands := by
  intro c s
  obtain ⟨t, ran⟩ := exec_total c s
  obtain ⟨mask, map, faders, strips, sends, premix, windows, clock⟩ := writtenBy_names c
  refine ⟨t, ran, exec_pending ran, fun noReset => ?_⟩
  obtain ⟨-, straps, resetPin, same⟩ := exec_settled ran noReset
  refine ⟨straps, resetPin, fun other => ?_, fun other => ?_, fun noCalibration noTouch i => ?_, fun other i => ?_, fun other i => ?_,
    fun other => ?_, fun other => ?_, fun noBoundary noEdge noStatus => ?_⟩
  · exact same .mask fun written => (mask written).elim fun a ⟨d, is⟩ => other a d is
  · exact same .map fun written => (map written).elim fun a ⟨d, is⟩ => other a d is
  · refine Fader.sameWritten_iff.mpr (congrFun (same .faders fun written => ?_) i)
    obtain ⟨a, d, is⟩ | ⟨a, d, is⟩ := faders written
    · exact noCalibration a d is
    · exact noTouch a d is
  · exact Strip.sameWritten_iff.mpr (congrFun (same .strips fun written => (strips written).elim fun a ⟨d, is⟩ => other a d is) i)
  · exact congrFun (same .sends fun written => (sends written).elim fun a ⟨d, is⟩ => other a d is) i
  · obtain ⟨owned, masters⟩ := Prod.mk.inj (same .premix fun written => (premix written).elim fun a ⟨d, is⟩ => other a d is)
    exact ⟨owned, fun p => PremixMaster.sameWritten_iff.mpr (congrFun masters p)⟩
  · exact same .windows fun written => (windows written).elim fun a ⟨d, is⟩ => other a d is
  · by_cases written : writtenBy c = some .clock
    · obtain ⟨m, k, is⟩ | ⟨a, d, is⟩ | own := clock written
      · exact (noEdge m k is).elim
      · exact (noStatus a d is).elim
      · rw [exec_noBoundary own ran noBoundary]
    · exact same .clock written

end Sys2Proof.Machine
end

section
/-! What work between two boundaries enqueues on the group line: each operation's enqueues, in order, and how they compose (R95, R101 to
R103, R106). -/

namespace Sys2Proof.Machine

/-! ### The queue as keys and values -/

/-- What a queue entry sends, whether or not it is in flight. -/
def QueueEntry.sends (e : QueueEntry) : MsgKind × Nat × Int := (e.kind, e.number, e.value)

/-- The keys and values of a send queue. -/
def GroupLine.values (g : GroupLine) : List (MsgKind × Nat × Int) := g.queue.map QueueEntry.sends

/-- Whether a key and value has a key. -/
def sendsKey (kind : MsgKind) (number : Nat) (v : MsgKind × Nat × Int) : Bool := v.1 == kind && v.2.1 == number

/-- An enqueue on keys and values (R101). -/
def enqueueValue (q : List (MsgKind × Nat × Int)) : MsgKind × Nat × Int → List (MsgKind × Nat × Int)
  | (kind, number, value) =>
    if q.any (sendsKey kind number) then q.map fun v => if sendsKey kind number v then (kind, number, value) else v
    else if kind.room ≤ q.length then q
    else q ++ [(kind, number, value)]

theorem enqueue_values (g : GroupLine) (kind : MsgKind) (number : Nat) (value : Int) :
    (g.enqueue kind number value).values = enqueueValue g.values (kind, number, value) := by
  have keys : g.values.any (sendsKey kind number) = g.queue.any (QueueEntry.hasKey kind number) := by
    rw [GroupLine.values, List.any_map]
    rfl
  have length : g.values.length = g.queue.length := List.length_map _
  rw [enqueueValue, keys, length, GroupLine.enqueue]
  split
  · simp only [GroupLine.values, List.map_map]
    refine List.map_congr_left fun e _ => ?_
    simp only [Function.comp_apply]
    have key : sendsKey kind number e.sends = e.hasKey kind number := rfl
    rw [key]
    split
    · next has =>
      obtain ⟨rfl, rfl⟩ : e.kind = kind ∧ e.number = number := by simpa [QueueEntry.hasKey] using has
      rfl
    · rfl
  · split
    · rfl
    · simp only [GroupLine.values, List.map_append]
      rfl

/-! ### What an enqueue leaves -/

/-- Starting a message marks an entry and moves the line to MESSAGE; keys, values and the rest of the group line stand. -/
theorem startIfIdle_group (s : State) :
    (startIfIdle s).group = { s.group with line := (startIfIdle s).group.line, queue := (startIfIdle s).group.queue } ∧
    (startIfIdle s).group.values = s.group.values ∧ (startIfIdle s).control = s.control := by
  unfold startIfIdle
  split
  · unfold markInFlight
    split
    · exact ⟨rfl, rfl, rfl⟩
    · split
      · exact ⟨rfl, rfl, rfl⟩
      · next c _ =>
        refine ⟨rfl, ?_, rfl⟩
        simp only [State.setGroup_group, GroupLine.values, List.map_map]
        refine List.map_congr_left fun e _ => ?_
        simp only [Function.comp_apply]
        split <;> rfl
  · exact ⟨rfl, rfl, rfl⟩
  · exact ⟨rfl, rfl, rfl⟩

theorem startIfIdle_busy {s : State} (busy : s.group.line ≠ .idle) : startIfIdle s = s := by
  unfold startIfIdle
  split
  · next idle => exact (busy idle).elim
  · rfl
  · rfl

theorem enqueue_line (g : GroupLine) (kind : MsgKind) (number : Nat) (value : Int) : (g.enqueue kind number value).line = g.line := by
  unfold GroupLine.enqueue
  split
  · rfl
  · split <;> rfl

theorem enqueueAll_line (g : GroupLine) (values : List (MsgKind × Nat × Int)) : (g.enqueueAll values).line = g.line := by
  induction values generalizing g with
  | nil => rfl
  | cons v rest ih =>
    obtain ⟨kind, number, value⟩ := v
    rw [GroupLine.enqueueAll_cons, ih, enqueue_line]

/-- The mastered set takes no part in an enqueue. -/
theorem enqueue_mastered (g : GroupLine) (kind : MsgKind) (number : Nat) (value : Int) (ms : List Master) :
    ({ g with mastered := ms } : GroupLine).enqueue kind number value = { g.enqueue kind number value with mastered := ms } := by
  unfold GroupLine.enqueue
  dsimp only
  split
  · rfl
  · split <;> rfl

theorem enqueueAll_mastered (g : GroupLine) (values : List (MsgKind × Nat × Int)) (ms : List Master) :
    ({ g with mastered := ms } : GroupLine).enqueueAll values = { g.enqueueAll values with mastered := ms } := by
  induction values generalizing g with
  | nil => rfl
  | cons v rest ih =>
    obtain ⟨kind, number, value⟩ := v
    rw [GroupLine.enqueueAll_cons, GroupLine.enqueueAll_cons, enqueue_mastered, ih]

theorem takeAll_append (g : Fin 32) (slot : Fin 16) (first then_ : List (MsgKind × Nat × Int)) (e : TableEntry) :
    e.takeAll g slot (first ++ then_) = (e.takeAll g slot first).takeAll g slot then_ := List.foldl_append ..

/-- Enqueues made in turn, from the group line as the first left it. -/
theorem State.enqueues_append {s : State} {g g₁ g₂ : GroupLine} {first then_ : List (MsgKind × Nat × Int)}
    (h : s.enqueues g first g₁) (k : s.enqueues g₁ then_ g₂) : s.enqueues g (first ++ then_) g₂ := by
  obtain ⟨busy, idle, silent⟩ := h
  obtain ⟨busy', idle', silent'⟩ := k
  dsimp only at *
  refine ⟨fun lo some => ?_, fun lo line queue => ?_, fun lo => ?_⟩
  · have moved := busy lo (some.imp_right fun none => (List.append_eq_nil_iff.mp none).1)
    have line : g₁.line = g.line := by rw [moved]; exact enqueueAll_line g first
    have moved' := busy' lo (some.imp (line ▸ ·) fun none => (List.append_eq_nil_iff.mp none).2)
    rw [moved', moved, enqueueAll_mastered, GroupLine.enqueueAll_append]
  · cases first with
    | nil =>
      have moved := busy lo (.inr rfl)
      intro kind number value rest values
      have started := idle' lo (by rw [moved]; exact line) (by rw [moved]; exact queue) kind number value rest values
      rw [started]
      generalize g₂.mastered = ms
      rw [moved]
      have := congrArg (fun x : GroupLine => { x with mastered := ms })
        (enqueueAll_mastered { g with line := .message, queue := [⟨kind, number, value, some value⟩] } rest g₁.mastered)
      exact this
    | cons v rest =>
      intro kind number value rest' values
      obtain ⟨rfl, rfl⟩ := List.cons_eq_cons.mp values
      have moved := idle lo line queue kind number value rest rfl
      have message : g₁.line = .message := by rw [moved]; exact enqueueAll_line _ rest
      have moved' := busy' lo (.inl (by rw [message]; decide))
      rw [moved', moved, enqueueAll_mastered]
      exact congrArg (fun x : GroupLine => { x with mastered := g₂.mastered }) (GroupLine.enqueueAll_append _ rest then_).symm
  · obtain ⟨rest, table⟩ := silent lo
    obtain ⟨rest', table'⟩ := silent' lo
    refine ⟨?_, fun h => ?_⟩
    · rw [rest', rest]
    · rw [table', table, takeAll_append]

/-- No entry of the queue that is not in flight has the key. -/
def GroupLine.freeOf (g : GroupLine) (key : MsgKind × Nat) : Prop := ∀ e ∈ g.queue, e.inFlight = none → e.key ≠ key

theorem freeOf_enqueue {g : GroupLine} {key : MsgKind × Nat} {kind : MsgKind} {number : Nat} (other : (kind, number) ≠ key)
    (h : g.freeOf key) (value : Int) : (g.enqueue kind number value).freeOf key := by
  unfold GroupLine.enqueue
  split
  · intro e he none
    obtain ⟨x, hx, rfl⟩ := List.mem_map.mp he
    by_cases has : x.hasKey kind number = true
    · rw [if_pos has] at none ⊢
      exact h x hx none
    · rw [if_neg has] at none ⊢
      exact h x hx none
  · split
    · exact h
    · intro e he none
      rcases List.mem_append.mp he with he | he
      · exact h e he none
      · obtain rfl := List.mem_singleton.mp he
        exact other

/-- An entry that starts its message waits no longer. -/
theorem freeOf_startIfIdle {s : State} {key : MsgKind × Nat} (h : s.group.freeOf key) : (startIfIdle s).group.freeOf key := by
  unfold startIfIdle
  split
  · unfold markInFlight
    split
    · exact h
    · split
      · exact h
      · intro e he none
        rw [State.setGroup_group] at he
        obtain ⟨x, hx, rfl⟩ := List.mem_map.mp he
        split at none
        · cases none
        · next other =>
          rw [if_neg other]
          exact h x hx none
  · exact h
  · exact h

/-! ### Enqueues of an operation -/

/-- Work inside the inner frame whose enqueues on the group line are those listed. -/
structure LineTakes (s t : State) (values : List (MsgKind × Nat × Int)) : Prop where
  inner : Inner s t
  enqueues : s.enqueues s.group values t.group
  queued : s.listenOnly = false → t.group.values = values.foldl enqueueValue s.group.values
  spares : ∀ key, (∀ v ∈ values, (v.1, v.2.1) ≠ key) → s.group.freeOf key → t.group.freeOf key
  solo : t.group.soloLevel = s.group.soloLevel

/-- Such work that raises no cause. -/
structure Enqueued (s t : State) (values : List (MsgKind × Nat × Int)) : Prop extends LineTakes s t values where
  control : t.control = s.control

theorem State.enqueues_congr {s t : State} (tx : t.tx = s.tx) (straps : t.straps = s.straps) (g : GroupLine)
    (values : List (MsgKind × Nat × Int)) (after : GroupLine) : t.enqueues g values after ↔ s.enqueues g values after := by
  have lo : t.listenOnly = s.listenOnly := by rw [State.listenOnly, tx, State.listenOnly]
  unfold State.enqueues
  rw [lo, straps]

theorem LineTakes.trans {s t u : State} {first then_ : List (MsgKind × Nat × Int)} (h : LineTakes s t first)
    (k : LineTakes t u then_) : LineTakes s u (first ++ then_) where
  inner := h.inner.trans k.inner
  enqueues := State.enqueues_append h.enqueues ((State.enqueues_congr h.inner.tx h.inner.straps _ _ _).mp k.enqueues)
  queued := fun lo => by
    rw [k.queued (h.inner.listenOnly.trans lo), h.queued lo, List.foldl_append]
  spares := fun key other none => k.spares key (fun v hv => other v (List.mem_append_right first hv))
    (h.spares key (fun v hv => other v (List.mem_append_left then_ hv)) none)
  solo := k.solo.trans h.solo

theorem Enqueued.trans {s t u : State} {first then_ : List (MsgKind × Nat × Int)} (h : Enqueued s t first)
    (k : Enqueued t u then_) : Enqueued s u (first ++ then_) :=
  ⟨h.toLineTakes.trans k.toLineTakes, k.control.trans h.control⟩

/-- Work that leaves the group line, but for the mastered set, enqueues nothing. -/
theorem lineTakes_nil {s t : State} (inner : Inner s t) (group : t.group = { s.group with mastered := t.group.mastered }) :
    LineTakes s t [] :=
  ⟨inner, (State.enqueues_nil s s.group t.group).mpr group, fun _ => by rw [group]; rfl,
    fun key _ none => by rw [group]; exact none, by rw [group]⟩

theorem enqueued_nil {s t : State} (inner : Inner s t) (control : t.control = s.control)
    (group : t.group = { s.group with mastered := t.group.mastered }) : Enqueued s t [] := ⟨lineTakes_nil inner group, control⟩

theorem JournalFrame.lineTakes {s t : State} (h : JournalFrame s t) : LineTakes s t [] := lineTakes_nil h.inner (by rw [h.group])

theorem Enqueued.refl (s : State) : Enqueued s s [] := enqueued_nil (.refl s) rfl rfl

theorem enqueued_modStrip (i : Fin 64) (f : Strip → Strip) (s : State) : Enqueued s (modStrip i f s) [] :=
  enqueued_nil (inner_modStrip i f s) rfl rfl

theorem enqueued_modAuto (i : Fin 64) (f : AutoStrip → AutoStrip) (s : State) : Enqueued s (modAuto i f s) [] :=
  enqueued_nil (inner_modAuto i f s) rfl rfl

theorem enqueued_modMaster (g : Fin 32) (f : Master → Master) (s : State) : Enqueued s (modMaster g f s) [] :=
  enqueued_nil (lineFrame_modMaster g f s).inner rfl rfl

/-- A message of the own slot raises no GROUP CONFLICT. -/
theorem takeGroup_own (kind : Kind) (g : Fin 32) (value : Int) (s : State) :
    (takeGroup kind g value s.straps.slot s).control = s.control := by
  rw [takeGroup_eq, bne_self_eq_false, Bool.false_and, tableTaken_same]
  rfl

theorem enqueueGroup_driving {s : State} (lo : s.listenOnly = false) (kind : Kind) (g : Fin 32) (value : Int) :
    enqueueGroup kind g value s = startIfIdle (s.setGroup (s.group.enqueue kind.message g.val value)) := by
  rw [enqueueGroup, lo, if_neg Bool.false_ne_true]

theorem enqueueGroup_silent {s : State} (lo : s.listenOnly = true) (kind : Kind) (g : Fin 32) (value : Int) :
    enqueueGroup kind g value s = takeGroup kind g value s.straps.slot s := by
  rw [enqueueGroup, lo, if_pos rfl]

theorem enqueueGroup_mastered (kind : Kind) (g : Fin 32) (value : Int) (s : State) :
    (enqueueGroup kind g value s).group.mastered = s.group.mastered := by
  cases lo : s.listenOnly with
  | true => rw [enqueueGroup_silent lo, takeGroup_group]
  | false =>
    rw [enqueueGroup_driving lo, (startIfIdle_group _).1]
    exact (enqueue_keeps s.group kind.message g.val value).2.2

theorem enqueue_empty {g : GroupLine} (queue : g.queue = []) (kind : Kind) (number : Nat) (value : Int) :
    g.enqueue kind.message number value = { g with queue := [⟨kind.message, number, value, none⟩] } := by
  unfold GroupLine.enqueue
  rw [queue]
  cases kind <;> rfl

/-- In IDLE of an empty queue an enqueue starts its message at once (R95, R92, log entry 12). -/
theorem enqueueGroup_starts {s : State} (lo : s.listenOnly = false) (line : s.group.line = .idle) (queue : s.group.queue = [])
    (kind : Kind) (g : Fin 32) (value : Int) :
    (enqueueGroup kind g value s).group =
      { s.group with line := .message, queue := [⟨kind.message, g.val, value, some value⟩] } := by
  rw [enqueueGroup_driving lo, enqueue_empty queue, startIfIdle, State.setGroup_group]
  dsimp only
  rw [line]
  dsimp only
  have lo' (v : GroupLine) : (s.setGroup v).listenOnly = false := lo
  have chosen : chooseEntry [⟨kind.message, g.val, value, none⟩] = some ⟨kind.message, g.val, value, none⟩ := by cases kind <;> rfl
  rw [markInFlight, lo', if_neg Bool.false_ne_true, State.setGroup_group]
  dsimp only
  rw [chosen]
  simp [QueueEntry.hasKey]

theorem takeGroup_takes (kind : Kind) (g h : Fin 32) (value : Int) (slot : Fin 16) (s : State) :
    (takeGroup kind g value slot s).group.table[h] = s.group.table[h].takeAll h slot [(kind.message, g.val, value)] := by
  rw [takeGroup_group]
  simp only [set_get]
  by_cases same : g = h
  · subst same
    rw [if_pos rfl, TableEntry.take_eq]
    cases kind <;> simp [TableEntry.takeAll, Kind.message]
  · have apart : g.val ≠ h.val := fun eq => same (Fin.ext eq)
    rw [if_neg same]
    simp [TableEntry.takeAll, apart]

theorem enqueued_enqueueGroup (kind : Kind) (g : Fin 32) (value : Int) (s : State) :
    Enqueued s (enqueueGroup kind g value s) [(kind.message, g.val, value)] := by
  have inner := (lineFrame_enqueueGroup kind g value s).inner
  have mastered := enqueueGroup_mastered kind g value s
  cases lo : s.listenOnly with
  | true =>
    rw [enqueueGroup_silent lo] at inner mastered ⊢
    refine ⟨⟨inner, ⟨fun driving => ?_, fun driving => ?_, fun _ => ⟨?_, fun h => ?_⟩⟩, fun driving => ?_, fun key _ none => ?_,
      by rw [takeGroup_group]⟩, takeGroup_own kind g value s⟩
    · cases lo.symm.trans driving
    · cases lo.symm.trans driving
    · rw [takeGroup_group]
    · exact takeGroup_takes kind g h value _ s
    · cases lo.symm.trans driving
    · rw [takeGroup_group]
      exact none
  | false =>
    have started := startIfIdle_group (s.setGroup (s.group.enqueue kind.message g.val value))
    obtain ⟨-, values, control⟩ := started
    refine ⟨⟨inner, ⟨fun _ busy => ?_, fun _ line queue k n v rest is => ?_, fun silent => ?_⟩, fun _ => ?_, fun key other none => ?_, ?_⟩,
      by rw [enqueueGroup_driving lo]; exact control⟩
    · have notIdle : (s.group.enqueue kind.message g.val value).line ≠ .idle := by
        rw [enqueue_line]
        exact busy.resolve_right (List.cons_ne_nil _ _)
      dsimp only
      rw [mastered, enqueueGroup_driving lo, startIfIdle_busy notIdle, ← enqueueAll_mastered]
      rfl
    · obtain ⟨⟨rfl, rfl, rfl⟩, rfl⟩ : (kind.message = k ∧ g.val = n ∧ value = v) ∧ [] = rest := by simpa using is
      dsimp only
      rw [mastered, enqueueGroup_starts lo line queue]
      rfl
    · cases lo.symm.trans silent
    · rw [enqueueGroup_driving lo, values]
      exact enqueue_values s.group kind.message g.val value
    · rw [enqueueGroup_driving lo]
      have enqueued := freeOf_enqueue (other _ List.mem_cons_self) none value
      exact freeOf_startIfIdle (s := s.setGroup (s.group.enqueue kind.message g.val value)) enqueued
    · rw [enqueueGroup_driving lo, (startIfIdle_group _).1]
      exact (enqueue_keeps s.group kind.message g.val value).2.1

theorem refreshGroup_some {s : State} {g : Fin 32} {m : Master} (found : s.group.master g = some m) :
    refreshGroup g s = enqueueGroup .cut g (cutValue m.cut)
      (enqueueGroup .level g m.offset (modMaster g (fun m => { m with enqueued := m.offset }) s)) := by
  rw [refreshGroup, found]

theorem refreshGroup_none {s : State} {g : Fin 32} (found : s.group.master g = none) : refreshGroup g s = s := by
  rw [refreshGroup, found]

/-- A refresh of a mastered group enqueues its level and then its cut (R103, log entry 44). -/
theorem enqueued_refreshGroup {s : State} {g : Fin 32} {m : Master} (found : s.group.master g = some m) :
    Enqueued s (refreshGroup g s) [(.groupLevel, g.val, m.offset), (.groupCut, g.val, cutValue m.cut)] := by
  rw [refreshGroup_some found]
  exact ((enqueued_modMaster g _ s).trans (enqueued_enqueueGroup .level g m.offset _)).trans (enqueued_enqueueGroup .cut g _ _)

/-- A change of a group's record where there is none changes nothing. -/
theorem map_of_no_master {gl : GroupLine} {g : Fin 32} (found : gl.master g = none) (f : Master → Master) :
    (gl.mastered.map fun m => if m.group = g then f m else m) = gl.mastered := by
  have absent : ∀ m ∈ gl.mastered, ¬ m.group = g := by simpa [GroupLine.master] using found
  conv_rhs => rw [← List.map_id gl.mastered]
  exact List.map_congr_left fun m hm => if_neg (absent m hm)

theorem refreshGroup_mastered (g : Fin 32) (s : State) : (refreshGroup g s).group.mastered =
    s.group.mastered.map fun m => if m.group = g then { m with enqueued := m.offset } else m := by
  cases found : s.group.master g with
  | none => rw [refreshGroup_none found, map_of_no_master found]
  | some m => rw [refreshGroup_some found, enqueueGroup_mastered, enqueueGroup_mastered]; rfl

theorem handMaster_some {s : State} {g : Fin 32} {m : Master} (found : s.group.master g = some m) (offset : Int) (cut : Bool) :
    handMaster g offset cut s = if m.cut = cut then modMaster g (fun m => { m with offset := offset, cut := cut }) s
      else enqueueGroup .cut g (cutValue cut) (modMaster g (fun m => { m with offset := offset, cut := cut }) s) := by
  rw [handMaster, found]

theorem handMaster_none {s : State} {g : Fin 32} (found : s.group.master g = none) (offset : Int) (cut : Bool) :
    handMaster g offset cut s = s := by
  rw [handMaster, found]

theorem handMaster_mastered (g : Fin 32) (offset : Int) (cut : Bool) (s : State) : (handMaster g offset cut s).group.mastered =
    s.group.mastered.map fun m => if m.group = g then { m with offset := offset, cut := cut } else m := by
  cases found : s.group.master g with
  | none => rw [handMaster_none found, map_of_no_master found]
  | some m =>
    rw [handMaster_some found]
    split
    · rfl
    · rw [enqueueGroup_mastered]
      rfl

/-- What a group master hands on enqueues its cut where that is new (R33, R102). -/
theorem enqueued_handMaster {s : State} {g : Fin 32} {m : Master} (found : s.group.master g = some m) (offset : Int) (cut : Bool) :
    Enqueued s (handMaster g offset cut s) (changedCuts g m.cut [cut]) := by
  have moved := enqueued_modMaster g (fun m => { m with offset := offset, cut := cut }) s
  rw [handMaster_some found]
  by_cases same : m.cut = cut
  · rw [if_pos same, ← same, changedCuts_same]
    rw [same]
    exact moved
  · have changed : changedCuts g m.cut [cut] = [] ++ [(.groupCut, g.val, cutValue cut)] := by simp [changedCuts, same]
    rw [if_neg same, changed]
    exact moved.trans (enqueued_enqueueGroup .cut g (cutValue cut) _)

end Sys2Proof.Machine
end

section
/-! What handing a strip its values does to that strip, and that the other strips and records stand (R144). -/

namespace Sys2Proof.Machine

/-! ### The level and cut a record gives a strip (R144) -/

theorem Strip.followLevel_level (a : AutoStrip) (st : Strip) :
    ((st.followLevel a).levelSource = .store ↔ a.readLevel ≠ none) ∧
    (∀ code, a.readLevel = some code → (st.followLevel a).storeLevel = code) := by
  unfold Strip.followLevel
  split
  · next code read => simp [read]
  · next read => simp [read]

theorem Strip.levelHanded_takeLevel (a : AutoStrip) (st : Strip) : (st.takeLevel a).levelHanded a := by
  obtain ⟨source, level⟩ := st.followLevel_level a
  have mode : (st.takeLevel a).mode = st.mode := by rw [st.sameDesk_takeLevel a]
  unfold Strip.levelHanded
  rw [mode]
  unfold Strip.takeLevel
  split <;> simp_all [Mode.ridden]

theorem Strip.followLevel_desk {a : AutoStrip} {st : Strip} (desk : (st.followLevel a).levelSource = .desk) :
    (st.followLevel a).storeLevel = st.storeLevel := by
  unfold Strip.followLevel at desk ⊢
  split at desk
  · cases desk
  · rfl

/-- A strip takes the read level, or its source alone changes (R144). -/
theorem Strip.takeLevel_follows (a : AutoStrip) (st : Strip) :
    st.takeLevel a = st.followLevel a ∨ (st.takeLevel a).storeLevel = st.storeLevel := by
  cases mode : st.mode <;> cases phase : a.phase <;> simp [Strip.takeLevel, mode, phase]

theorem Strip.takeLevel_desk {a : AutoStrip} {st : Strip} (desk : (st.takeLevel a).levelSource = .desk) :
    (st.takeLevel a).storeLevel = st.storeLevel := by
  rcases Strip.takeLevel_follows a st with follows | stands
  · rw [follows] at desk ⊢
    exact Strip.followLevel_desk desk
  · exact stands

theorem Strip.followCut_cut (a : AutoStrip) (st : Strip) :
    ((st.followCut a).cutSource = .store ↔ a.readCut ≠ none) ∧ (∀ cut, a.readCut = some cut → (st.followCut a).storeCut = cut) := by
  unfold Strip.followCut
  split
  · next cut read => simp [read]
  · next read => simp [read]

theorem Strip.cutHanded_takeCut (a : AutoStrip) (st : Strip) : (st.takeCut a).cutHanded a := by
  obtain ⟨source, cut⟩ := st.followCut_cut a
  have mode : (st.takeCut a).mode = st.mode := by rw [st.sameDesk_takeCut a]
  unfold Strip.cutHanded
  rw [mode]
  unfold Strip.takeCut
  cases live : a.cutLive <;> cases held : st.mode <;> simp_all [Mode.ridden]

theorem Strip.sameCut_takeLevel (a : AutoStrip) (st : Strip) : st.sameCut (st.takeLevel a) := by
  unfold Strip.takeLevel Strip.followLevel
  repeat' split
  all_goals exact ⟨rfl, rfl⟩

theorem Strip.sameLevel_takeCut (a : AutoStrip) (st : Strip) : st.sameLevel (st.takeCut a) := by
  unfold Strip.takeCut Strip.followCut
  dsimp only
  repeat' split
  all_goals exact ⟨rfl, rfl⟩

theorem Strip.SameInputs.sameLevel {a b : Strip} (h : Strip.SameInputs a b) : a.sameLevel b := by
  rw [h]
  exact ⟨rfl, rfl⟩

theorem Strip.SameInputs.sameCut {a b : Strip} (h : Strip.SameInputs a b) : a.sameCut b := by
  rw [h]
  exact ⟨rfl, rfl⟩

theorem Strip.SameDesk.mode {a b : Strip} (h : Strip.SameDesk a b) : b.mode = a.mode := by rw [h]

theorem Strip.sameLevel.trans {a b c : Strip} (h : a.sameLevel b) (k : b.sameLevel c) : a.sameLevel c :=
  ⟨h.1.trans k.1, h.2.trans k.2⟩

theorem Strip.sameCut.trans {a b c : Strip} (h : a.sameCut b) (k : b.sameCut c) : a.sameCut c :=
  ⟨h.1.trans k.1, h.2.trans k.2⟩

theorem Strip.levelHanded_congr {r : AutoStrip} {a b : Strip} (same : a.sameLevel b) (mode : b.mode = a.mode) (h : a.levelHanded r) :
    b.levelHanded r := by
  obtain ⟨source, level⟩ := same
  unfold Strip.levelHanded at *
  rwa [← source, ← level, mode]

theorem Strip.cutHanded_congr {r : AutoStrip} {a b : Strip} (same : a.sameCut b) (mode : b.mode = a.mode) (h : a.cutHanded r) :
    b.cutHanded r := by
  obtain ⟨source, cut⟩ := same
  unfold Strip.cutHanded at *
  rwa [← source, ← cut, mode]

/-! ### The work of one strip -/

/-- Work that leaves a strip's sources and its automation record, and the playback but for the records. -/
structure Spares (j : Fin 64) (s t : State) : Prop where
  strip : Strip.SameInputs s.strips[j] t.strips[j]
  auto : t.playback.strips[j] = s.playback.strips[j]
  playback : t.playback = { s.playback with strips := t.playback.strips }

/-- The work of one strip: it spares every other. -/
def SparesOthers (i : Fin 64) (s t : State) : Prop := ∀ j : Fin 64, j ≠ i → Spares j s t

theorem Spares.refl (j : Fin 64) (s : State) : Spares j s s := ⟨.refl _, rfl, rfl⟩

theorem Spares.trans {j : Fin 64} {s t u : State} (h : Spares j s t) (k : Spares j t u) : Spares j s u := by
  refine ⟨h.strip.trans k.strip, k.auto.trans h.auto, ?_⟩
  rw [k.playback, h.playback]

theorem LineFrame.spares {s t : State} (h : LineFrame s t) (j : Fin 64) : Spares j s t :=
  ⟨h.strips j, by rw [h.playback], by rw [h.playback]⟩

theorem JournalFrame.spares {s t : State} (h : JournalFrame s t) (j : Fin 64) : Spares j s t :=
  ⟨by rw [h.strips]; exact .refl _, by rw [h.playback], by rw [h.playback]⟩

theorem SparesOthers.refl (i : Fin 64) (s : State) : SparesOthers i s s := fun j _ => .refl j s

theorem SparesOthers.trans {i : Fin 64} {s t u : State} (h : SparesOthers i s t) (k : SparesOthers i t u) : SparesOthers i s u :=
  fun j hj => (h j hj).trans (k j hj)

theorem SparesOthers.whenDone {i : Fin 64} {s t u : State} {c : Prop} [Decidable c] (h : SparesOthers i s t) (k : SparesOthers i t u) :
    SparesOthers i s (if c then u else t) := by
  split
  · exact h.trans k
  · exact h

theorem LineFrame.sparesOthers {s t : State} (h : LineFrame s t) (i : Fin 64) : SparesOthers i s t := fun j _ => h.spares j

theorem JournalFrame.sparesOthers {s t : State} (h : JournalFrame s t) (i : Fin 64) : SparesOthers i s t := fun j _ => h.spares j

theorem sparesOthers_modStrip (i : Fin 64) (f : Strip → Strip) (s : State) : SparesOthers i s (modStrip i f s) := fun j hj =>
  ⟨by rw [modStrip_other hj]; exact .refl _, rfl, rfl⟩

theorem modAuto_self (i : Fin 64) (f : AutoStrip → AutoStrip) (s : State) : (modAuto i f s).playback.strips[i] = f s.playback.strips[i] := by
  rw [modAuto, State.setPlayback_playback, set_get, if_pos rfl]

theorem sparesOthers_modAuto (i : Fin 64) (f : AutoStrip → AutoStrip) (s : State) : SparesOthers i s (modAuto i f s) := fun j hj =>
  ⟨.refl _, by rw [modAuto, State.setPlayback_playback, set_get, if_neg (Ne.symm hj)], rfl⟩

theorem sparesOthers_modEval (i : Fin 64) (f : Strip → Strip) (s : State) : SparesOthers i s (evalStrip i (modStrip i f s)) :=
  (sparesOthers_modStrip i f s).trans ((lineFrame_evalStrip i _).sparesOthers i)

theorem sparesOthers_handLevel (i : Fin 64) (s : State) : SparesOthers i s (handLevel i s) := sparesOthers_modEval i _ s

theorem sparesOthers_handCut (i : Fin 64) (s : State) : SparesOthers i s (handCut i s) := sparesOthers_modEval i _ s

theorem sparesOthers_handValues (i : Fin 64) (s : State) : SparesOthers i s (handValues i s) :=
  (sparesOthers_handLevel i s).trans (sparesOthers_handCut i _)

/-! ### A strip is handed its level and its cut -/

/-- What a strip holds after a change of its inputs and its evaluation. -/
theorem modEval_keeps (i : Fin 64) (f : Strip → Strip) (s : State) :
    Strip.SameInputs (f s.strips[i]) (evalStrip i (modStrip i f s)).strips[i] ∧
    (evalStrip i (modStrip i f s)).playback = s.playback ∧ (evalStrip i (modStrip i f s)).pass = s.pass := by
  have line := lineFrame_evalStrip i (modStrip i f s)
  have strip := line.strips i
  rw [modStrip_self] at strip
  exact ⟨strip, line.playback, line.pass⟩

/-- A strip handed its cut: the cut its record gives, its level as before (R144). -/
theorem handCut_hands (i : Fin 64) (s : State) :
    s.strips[i].sameLevel (handCut i s).strips[i] ∧ (handCut i s).strips[i].cutHanded s.playback.strips[i] ∧
    (handCut i s).playback = s.playback ∧ (handCut i s).pass = s.pass := by
  obtain ⟨strip, playback, pass⟩ := modEval_keeps i (Strip.takeCut s.playback.strips[i]) s
  refine ⟨(Strip.sameLevel_takeCut _ _).trans strip.sameLevel, ?_, playback, pass⟩
  exact Strip.cutHanded_congr strip.sameCut strip.desk.mode (Strip.cutHanded_takeCut _ _)

/-- A strip handed its level: the level its record gives, its cut as before (R144). -/
theorem handLevel_hands (i : Fin 64) (s : State) :
    s.strips[i].sameCut (handLevel i s).strips[i] ∧ (handLevel i s).strips[i].levelHanded s.playback.strips[i] ∧
    ((handLevel i s).strips[i].levelSource = .desk → (handLevel i s).strips[i].storeLevel = s.strips[i].storeLevel) ∧
    (handLevel i s).playback = s.playback ∧ (handLevel i s).pass = s.pass := by
  obtain ⟨strip, playback, pass⟩ := modEval_keeps i (Strip.takeLevel s.playback.strips[i]) s
  obtain ⟨source, level⟩ := strip.sameLevel
  refine ⟨(Strip.sameCut_takeLevel _ _).trans strip.sameCut, ?_, fun desk => ?_, playback, pass⟩
  · exact Strip.levelHanded_congr strip.sameLevel strip.desk.mode (Strip.levelHanded_takeLevel _ _)
  · exact level.symm.trans (Strip.takeLevel_desk (source.trans desk))

/-- A strip is handed level and cut together (R144). -/
theorem handValues_hands (i : Fin 64) (s : State) :
    (handValues i s).strips[i].levelHanded s.playback.strips[i] ∧ (handValues i s).strips[i].cutHanded s.playback.strips[i] ∧
    ((handValues i s).strips[i].levelSource = .desk → (handValues i s).strips[i].storeLevel = s.strips[i].storeLevel) ∧
    (handValues i s).playback = s.playback ∧ (handValues i s).pass = s.pass := by
  obtain ⟨-, levelHanded, kept, playback, pass⟩ := handLevel_hands i s
  obtain ⟨sameLevel, cutHanded, playback', pass'⟩ := handCut_hands i (handLevel i s)
  have mode := ((ride_handCut i (handLevel i s)).strips i).mode
  obtain ⟨source, level⟩ := sameLevel
  refine ⟨Strip.levelHanded_congr ⟨source, level⟩ mode levelHanded, ?_, fun desk => ?_, playback'.trans playback, pass'.trans pass⟩
  · rw [playback] at cutHanded
    exact cutHanded
  · exact level.symm.trans (kept (source.trans desk))

/-! ### A walk over the existing strips -/

theorem foldl_spares {f : Fin 64 → State → State} {i : Fin 64} (only : ∀ j t, SparesOthers j t (f j t)) (l : List (Fin 64)) (absent : i ∉ l)
    (s : State) : Spares i s (l.foldl (fun t j => if t.hasStrip j then f j t else t) s) := by
  induction l generalizing s with
  | nil => exact .refl i s
  | cons j l ih =>
    obtain ⟨apart, absent⟩ := List.ne_and_not_mem_of_not_mem_cons absent
    refine Spares.trans ?_ (ih absent _)
    exact (SparesOthers.refl j s).whenDone (only j s) i apart

theorem foldl_straps {f : Fin 64 → State → State} (straps : ∀ j t, (f j t).straps = t.straps) (l : List (Fin 64)) (s : State) :
    (l.foldl (fun t j => if t.hasStrip j then f j t else t) s).straps = s.straps := by
  induction l generalizing s with
  | nil => rfl
  | cons j l ih =>
    refine (ih _).trans ?_
    dsimp only
    split
    · exact straps j s
    · rfl

/-- In a walk over the existing strips in which each strip's work spares the others, each has its turn once. -/
theorem forStrips_turn {f : Fin 64 → State → State} {s : State} {i : Fin 64} (hi : s.hasStrip i = true)
    (straps : ∀ j t, (f j t).straps = t.straps) (only : ∀ j t, SparesOthers j t (f j t)) :
    ∃ t : State, Spares i s t ∧ Spares i (f i t) (forStrips f s) := by
  obtain ⟨before, after, split⟩ := List.append_of_mem (List.mem_finRange i)
  have once : (before ++ i :: after).Nodup := split ▸ List.nodup_finRange 64
  obtain ⟨absent, absent'⟩ : i ∉ before ∧ i ∉ after := by
    obtain ⟨-, tail, apart⟩ := List.nodup_append.mp once
    exact ⟨fun h => apart i h i List.mem_cons_self rfl, (List.nodup_cons.mp tail).1⟩
  refine ⟨before.foldl (fun t j => if t.hasStrip j then f j t else t) s, foldl_spares only before absent s, ?_⟩
  have here := (hasStrip_of_straps (foldl_straps straps before s) i).trans hi
  rw [forStrips, split, List.foldl_append, List.foldl_cons, if_pos here]
  exact foldl_spares only after absent' _

end Sys2Proof.Machine
end

section
/-! The group line through ENGINE RESTART: what is enqueued again for the mastered groups, and what the strips' evaluation then makes of it
(R101, R103, R106, R107). -/

namespace Sys2Proof.Machine

/-! ### Enqueues of an evaluation -/

theorem evalStrip_audio {i : Fin 64} {s : State} (role : s.strips[i].role = .audio) :
    evalStrip i s = modStrip i (Strip.retune s.group.table s.group.soloLevel) s := by
  unfold evalStrip
  rw [role]

theorem evalStrip_master {i : Fin 64} {s : State} {g : Fin 32} (role : s.strips[i].role = .groupMaster g) :
    evalStrip i s = handMaster g (masterOffset s.strips[i].faderCode) s.strips[i].modeCut s := by
  conv_lhs => unfold evalStrip
  rw [role]

/-- Work whose effect on the group line is enqueues and what the masters hold, the mastered groups as before. -/
structure LineStep (s t : State) : Prop where
  enqueued : ∃ values, Enqueued s t values
  groups : t.group.mastered.map Master.group = s.group.mastered.map Master.group

theorem LineStep.refl (s : State) : LineStep s s := ⟨⟨[], .refl s⟩, rfl⟩

theorem LineStep.trans {s t u : State} (h : LineStep s t) (k : LineStep t u) : LineStep s u := by
  obtain ⟨⟨first, before⟩, groups⟩ := h
  obtain ⟨⟨then_, after⟩, groups'⟩ := k
  exact ⟨⟨first ++ then_, before.trans after⟩, groups'.trans groups⟩

theorem lineStep_modStrip (i : Fin 64) (f : Strip → Strip) (s : State) : LineStep s (modStrip i f s) :=
  ⟨⟨[], enqueued_modStrip i f s⟩, rfl⟩

theorem lineStep_modAuto (i : Fin 64) (f : AutoStrip → AutoStrip) (s : State) : LineStep s (modAuto i f s) :=
  ⟨⟨[], enqueued_modAuto i f s⟩, rfl⟩

theorem groups_handMaster (g : Fin 32) (offset : Int) (cut : Bool) (s : State) :
    (handMaster g offset cut s).group.mastered.map Master.group = s.group.mastered.map Master.group := by
  rw [handMaster_mastered, List.map_map]
  refine List.map_congr_left fun m _ => ?_
  simp only [Function.comp_apply]
  split <;> rfl

theorem lineStep_evalStrip (i : Fin 64) (s : State) : LineStep s (evalStrip i s) := by
  cases role : s.strips[i].role with
  | audio => exact evalStrip_audio role ▸ lineStep_modStrip i _ s
  | groupMaster g =>
    rw [evalStrip_master role]
    cases found : s.group.master g with
    | none => exact (handMaster_none found _ _).symm ▸ .refl s
    | some m => exact ⟨⟨_, enqueued_handMaster found _ _⟩, groups_handMaster _ _ _ _⟩

theorem lineStep_modEval (i : Fin 64) (f : Strip → Strip) (s : State) : LineStep s (evalStrip i (modStrip i f s)) :=
  (lineStep_modStrip i f s).trans (lineStep_evalStrip i _)

theorem lineStep_handValues (i : Fin 64) (s : State) : LineStep s (handValues i s) :=
  (lineStep_modEval i (Strip.takeLevel s.playback.strips[i]) s).trans (lineStep_modEval i (Strip.takeCut _) (handLevel i s))

theorem lineStep_refreshGroup (g : Fin 32) (s : State) : LineStep s (refreshGroup g s) := by
  refine ⟨?_, (tuneFrame_refreshGroup g s).groups⟩
  cases found : s.group.master g with
  | none => exact ⟨[], (refreshGroup_none found).symm ▸ .refl s⟩
  | some m => exact ⟨_, enqueued_refreshGroup found⟩

/-! ### Enqueues in SEEKING -/

/-- An enqueue changes the queue and the drop counter at most. -/
theorem enqueue_frame (g : GroupLine) (kind : MsgKind) (number : Nat) (value : Int) :
    g.enqueue kind number value =
      { g with queue := (g.enqueue kind number value).queue, drops := (g.enqueue kind number value).drops } := by
  unfold GroupLine.enqueue
  split
  · rfl
  · split <;> rfl

theorem enqueueAll_frame (g : GroupLine) (values : List (MsgKind × Nat × Int)) :
    g.enqueueAll values = { g with queue := (g.enqueueAll values).queue, drops := (g.enqueueAll values).drops } := by
  induction values generalizing g with
  | nil => rfl
  | cons v rest ih =>
    obtain ⟨kind, number, value⟩ := v
    have frame := enqueue_frame g kind number value
    rw [GroupLine.enqueueAll_cons]
    generalize g.enqueue kind number value = g₁ at frame
    refine (ih g₁).trans ?_
    generalize g₁.enqueueAll rest = g₂
    rw [frame]

/-- What enqueues in SEEKING change of the group line (R101, R106). -/
structure SeekingEnqueues (lo : Bool) (slot : Fin 16) (g g' : GroupLine) (values : List (MsgKind × Nat × Int)) : Prop where
  frame : g' = { g with queue := g'.queue, table := g'.table, mastered := g'.mastered, drops := g'.drops }
  driving : lo = false → g'.table = g.table ∧ g'.queue = (g.enqueueAll values).queue ∧ g'.drops = (g.enqueueAll values).drops
  silent : lo = true → g'.queue = g.queue ∧ g'.drops = g.drops ∧ ∀ h : Fin 32, g'.table[h] = g.table[h].takeAll h slot values

theorem Enqueued.seeking {s t : State} {values : List (MsgKind × Nat × Int)} (h : Enqueued s t values)
    (line : s.group.line = .seeking) : SeekingEnqueues s.listenOnly s.straps.slot s.group t.group values := by
  obtain ⟨busy, -, silent⟩ := h.enqueues
  cases lo : s.listenOnly with
  | false =>
    have moved := busy lo (.inl (by rw [line]; decide))
    dsimp only at moved
    rw [enqueueAll_frame] at moved
    refine ⟨?_, fun _ => ?_, (fun silent => nomatch silent)⟩
    · rw [moved]
    · rw [moved]
      exact ⟨rfl, rfl, rfl⟩
  | true =>
    obtain ⟨rest, table⟩ := silent lo
    dsimp only at rest
    refine ⟨?_, (fun driving => nomatch driving), fun _ => ⟨?_, ?_, table⟩⟩
    · rw [rest]
    · rw [rest]
    · rw [rest]

/-- What work in SEEKING may change of the group line, the mastered groups as before. -/
structure LineMoved (lo : Bool) (g g' : GroupLine) : Prop where
  frame : g' = { g with queue := g'.queue, table := g'.table, mastered := g'.mastered, drops := g'.drops }
  groups : g'.mastered.map Master.group = g.mastered.map Master.group
  driving : lo = false → g'.table = g.table
  silent : lo = true → g'.queue = g.queue ∧ g'.drops = g.drops

theorem LineMoved.refl (lo : Bool) (g : GroupLine) : LineMoved lo g g := ⟨rfl, rfl, fun _ => rfl, fun _ => ⟨rfl, rfl⟩⟩

theorem LineMoved.trans {lo : Bool} {g₁ g₂ g₃ : GroupLine} (h : LineMoved lo g₁ g₂) (k : LineMoved lo g₂ g₃) : LineMoved lo g₁ g₃ := by
  refine ⟨?_, k.groups.trans h.groups, fun driving => (k.driving driving).trans (h.driving driving), fun silent => ?_⟩
  · rw [k.frame, h.frame]
  · obtain ⟨queue, drops⟩ := h.silent silent
    obtain ⟨queue', drops'⟩ := k.silent silent
    exact ⟨queue'.trans queue, drops'.trans drops⟩

theorem LineMoved.line {lo : Bool} {g g' : GroupLine} (h : LineMoved lo g g') : g'.line = g.line := by rw [h.frame]

theorem LineStep.moved {s t : State} (h : LineStep s t) (line : s.group.line = .seeking) : LineMoved s.listenOnly s.group t.group := by
  obtain ⟨⟨values, moved⟩, groups⟩ := h
  obtain ⟨frame, driving, silent⟩ := moved.seeking line
  exact ⟨frame, groups, fun lo => (driving lo).1, fun lo => ⟨(silent lo).1, (silent lo).2.1⟩⟩

theorem LineStep.control {s t : State} (h : LineStep s t) : t.control = s.control := by
  obtain ⟨⟨values, moved⟩, -⟩ := h
  exact moved.control

theorem LineStep.inner {s t : State} (h : LineStep s t) : Inner s t := by
  obtain ⟨⟨values, moved⟩, -⟩ := h
  exact moved.inner

/-! ### The entries of a restart -/

/-- The entries that a restart enqueues for groups: the level and the cut of each (R107, log entry 44). -/
def refreshEntries (cut : Fin 32 → Bool) (ms : List Master) : List QueueEntry :=
  ms.flatMap fun m => [⟨.groupLevel, m.group.val, m.offset, none⟩, ⟨.groupCut, m.group.val, cutValue (cut m.group), none⟩]

theorem refreshEntries_length (cut : Fin 32 → Bool) (ms : List Master) : (refreshEntries cut ms).length = 2 * ms.length := by
  induction ms with
  | nil => rfl
  | cons m rest ih => simp_all [refreshEntries]; omega

theorem refreshEntries_append (cut : Fin 32 → Bool) (ms ns : List Master) :
    refreshEntries cut (ms ++ ns) = refreshEntries cut ms ++ refreshEntries cut ns := List.flatMap_append

theorem mem_refreshEntries {cut : Fin 32 → Bool} {ms : List Master} {e : QueueEntry} :
    e ∈ refreshEntries cut ms ↔ ∃ m ∈ ms, e = ⟨.groupLevel, m.group.val, m.offset, none⟩ ∨
      e = ⟨.groupCut, m.group.val, cutValue (cut m.group), none⟩ := by
  simp [refreshEntries]

/-- A group's cut changed in the entries of a restart. -/
theorem refreshEntries_recut (cut : Fin 32 → Bool) (ms : List Master) (h : Fin 32) (c : Bool) :
    refreshEntries (Function.update cut h c) ms =
      (refreshEntries cut ms).map fun e => if e.hasKey .groupCut h.val then { e with value := cutValue c } else e := by
  unfold refreshEntries
  rw [List.map_flatMap]
  congr 1
  funext m
  by_cases same : m.group = h
  · subst same
    simp [QueueEntry.hasKey]
  · have apart : m.group.val ≠ h.val := fun eq => same (Fin.ext eq)
    simp [QueueEntry.hasKey, same, apart]

/-- What an enqueue does where its key is not in the queue. -/
theorem enqueue_new {g : GroupLine} {kind : MsgKind} {number : Nat} (new : ∀ e ∈ g.queue, e.hasKey kind number = false) (value : Int) :
    (g.enqueue kind number value).queue = (if kind.room ≤ g.queue.length then g.queue else g.queue ++ [⟨kind, number, value, none⟩]) ∧
    (g.queue.length < kind.room → (g.enqueue kind number value).drops = g.drops) := by
  have absent : ¬ g.queue.any (QueueEntry.hasKey kind number) = true := by
    rw [List.any_eq_true]
    rintro ⟨e, he, has⟩
    rw [new e he] at has
    cases has
  unfold GroupLine.enqueue
  rw [if_neg absent]
  split
  · next full => exact ⟨rfl, fun room => absurd room (by omega)⟩
  · exact ⟨rfl, fun _ => rfl⟩

/-- Level and cut of a group not yet in the queue, enqueued after those of other groups, as far as there is room (R101). -/
theorem enqueue_refresh {g : GroupLine} {cut : Fin 32 → Bool} {pre : List Master} {m : Master}
    (queue : g.queue = (refreshEntries cut pre).take 38) (new : ∀ x ∈ pre, x.group ≠ m.group) :
    let after := g.enqueueAll [(.groupLevel, m.group.val, m.offset), (.groupCut, m.group.val, cutValue (cut m.group))]
    after.queue = (refreshEntries cut (pre ++ [m])).take 38 ∧ (pre.length < 19 → after.drops = g.drops) := by
  intro after
  have length := refreshEntries_length cut pre
  have fresh (kind : MsgKind) : ∀ e ∈ g.queue, e.hasKey kind m.group.val = false := by
    intro e he
    obtain ⟨x, hx, is⟩ := mem_refreshEntries.mp (List.mem_of_mem_take (queue ▸ he))
    have apart : x.group.val ≠ m.group.val := fun eq => new x hx (Fin.ext eq)
    rcases is with rfl | rfl <;> simp [QueueEntry.hasKey, apart]
  obtain ⟨levelQueue, levelDrops⟩ := enqueue_new (fresh .groupLevel) m.offset
  rw [refreshEntries_append]
  show ((g.enqueue .groupLevel m.group.val m.offset).enqueue .groupCut m.group.val (cutValue (cut m.group))).queue = _ ∧ (_ →
    ((g.enqueue .groupLevel m.group.val m.offset).enqueue .groupCut m.group.val (cutValue (cut m.group))).drops = _)
  generalize g.enqueue .groupLevel m.group.val m.offset = g₁ at *
  have fresh' : ∀ e ∈ g₁.queue, e.hasKey .groupCut m.group.val = false := by
    intro e he
    rw [levelQueue] at he
    split at he
    · exact fresh .groupCut e he
    · rcases List.mem_append.mp he with he | he
      · exact fresh .groupCut e he
      · obtain rfl := List.mem_singleton.mp he
        rfl
  obtain ⟨cutQueue, cutDrops⟩ := enqueue_new fresh' (cutValue (cut m.group))
  rw [cutQueue]
  have room : MsgKind.room .groupLevel = 38 ∧ MsgKind.room .groupCut = 38 := ⟨rfl, rfl⟩
  rw [room.1] at levelQueue levelDrops
  rw [room.2] at cutDrops ⊢
  by_cases fits : pre.length < 19
  · have whole : (refreshEntries cut pre).take 38 = refreshEntries cut pre := List.take_of_length_le (by omega)
    rw [queue, whole, if_neg (by omega)] at levelQueue
    have len : g.queue.length = 2 * pre.length := by rw [queue, whole, length]
    have len₁ : g₁.queue.length = 2 * pre.length + 1 := by rw [levelQueue, List.length_append, length]; rfl
    refine ⟨?_, fun _ => ?_⟩
    · rw [if_neg (by omega), levelQueue, List.take_of_length_le]
      · simp [refreshEntries]
      · rw [List.length_append, length, refreshEntries_length]
        simp
        omega
    · rw [cutDrops (by omega), levelDrops (by omega)]
  · have len : g.queue.length = 38 := by rw [queue, List.length_take]; omega
    rw [len, if_pos (le_refl 38)] at levelQueue
    refine ⟨?_, fun fits' => absurd fits' fits⟩
    rw [levelQueue, len, if_pos (le_refl 38), queue, List.take_append_of_le_length (by omega)]

/-- A group's cut enqueued where the queue holds what a restart enqueued: it coalesces, or the queue is full (R101). -/
theorem enqueue_recut {g : GroupLine} {cut : Fin 32 → Bool} {ms : List Master} (queue : g.queue = (refreshEntries cut ms).take 38)
    {h : Fin 32} (mem : h ∈ ms.map Master.group) (c : Bool) :
    (g.enqueue .groupCut h.val (cutValue c)).queue = (refreshEntries (Function.update cut h c) ms).take 38 ∧
    (ms.length ≤ 19 → (g.enqueue .groupCut h.val (cutValue c)).drops = g.drops) := by
  have length := refreshEntries_length cut ms
  have recut : (refreshEntries (Function.update cut h c) ms).take 38 =
      g.queue.map fun e => if e.hasKey .groupCut h.val then { e with value := cutValue c } else e := by
    rw [refreshEntries_recut, queue, List.map_take]
  rw [recut]
  by_cases present : g.queue.any (QueueEntry.hasKey .groupCut h.val) = true
  · unfold GroupLine.enqueue
    rw [if_pos present]
    exact ⟨rfl, fun _ => rfl⟩
  · have absent : ∀ e ∈ g.queue, e.hasKey .groupCut h.val = false := by simpa using present
    have long : 19 < ms.length := by
      by_contra short
      obtain ⟨m, hm, rfl⟩ := List.mem_map.mp mem
      have whole : g.queue = refreshEntries cut ms := by rw [queue, List.take_of_length_le (by omega)]
      have entry : (⟨.groupCut, m.group.val, cutValue (cut m.group), none⟩ : QueueEntry) ∈ g.queue := by
        rw [whole]
        exact mem_refreshEntries.mpr ⟨m, hm, .inr rfl⟩
      have := absent _ entry
      simp [QueueEntry.hasKey] at this
    have full : g.queue.length = 38 := by rw [queue, List.length_take]; omega
    obtain ⟨unchanged, -⟩ := enqueue_new absent (cutValue c)
    refine ⟨?_, fun short => absurd short (by omega)⟩
    rw [unchanged, if_pos (by rw [full]; exact le_refl 38)]
    conv_lhs => rw [← List.map_id g.queue]
    refine List.map_congr_left fun e he => ?_
    rw [absent e he]
    rfl

/-! ### The group line after a restart -/

/-- The level and cut of groups have been enqueued again on a cleared line; on a listen-only station the own table has taken them. -/
structure SentAgain (lo : Bool) (slot : Fin 16) (drops : Nat) (cut : Fin 32 → Bool) (ms : List Master) (g : GroupLine) : Prop where
  line : g.line = .seeking
  queue : lo = false → g.queue = (refreshEntries cut ms).take 38
  drops : lo = false → ms.length ≤ 19 → g.drops = drops
  taken : lo = true → ∀ m ∈ ms, g.table[m.group] = ⟨max (-1020) (min 120 m.offset), cut m.group, some slot, true⟩
  untaken : lo = true → ∀ h : Fin 32, (∀ m ∈ ms, m.group ≠ h) → g.table[h] = TableEntry.reset

variable {lo : Bool} {slot : Fin 16} {drops : Nat} {cut : Fin 32 → Bool} {g g' : GroupLine}

theorem takeAll_other {m h : Fin 32} (ne : m ≠ h) (k : MsgKind) (v : Int) (e : TableEntry) :
    e.takeAll h slot [(k, m.val, v)] = e := by
  have apart : m.val ≠ h.val := fun eq => ne (Fin.ext eq)
  simp [TableEntry.takeAll, apart]

theorem takeAll_cut (h : Fin 32) (c : Bool) (e : TableEntry) :
    e.takeAll h slot [(.groupCut, h.val, cutValue c)] = ⟨e.offset, c, some slot, true⟩ := by
  cases c <;> simp [TableEntry.takeAll, cutValue]

/-- One more group's level and cut enqueued again. -/
theorem SentAgain.refresh {pre : List Master} {m : Master} (sent : SentAgain lo slot drops cut pre g) (new : ∀ x ∈ pre, x.group ≠ m.group)
    (moved : SeekingEnqueues lo slot g g' [(.groupLevel, m.group.val, m.offset), (.groupCut, m.group.val, cutValue (cut m.group))]) :
    SentAgain lo slot drops cut (pre ++ [m]) g' := by
  have taken (h : Fin 32) (e : TableEntry) :
      e.takeAll h slot [(.groupLevel, m.group.val, m.offset), (.groupCut, m.group.val, cutValue (cut m.group))] =
        if m.group = h then ⟨max (-1020) (min 120 m.offset), cut m.group, some slot, true⟩ else e := by
    rw [show ∀ a b : MsgKind × Nat × Int, [a, b] = [a] ++ [b] from fun _ _ => rfl, takeAll_append]
    split
    · next same =>
      subst same
      rw [takeAll_cut]
      simp [TableEntry.takeAll]
    · next ne => rw [takeAll_other ne, takeAll_other ne]
  refine ⟨?_, fun driving => ?_, fun driving short => ?_, fun silent => ?_, fun silent h other => ?_⟩
  · rw [moved.frame]
    exact sent.line
  · rw [(moved.driving driving).2.1]
    exact (enqueue_refresh (sent.queue driving) new).1
  · rw [List.length_append, List.length_singleton] at short
    rw [(moved.driving driving).2.2, (enqueue_refresh (sent.queue driving) new).2 (by omega), sent.drops driving (by omega)]
  · intro x hx
    rw [(moved.silent silent).2.2, taken]
    rcases List.mem_append.mp hx with hx | hx
    · rw [if_neg (new x hx).symm, sent.taken silent x hx]
    · obtain rfl := List.mem_singleton.mp hx
      rw [if_pos rfl]
  · rw [(moved.silent silent).2.2, taken, if_neg (other m (by simp)), sent.untaken silent h fun x hx => other x (by simp [hx])]

/-- A group's new cut, enqueued once all have been. -/
theorem SentAgain.recut {ms : List Master} {h : Fin 32} {c : Bool} (sent : SentAgain lo slot drops cut ms g)
    (mem : h ∈ ms.map Master.group) (moved : SeekingEnqueues lo slot g g' [(.groupCut, h.val, cutValue c)]) :
    SentAgain lo slot drops (Function.update cut h c) ms g' := by
  refine ⟨?_, fun driving => ?_, fun driving short => ?_, fun silent x hx => ?_, fun silent k other => ?_⟩
  · rw [moved.frame]
    exact sent.line
  · rw [(moved.driving driving).2.1]
    exact (enqueue_recut (sent.queue driving) mem c).1
  · rw [(moved.driving driving).2.2]
    exact ((enqueue_recut (sent.queue driving) mem c).2 short).trans (sent.drops driving short)
  · rw [(moved.silent silent).2.2]
    by_cases same : h = x.group
    · subst same
      rw [takeAll_cut, sent.taken silent x hx, Function.update_self]
    · rw [takeAll_other same, sent.taken silent x hx, Function.update_of_ne (Ne.symm same)]
  · have ne : h ≠ k := by
      obtain ⟨m, hm, rfl⟩ := List.mem_map.mp mem
      exact other m hm
    rw [(moved.silent silent).2.2, takeAll_other ne, sent.untaken silent k other]

/-- Nothing enqueued: only the mastered set may have changed. -/
theorem SentAgain.kept {ms : List Master} (sent : SentAgain lo slot drops cut ms g) (moved : SeekingEnqueues lo slot g g' []) :
    SentAgain lo slot drops cut ms g' := by
  refine ⟨?_, fun driving => ?_, fun driving short => ?_, fun silent x hx => ?_, fun silent k other => ?_⟩
  · rw [moved.frame]
    exact sent.line
  · rw [(moved.driving driving).2.1]
    exact sent.queue driving
  · rw [(moved.driving driving).2.2]
    exact sent.drops driving short
  · rw [(moved.silent silent).2.2]
    exact sent.taken silent x hx
  · rw [(moved.silent silent).2.2]
    exact sent.untaken silent k other

end Sys2Proof.Machine
end

section
/-! ENGINE RESTART, block by block (R174). -/

namespace Sys2Proof.Machine

/-! ### The mastered groups are refreshed (R103, R107) -/

/-- A master's record once its offset is enqueued (R102). -/
def Master.noted (m : Master) : Master := { m with enqueued := m.offset }

theorem master_of_split {g : GroupLine} {pre rest : List Master} {m : Master} (mastered : g.mastered = pre.map Master.noted ++ m :: rest)
    (new : ∀ x ∈ pre, x.group ≠ m.group) : g.master m.group = some m := by
  have absent : (pre.map Master.noted).find? (fun x => x.group == m.group) = none := by
    rw [List.find?_eq_none]
    intro x hx
    obtain ⟨y, hy, rfl⟩ := List.mem_map.mp hx
    exact beq_eq_false_iff_ne.mpr (new y hy) ▸ Bool.false_ne_true
  rw [GroupLine.master, mastered, List.find?_append, absent]
  simp

/-- A refresh in its turn notes the offset of its own master. -/
theorem noted_of_split {pre rest : List Master} {m : Master} (new : ∀ x ∈ pre, x.group ≠ m.group)
    (later : ∀ x ∈ rest, x.group ≠ m.group) :
    ((pre.map Master.noted ++ m :: rest).map fun x => if x.group = m.group then { x with enqueued := x.offset } else x) =
      (pre ++ [m]).map Master.noted ++ rest := by
  have before : (pre.map Master.noted).map (fun x => if x.group = m.group then { x with enqueued := x.offset } else x) =
      pre.map Master.noted := by
    rw [List.map_map]
    exact List.map_congr_left fun x hx => if_neg (new x hx)
  have after : rest.map (fun x => if x.group = m.group then { x with enqueued := x.offset } else x) = rest := by
    conv_rhs => rw [← List.map_id rest]
    exact List.map_congr_left fun x hx => if_neg (later x hx)
  rw [List.map_append, List.map_cons, before, after, if_pos rfl]
  simp [Master.noted]

/-- The refresh of every mastered group, ascending, on a line that seeks. -/
theorem sentAgain_refreshAll {drops : Nat} {cut : Fin 32 → Bool} (rest pre : List Master) {s : State}
    (nodup : ((pre ++ rest).map Master.group).Nodup) (held : ∀ m ∈ rest, cut m.group = m.cut)
    (mastered : s.group.mastered = pre.map Master.noted ++ rest)
    (sent : SentAgain s.listenOnly s.straps.slot drops cut pre s.group) :
    SentAgain s.listenOnly s.straps.slot drops cut (pre ++ rest) (rest.foldl (fun t m => refreshGroup m.group t) s).group ∧
    (rest.foldl (fun t m => refreshGroup m.group t) s).group.mastered = (pre ++ rest).map Master.noted := by
  induction rest generalizing pre s with
  | nil => exact ⟨by rw [List.append_nil]; exact sent, mastered.trans (by simp)⟩
  | cons m rest ih =>
    rw [List.map_append, List.map_cons, List.nodup_append, List.nodup_cons] at nodup
    obtain ⟨preOnce, ⟨notLater, restOnce⟩, apart⟩ := nodup
    have new : ∀ x ∈ pre, x.group ≠ m.group := fun x hx => apart _ (List.mem_map_of_mem hx) _ List.mem_cons_self
    have later : ∀ x ∈ rest, x.group ≠ m.group := fun x hx same => notLater (same ▸ List.mem_map_of_mem hx)
    have moved := enqueued_refreshGroup (master_of_split mastered new)
    have seeking := moved.seeking sent.line
    rw [← held m List.mem_cons_self] at seeking
    have step := sent.refresh new seeking
    rw [← moved.inner.listenOnly, ← moved.inner.straps] at step ⊢
    have noted : (refreshGroup m.group s).group.mastered = (pre ++ [m]).map Master.noted ++ rest := by
      rw [refreshGroup_mastered, mastered, noted_of_split new later]
    rw [show pre ++ m :: rest = (pre ++ [m]) ++ rest by simp, List.foldl_cons]
    refine ih (pre ++ [m]) ?_ (fun x hx => held x (List.mem_cons_of_mem m hx)) noted step
    simp only [List.map_append, List.map_cons, List.append_assoc, List.singleton_append, List.nodup_append,
      List.nodup_cons]
    exact ⟨preOnce, ⟨notLater, restOnce⟩, apart⟩

/-! ### The strips are evaluated on the refreshed line -/

/-- The group line of a restart, with the masters as evaluations leave them. -/
structure Restarted (lo : Bool) (slot : Fin 16) (drops : Nat) (ms : List Master) (cut : Fin 32 → Bool) (g : GroupLine) : Prop where
  sent : SentAgain lo slot drops cut ms g
  groups : g.mastered.map Master.group = ms.map Master.group
  noted : g.mastered.map Master.enqueued = ms.map Master.offset
  held : ∀ m ∈ g.mastered, m.cut = cut m.group

variable {lo : Bool} {slot : Fin 16} {drops : Nat} {ms : List Master} {cut : Fin 32 → Bool}

/-- A master is handed an offset and a cut. -/
theorem Restarted.handed {s : State} {k : Fin 32} {m : Master} (h : Restarted s.listenOnly s.straps.slot drops ms cut s.group)
    (found : s.group.master k = some m) (offset : Int) (c : Bool) :
    Restarted s.listenOnly s.straps.slot drops ms (Function.update cut k c) (handMaster k offset c s).group := by
  have mem : m ∈ s.group.mastered := List.mem_of_find?_eq_some found
  have group : m.group = k := by simpa using List.find?_some found
  have seeking := (enqueued_handMaster found offset c).seeking h.sent.line
  have mastered := handMaster_mastered k offset c s
  generalize (handMaster k offset c s).group = g at seeking mastered
  refine ⟨?_, ?_, ?_, ?_⟩
  · by_cases same : m.cut = c
    · rw [same, changedCuts_same] at seeking
      have stands : Function.update cut k c = cut := by
        rw [← same, h.held m mem, group, Function.update_eq_self]
      rw [stands]
      exact h.sent.kept seeking
    · have changed : changedCuts k m.cut [c] = [(.groupCut, k.val, cutValue c)] := by simp [changedCuts, same]
      rw [changed] at seeking
      exact h.sent.recut (h.groups ▸ group ▸ List.mem_map_of_mem mem) seeking
  · rw [mastered, ← h.groups, List.map_map]
    refine List.map_congr_left fun x _ => ?_
    simp only [Function.comp_apply]
    split <;> rfl
  · rw [mastered, ← h.noted, List.map_map]
    refine List.map_congr_left fun x _ => ?_
    simp only [Function.comp_apply]
    split <;> rfl
  · intro x hx
    rw [mastered] at hx
    obtain ⟨y, hy, rfl⟩ := List.mem_map.mp hx
    split
    · next same => simp [same]
    · next ne => rw [Function.update_of_ne ne, h.held y hy]

/-- A part whose group line a restart has refreshed. -/
def LineRestarted (lo : Bool) (slot : Fin 16) (drops : Nat) (ms : List Master) (s : State) : Prop :=
  s.listenOnly = lo ∧ s.straps.slot = slot ∧ ∃ cut, Restarted lo slot drops ms cut s.group

theorem LineRestarted.congr {s t : State} (h : LineRestarted lo slot drops ms s) (tx : t.tx = s.tx) (straps : t.straps = s.straps)
    (group : t.group = s.group) : LineRestarted lo slot drops ms t := by
  obtain ⟨listen, own, line⟩ := h
  refine ⟨?_, straps ▸ own, group ▸ line⟩
  rw [← listen, State.listenOnly, tx, State.listenOnly]

theorem LineRestarted.evaluated {s : State} (h : LineRestarted lo slot drops ms s) (i : Fin 64) :
    LineRestarted lo slot drops ms (evalStrip i s) := by
  cases role : s.strips[i].role with
  | audio =>
    rw [evalStrip_audio role]
    exact h.congr rfl rfl (modStrip_group _ _ _)
  | groupMaster k =>
    rw [evalStrip_master role]
    generalize masterOffset s.strips[i].faderCode = offset
    generalize s.strips[i].modeCut = c
    cases found : s.group.master k with
    | none => rw [handMaster_none found]; exact h
    | some m =>
      have inner := (enqueued_handMaster found offset c).inner
      obtain ⟨rfl, rfl, cut, restarted⟩ := h
      exact ⟨inner.listenOnly, by rw [inner.straps], _, restarted.handed found offset c⟩

theorem LineRestarted.modEvaluated {s : State} (h : LineRestarted lo slot drops ms s) (i : Fin 64) (f : Strip → Strip) :
    LineRestarted lo slot drops ms (evalStrip i (modStrip i f s)) := (h.congr (t := modStrip i f s) rfl rfl rfl).evaluated i

/-! ### One strip of the automation engine (R150) -/

/-- The record of a strip at ENGINE RESTART, before its values are handed: FOLLOW, untouched, and read again (R150). -/
def AutoStrip.restarted (reads : Bool) (position : Nat) (a : AutoStrip) : AutoStrip :=
  { (if reads then a.readAt position else a) with touched := false, phase := .follow, cutLive := false }

theorem restartAutoStrip_eq (i : Fin 64) (s : State) :
    restartAutoStrip i s = handValues i (modAuto i (AutoStrip.restarted s.strips[i].mode.reads s.playback.position) s) := by
  have twice (f g : AutoStrip → AutoStrip) : modAuto i g (modAuto i f s) = modAuto i (g ∘ f) s := by
    simp [modAuto]
    rfl
  unfold restartAutoStrip
  dsimp only
  congr 1
  change (if s.strips[i].mode.reads = true then _ else _) = _
  cases s.strips[i].mode.reads with
  | false => rfl
  | true => exact twice _ _

theorem lineStep_restartAutoStrip (i : Fin 64) (s : State) : LineStep s (restartAutoStrip i s) := by
  rw [restartAutoStrip_eq]
  exact (lineStep_modAuto i _ s).trans (lineStep_handValues i _)

theorem LineRestarted.restartedStrip {s : State} (h : LineRestarted lo slot drops ms s) (i : Fin 64) :
    LineRestarted lo slot drops ms (restartAutoStrip i s) := by
  rw [restartAutoStrip_eq]
  have followed : LineRestarted lo slot drops ms (modAuto i (AutoStrip.restarted s.strips[i].mode.reads s.playback.position) s) :=
    h.congr rfl rfl rfl
  exact (followed.modEvaluated i _).modEvaluated i _

theorem sparesOthers_restartAutoStrip (i : Fin 64) (s : State) : SparesOthers i s (restartAutoStrip i s) := by
  rw [restartAutoStrip_eq]
  exact (sparesOthers_modAuto i _ s).trans (sparesOthers_handValues i _)

theorem restartAutoStrip_hands (i : Fin 64) (s : State) :
    let a := s.playback.strips[i].restarted s.strips[i].mode.reads s.playback.position
    (restartAutoStrip i s).playback.strips[i] = a ∧ (restartAutoStrip i s).strips[i].levelHanded a ∧
    (restartAutoStrip i s).strips[i].cutHanded a ∧
    (restartAutoStrip i s).playback = { s.playback with strips := (restartAutoStrip i s).playback.strips } ∧
    (restartAutoStrip i s).pass = s.pass := by
  rw [restartAutoStrip_eq]
  obtain ⟨level, cut, -, playback, pass⟩ :=
    handValues_hands i (modAuto i (AutoStrip.restarted s.strips[i].mode.reads s.playback.position) s)
  rw [modAuto_self] at level cut
  refine ⟨?_, level, cut, ?_, pass⟩
  · rw [playback, modAuto_self]
  · rw [playback]
    rfl

end Sys2Proof.Machine
end

section
/-! ENGINE RESTART as a whole (R174). -/

namespace Sys2Proof.Machine

/-! ### Strips, transmitter, peers and summer -/

/-- The blocks of ENGINE RESTART before the group line (log entry 22). -/
def restartAudio (s : State) : State := restartSummer (restartPeers (restartTx (restartStrips s)))

theorem restartAudio_keeps (s : State) :
    (restartAudio s).pending = s.pending ∧ (restartAudio s).resetPin = s.resetPin ∧ (restartAudio s).straps = s.straps ∧
    (restartAudio s).clock = s.clock ∧ (restartAudio s).group = s.group ∧ (restartAudio s).surface = s.surface ∧
    (restartAudio s).playback = s.playback ∧ (restartAudio s).pass = s.pass ∧ (restartAudio s).ports = s.ports ∧
    (restartAudio s).control.mask = s.control.mask ∧ (restartAudio s).engine = { s.engine with heldStems := [], restarted := true } := by
  simp [restartAudio, restartSummer, restartPeers, restartTx, restartStrips, eachPeer]

theorem restartAudio_strip (s : State) (i : Fin 64) :
    (restartAudio s).strips[i] = { s.strips[i] with levelRamp := s.strips[i].levelRamp.snap, cutRamp := s.strips[i].cutRamp.snap } := by
  simp only [restartAudio, restartSummer, State.setSummer_strips, restartPeers, raiseIf_strips, eachPeer, State.setPeers_strips,
    restartTx, State.setTx_strips, restartStrips, State.setEngine_strips, State.setStrips_strips]
  rw [mapFin_get]

theorem restartSummer_keeps (s : State) : (restartSummer s).tx = s.tx ∧ (restartSummer s).peers = s.peers ∧
    (restartSummer s).control = s.control := by simp [restartSummer]

theorem restartPeers_peer (s : State) (j : Fin 16) :
    (restartPeers s).peers[j] = if j = s.straps.slot then s.peers[j] else Peer.reset := by
  rw [restartPeers, raiseIf_peers, eachPeer, State.setPeers_peers, mapFin_get]

theorem restartTx_keeps (s : State) : (restartTx s).straps = s.straps ∧ (restartTx s).peers = s.peers ∧
    (restartTx s).control = s.control ∧ (restartTx s).summer = s.summer := by simp [restartTx]

theorem restartStrips_keeps (s : State) : (restartStrips s).straps = s.straps ∧ (restartStrips s).peers = s.peers ∧
    (restartStrips s).control = s.control ∧ (restartStrips s).summer = s.summer ∧ (restartStrips s).tx = s.tx := by
  simp [restartStrips]

theorem restartPeers_tx (s : State) : (restartPeers s).tx = s.tx := by rw [restartPeers, raiseIf_tx, eachPeer, State.setPeers_tx]

theorem restartPeers_summer (s : State) : (restartPeers s).summer = s.summer := by
  rw [restartPeers, raiseIf_summer, eachPeer, State.setPeers_summer]

theorem restartAudio_tx (s : State) :
    (restartAudio s).tx = ⟨if s.tx.drive = .strapSilent then .strapSilent else .driving, none, none, [], 0⟩ := by
  rw [restartAudio, (restartSummer_keeps _).1, restartPeers_tx, restartTx, State.setTx_tx, (restartStrips_keeps s).2.2.2.2]

/-- After ENGINE RESTART exactly a station strapped silent is listen-only (R54). -/
theorem restartAudio_listenOnly (s : State) : (restartAudio s).listenOnly = decide (s.tx.drive = .strapSilent) := by
  rw [State.listenOnly, restartAudio_tx]
  by_cases silent : s.tx.drive = .strapSilent
  · simp [silent]
  · simp [silent]

theorem restartAudio_peer (s : State) (j : Fin 16) :
    (restartAudio s).peers[j] = if j = s.straps.slot then s.peers[j] else Peer.reset := by
  obtain ⟨straps, peers, -, -⟩ := restartTx_keeps (restartStrips s)
  obtain ⟨straps', peers', -, -, -⟩ := restartStrips_keeps s
  rw [restartAudio, (restartSummer_keeps _).2.1, restartPeers_peer, straps, peers, straps', peers']

theorem restartPeers_causes (s : State) (c : Cause) : (restartPeers s).causeSet c = true ↔ s.causeSet c = true ∨
    (c = .peerChange ∧ ∃ j : Fin 16, j ≠ s.straps.slot ∧ s.peers[j].state ≠ .absent) := by
  rw [restartPeers, causeSet_raiseIf]
  have same : (eachPeer (fun _ => Peer.reset) s).causeSet c = s.causeSet c := rfl
  rw [same]
  simp only [Bool.or_eq_true, Bool.and_eq_true, List.any_eq_true, List.mem_finRange, true_and, bne_iff_ne, ne_eq, beq_iff_eq]
  tauto

theorem restartAudio_causes (s : State) (c : Cause) : (restartAudio s).causeSet c = true ↔ s.causeSet c = true ∨
    (c = .peerChange ∧ ∃ j : Fin 16, j ≠ s.straps.slot ∧ s.peers[j].state ≠ .absent) := by
  obtain ⟨straps, peers, control, -⟩ := restartTx_keeps (restartStrips s)
  obtain ⟨straps', peers', control', -, -⟩ := restartStrips_keeps s
  have same : (restartAudio s).causeSet c = (restartPeers (restartTx (restartStrips s))).causeSet c := by
    rw [State.causeSet, restartAudio, (restartSummer_keeps _).2.2, State.causeSet]
  have before : (restartTx (restartStrips s)).causeSet c = s.causeSet c := by
    rw [State.causeSet, control, control', State.causeSet]
  rw [same, restartPeers_causes, before, straps, straps', peers, peers']

theorem restartSummer_summer (s : State) : (restartSummer s).summer.config = s.summer.config ∧
    (restartSummer s).summer.pending = s.summer.pending ∧ (restartSummer s).summer.suspended = [] ∧ (restartSummer s).summer.ownPremix = [] ∧
    (restartSummer s).summer.ownStem = [] ∧ (∀ b : Fin 128, (restartSummer s).summer.meters[b] = ⟨0, 0⟩) ∧
    ∀ p : Fin 64, (restartSummer s).summer.premix[p] = { s.summer.premix[p] with
      levelRamp := s.summer.premix[p].levelRamp.snap, cutRamp := s.summer.premix[p].cutRamp.snap } := by
  unfold restartSummer
  refine ⟨by simp, by simp, by simp, by simp, by simp, fun b => by simp, fun p => ?_⟩
  · rw [State.setSummer_summer, mapFin_get]

theorem restartAudio_summer (s : State) : (restartAudio s).summer.config = s.summer.config ∧
    (restartAudio s).summer.pending = s.summer.pending ∧ (restartAudio s).summer.suspended = [] ∧ (restartAudio s).summer.ownPremix = [] ∧
    (restartAudio s).summer.ownStem = [] ∧ (∀ b : Fin 128, (restartAudio s).summer.meters[b] = ⟨0, 0⟩) ∧
    ∀ p : Fin 64, (restartAudio s).summer.premix[p] = { s.summer.premix[p] with
      levelRamp := s.summer.premix[p].levelRamp.snap, cutRamp := s.summer.premix[p].cutRamp.snap } := by
  have summer : (restartPeers (restartTx (restartStrips s))).summer = s.summer := by
    rw [restartPeers_summer, (restartTx_keeps _).2.2.2, (restartStrips_keeps s).2.2.2.1]
  have made := restartSummer_summer (restartPeers (restartTx (restartStrips s)))
  rw [summer] at made
  exact made

/-! ### The group line -/

/-- The group line as ENGINE RESTART clears it, before anything is enqueued again (R107). -/
def GroupLine.cleared (g : GroupLine) : GroupLine :=
  { g with
    line := .seeking, recessiveRun := 0, queue := [], table := Vector.replicate 32 TableEntry.reset, refreshCount := 0, refreshDue := none }

/-- The part with a cleared group line, its strips evaluated on the empty table. -/
def clearLine (s : State) : State := retuneWhere (fun _ => true) (s.setGroup s.group.cleared)

theorem restartGroup_eq (s : State) :
    restartGroup s = s.group.mastered.foldl (fun t m => refreshGroup m.group t) (clearLine s) := rfl

theorem clearLine_group (s : State) : (clearLine s).group = s.group.cleared := retuneWhere_group _ _

theorem lineFrame_clearLine (s : State) : LineFrame s (clearLine s) :=
  (lineFrame_setGroup s s.group.cleared).trans (lineFrame_retuneWhere _ _)

theorem lineStep_foldl {α : Type} {f : State → α → State} (h : ∀ t a, LineStep t (f t a)) (l : List α) (s : State) :
    LineStep s (l.foldl f s) := by
  induction l generalizing s with
  | nil => exact .refl s
  | cons a l ih => exact (h s a).trans (ih _)

theorem lineStep_restartGroup (s : State) : LineStep (clearLine s) (restartGroup s) :=
  lineStep_foldl (fun t (m : Master) => lineStep_refreshGroup m.group t) _ _

/-- On a tuned part the mastered groups are refreshed on the cleared line. -/
theorem lineRestarted_restartGroup {s : State} (once : (s.group.mastered.map Master.group).Nodup) :
    LineRestarted s.listenOnly s.straps.slot s.group.drops s.group.mastered (restartGroup s) := by
  have frame := lineFrame_clearLine s
  have inner := (lineStep_restartGroup s).inner
  have group := clearLine_group s
  have empty (cut : Fin 32 → Bool) : SentAgain (clearLine s).listenOnly (clearLine s).straps.slot s.group.drops cut [] (clearLine s).group := by
    rw [group]
    refine ⟨rfl, fun _ => rfl, fun _ _ => rfl, fun _ m hm => (List.not_mem_nil hm).elim, fun _ h _ => ?_⟩
    simp [GroupLine.cleared]
  have held : ∀ m ∈ s.group.mastered, ((s.group.master m.group).map Master.cut).getD false = m.cut := by
    intro m hm
    obtain ⟨pre, rest, split⟩ := List.append_of_mem hm
    have found : s.group.master m.group = some m := by
      have absent : pre.find? (fun x => x.group == m.group) = none := by
        rw [split, List.map_append, List.map_cons, List.nodup_append] at once
        obtain ⟨-, -, apart⟩ := once
        rw [List.find?_eq_none]
        exact fun x hx => by simpa using apart _ (List.mem_map_of_mem hx) _ List.mem_cons_self
      rw [GroupLine.master, split, List.find?_append, absent]
      simp
    rw [found]
    rfl
  obtain ⟨sent, mastered⟩ := sentAgain_refreshAll (drops := s.group.drops)
    (cut := fun g => ((s.group.master g).map Master.cut).getD false) s.group.mastered [] once held
    (by rw [group]; rfl) (empty _)
  rw [← restartGroup_eq] at sent mastered
  refine ⟨inner.listenOnly.trans frame.inner.listenOnly, by rw [inner.straps, frame.inner.straps],
    fun g => ((s.group.master g).map Master.cut).getD false, ?_⟩
  rw [frame.inner.listenOnly, frame.inner.straps] at sent
  refine ⟨sent, ?_, ?_, fun m hm => ?_⟩
  · rw [mastered, List.nil_append, List.map_map]
    rfl
  · rw [mastered, List.nil_append, List.map_map]
    rfl
  · rw [mastered] at hm
    obtain ⟨x, hx, rfl⟩ := List.mem_map.mp hm
    exact (held x hx).symm

/-! ### Group line, surface and automation engine -/

/-- The blocks of ENGINE RESTART from the group line to the automation engine (log entry 22). -/
def restartRide (s : State) : State := forStrips restartAutoStrip (restartSurface (restartGroup s))

theorem restartSurface_keeps (s : State) : (restartSurface s).group = s.group ∧ (restartSurface s).playback = s.playback ∧
    (restartSurface s).pass = s.pass ∧ (restartSurface s).control = s.control ∧ (restartSurface s).strips = s.strips ∧
    (restartSurface s).tx = s.tx ∧ (restartSurface s).straps = s.straps := by
  simp [restartSurface]

theorem restartSurface_fader (s : State) (i : Fin 64) : (restartSurface s).surface.faders[i] = { s.surface.faders[i] with
    baseline := none, touched := false, debounce := 0, untouchedScans := 0, touchedScans := 0 } := by
  rw [restartSurface, State.setSurface_surface, mapFin_get]
  rfl

/-- What the blocks from the group line to the automation engine leave of a part, and what they make of its faders. -/
structure RideRestarted (s t : State) : Prop where
  pending : t.pending = s.pending
  resetPin : t.resetPin = s.resetPin
  straps : t.straps = s.straps
  clock : t.clock = s.clock
  engine : t.engine = s.engine
  tx : t.tx = s.tx
  peers : t.peers = s.peers
  summer : t.summer = s.summer
  ports : t.ports = s.ports
  control : t.control = s.control
  pass : t.pass = s.pass
  surface : t.surface = (restartSurface s).surface
  desk : ∀ i : Fin 64, Strip.SameDesk s.strips[i] t.strips[i]
  gains : ∀ i : Fin 64, s.strips[i].GainsKept t.strips[i]
  playback : t.playback = { s.playback with strips := t.playback.strips }
  line : LineMoved s.listenOnly s.group.cleared t.group

/-- A walk that a line's seeking survives. -/
theorem forStrips_restartAutoStrip_line {s : State} (line : s.group.line = .seeking) :
    (forStrips restartAutoStrip s).control = s.control ∧ (forStrips restartAutoStrip s).pass = s.pass ∧
    (forStrips restartAutoStrip s).playback = { s.playback with strips := (forStrips restartAutoStrip s).playback.strips } ∧
    LineMoved s.listenOnly s.group (forStrips restartAutoStrip s).group := by
  have walk := forStrips_induct (f := restartAutoStrip) (s := s)
    (P := fun t => Inner s t ∧ t.control = s.control ∧ t.pass = s.pass ∧ t.playback = { s.playback with strips := t.playback.strips } ∧
      LineMoved s.listenOnly s.group t.group) ⟨.refl s, rfl, rfl, rfl, .refl _ _⟩ fun i t _ ⟨inner, control, pass, playback, moved⟩ => by
    have step := lineStep_restartAutoStrip i t
    obtain ⟨-, -, -, playback', pass'⟩ := restartAutoStrip_hands i t
    have moved' := step.moved (moved.line.trans line)
    rw [inner.listenOnly] at moved'
    refine ⟨inner.trans step.inner, step.control.trans control, pass'.trans pass, ?_, moved.trans moved'⟩
    rw [playback', playback]
  obtain ⟨-, rest⟩ := walk
  exact rest

theorem inner_restartSurface (s : State) : (restartSurface s).pending = s.pending ∧ (restartSurface s).resetPin = s.resetPin ∧
    (restartSurface s).clock = s.clock ∧ (restartSurface s).engine = s.engine ∧ (restartSurface s).peers = s.peers ∧
    (restartSurface s).summer = s.summer ∧ (restartSurface s).ports = s.ports := by
  simp [restartSurface]

/-- The group line is cleared and refreshed. -/
theorem rideRestarted_group (s : State) : LineMoved s.listenOnly s.group.cleared (restartGroup s).group ∧
    (restartGroup s).control = s.control := by
  have cleared := lineFrame_clearLine s
  have refreshed := lineStep_restartGroup s
  have group := clearLine_group s
  have control : (clearLine s).control = s.control := by rw [clearLine, retuneWhere, State.setStrips_control, State.setGroup_control]
  have line : (clearLine s).group.line = .seeking := by rw [group]; rfl
  have moved := refreshed.moved line
  rw [group, cleared.inner.listenOnly] at moved
  exact ⟨moved, refreshed.control.trans control⟩

theorem rideRestarted (s : State) : RideRestarted s (restartRide s) := by
  obtain ⟨moved, groupControl⟩ := rideRestarted_group s
  have frame := lineFrame_restartGroup s
  have gains := (kept_restartGroup s).steady.strips
  obtain ⟨group, playback, pass, control, strips, tx, straps⟩ := restartSurface_keeps (restartGroup s)
  obtain ⟨pending, pin, clock, engine, peers, summer, ports⟩ := inner_restartSurface (restartGroup s)
  have surface : (restartSurface (restartGroup s)).surface = (restartSurface s).surface := by
    simp only [restartSurface, State.setSurface_surface, frame.inner.surface]
  unfold restartRide
  generalize restartSurface (restartGroup s) = w at *
  generalize restartGroup s = v at *
  have listen : w.listenOnly = s.listenOnly := by rw [State.listenOnly, tx, frame.inner.tx, State.listenOnly]
  have line : w.group.line = .seeking := by rw [group, moved.line]; rfl
  have walk := forStrips_ride ride_restartAutoStrip w
  have walkGains := (forStrips_kept (fun i t hi => kept_restartAutoStrip hi) w).steady.strips
  obtain ⟨walkControl, walkPass, walkPlayback, walkMoved⟩ := forStrips_restartAutoStrip_line line
  generalize forStrips restartAutoStrip w = t at *
  rw [listen, group] at walkMoved
  rw [strips] at walkGains
  have desk (i : Fin 64) := walk.strips i
  rw [strips] at desk
  exact {
    pending := (walk.inner.pending.trans pending).trans frame.inner.pending
    resetPin := (walk.inner.resetPin.trans pin).trans frame.inner.resetPin
    straps := (walk.inner.straps.trans straps).trans frame.inner.straps
    clock := (walk.inner.clock.trans clock).trans frame.inner.clock
    engine := (walk.inner.engine.trans engine).trans frame.inner.engine
    tx := (walk.inner.tx.trans tx).trans frame.inner.tx
    peers := (walk.inner.peers.trans peers).trans frame.inner.peers
    summer := (walk.inner.summer.trans summer).trans frame.inner.summer
    ports := (walk.inner.ports.trans ports).trans frame.inner.ports
    control := (walkControl.trans control).trans groupControl
    pass := (walkPass.trans pass).trans frame.pass
    surface := walk.inner.surface.trans surface
    desk := fun i => ((frame.strips i).desk).trans (desk i)
    gains := fun i => (gains i).trans (walkGains i)
    playback := by
      rw [playback, frame.playback] at walkPlayback
      exact walkPlayback
    line := moved.trans walkMoved }

theorem lineRestarted_restartRide {s : State} (once : (s.group.mastered.map Master.group).Nodup) :
    LineRestarted s.listenOnly s.straps.slot s.group.drops s.group.mastered (restartRide s) := by
  obtain ⟨group, -, -, -, -, tx, straps⟩ := restartSurface_keeps (restartGroup s)
  exact forStrips_induct (P := LineRestarted s.listenOnly s.straps.slot s.group.drops s.group.mastered)
    ((lineRestarted_restartGroup once).congr tx straps group) fun i _ _ h => h.restartedStrip i

/-- Every existing strip is in FOLLOW, untouched, read again and handed its values (R150). -/
theorem restartRide_hands {s : State} {i : Fin 64} (hi : s.hasStrip i = true) :
    (restartRide s).playback.strips[i] = s.playback.strips[i].restarted s.strips[i].mode.reads s.playback.position ∧
    (restartRide s).strips[i].levelHanded (s.playback.strips[i].restarted s.strips[i].mode.reads s.playback.position) ∧
    (restartRide s).strips[i].cutHanded (s.playback.strips[i].restarted s.strips[i].mode.reads s.playback.position) := by
  have frame := lineFrame_restartGroup s
  have turn (j : Fin 64) (t : State) : (restartAutoStrip j t).straps = t.straps := (ride_restartAutoStrip j t).inner.straps
  obtain ⟨-, playback, -, -, strips, -, straps⟩ := restartSurface_keeps (restartGroup s)
  unfold restartRide
  generalize restartSurface (restartGroup s) = w at *
  generalize restartGroup s = v at *
  have there : w.hasStrip i = true := (hasStrip_of_straps (straps.trans frame.inner.straps) i).trans hi
  obtain ⟨t, before, after⟩ := forStrips_turn there turn sparesOthers_restartAutoStrip
  generalize forStrips restartAutoStrip w = u at *
  have surface : Spares i v w := ⟨by rw [strips]; exact .refl _, by rw [playback], by rw [playback]⟩
  have reached : Spares i s t := ((frame.spares i).trans surface).trans before
  obtain ⟨record, level, cut, -, -⟩ := restartAutoStrip_hands i t
  rw [reached.auto, reached.strip.desk.mode, reached.playback] at record level cut
  have mode := after.strip.desk.mode
  refine ⟨after.auto.trans record, ?_, ?_⟩
  · exact Strip.levelHanded_congr after.strip.sameLevel mode level
  · exact Strip.cutHanded_congr after.strip.sameCut mode cut

end Sys2Proof.Machine
end

section
/-! What ENGINE RESTART makes of each block (R174). -/

namespace Sys2Proof.Machine

/-! ### Pass record and ports (R164, R168) -/

theorem journalFrame_endPass (s : State) : JournalFrame s (endPass s) := journalFrame_setPass s _

theorem journalFrame_restartPass (s : State) : JournalFrame s (restartPass s) := by
  have ended := (journalFrame_setPass s { s.pass with punches := Vector.replicate 64 ⟨none, none⟩, mergeList := [] }).trans
    (journalFrame_endPass _)
  unfold restartPass
  dsimp only
  split
  · exact .refl s
  · exact ended
  · exact ended
  · exact ended.trans (journalFrame_raise _ _)

theorem restartPass_idle {s : State} (idle : s.pass.state = .idle) : restartPass s = s := by
  unfold restartPass
  dsimp only
  rw [idle]

theorem restartPass_pass {s : State} (busy : s.pass.state ≠ .idle) : (restartPass s).pass =
    { s.pass with state := .idle, number := none, journal := [], mergeList := [], punches := Vector.replicate 64 ⟨none, none⟩ } := by
  unfold restartPass endPass
  dsimp only
  split
  · next idle => exact (busy idle).elim
  · simp
  · simp
  · simp

theorem restartPass_causes (s : State) (c : Cause) :
    (restartPass s).causeSet c = true ↔ s.causeSet c = true ∨ (c = .mergeAborted ∧ s.pass.state = .merging) := by
  have set (p : Pass) : (s.setPass p).causeSet c = s.causeSet c := rfl
  unfold restartPass endPass
  dsimp only
  split
  · next idle => simp [idle]
  · next recording => simp [recording, State.causeSet]
  · next review => simp [review, State.causeSet]
  · next merging =>
    rw [causeSet_raise]
    simp [merging, State.causeSet]

/-- No punch is open in a cleared pass (R164). -/
theorem openPunches_none {p : Pass} (h : p.punches = Vector.replicate 64 ⟨none, none⟩) : p.openPunches = 0 := by
  rw [Pass.openPunches, h]
  decide

/-! ### The blocks together -/

theorem restartWork_eq (s : State) : restartWork s = restartPorts (restartPass (restartRide (restartAudio s))) := rfl

/-- What ENGINE RESTART makes of a part, block by block: `audio` is the part once its audio blocks have restarted, `ride` once the
automation engine has. -/
structure EngineRestarted (s audio ride t : State) : Prop where
  mask : t.control.mask = s.control.mask
  peerChange : t.causeSet .peerChange = true ↔ s.causeSet .peerChange = true ∨
    ∃ j : Fin 16, j ≠ s.straps.slot ∧ s.peers[j].state ≠ .absent
  mergeAborted : t.causeSet .mergeAborted = true ↔ s.causeSet .mergeAborted = true ∨ s.pass.state = .merging
  causes : ∀ c, c ≠ .peerChange → c ≠ .mergeAborted → t.causeSet c = s.causeSet c
  straps : t.straps = s.straps
  resetPin : t.resetPin = s.resetPin
  clock : t.clock = s.clock
  pending : t.pending = s.pending
  engine : t.engine = audio.engine
  tx : t.tx = audio.tx
  peers : t.peers = audio.peers
  summer : t.summer = audio.summer
  strips : t.strips = ride.strips
  group : t.group = ride.group
  playback : t.playback = ride.playback
  surface : t.surface = (restartSurface s).surface
  idle : s.pass.state = .idle → t.pass = s.pass
  ended : s.pass.state ≠ .idle → t.pass =
    { s.pass with state := .idle, number := none, journal := [], mergeList := [], punches := Vector.replicate 64 ⟨none, none⟩ }
  ports : t.ports = { s.ports with totals := [] }

theorem restartPorts_keeps (s : State) : (restartPorts s).pending = s.pending ∧ (restartPorts s).resetPin = s.resetPin ∧
    (restartPorts s).straps = s.straps ∧ (restartPorts s).clock = s.clock ∧ (restartPorts s).engine = s.engine ∧
    (restartPorts s).tx = s.tx ∧ (restartPorts s).peers = s.peers ∧ (restartPorts s).summer = s.summer ∧
    (restartPorts s).strips = s.strips ∧ (restartPorts s).group = s.group ∧ (restartPorts s).playback = s.playback ∧
    (restartPorts s).surface = s.surface ∧ (restartPorts s).pass = s.pass ∧ (restartPorts s).control = s.control ∧
    (restartPorts s).ports = { s.ports with totals := [] } := by
  simp [restartPorts]

theorem engineRestarted (s : State) :
    EngineRestarted s (restartAudio s) (restartRide (restartAudio s)) (restartWork s) := by
  rw [restartWork_eq]
  obtain ⟨pending, pin, straps, clock, -, surface, -, pass, ports, mask, -⟩ := restartAudio_keeps s
  have audioCauses := restartAudio_causes s
  have faders : (restartSurface (restartAudio s)).surface = (restartSurface s).surface := by
    simp only [restartSurface, State.setSurface_surface, surface]
  have ride := rideRestarted (restartAudio s)
  obtain ⟨pending', pin', straps', clock', engine', tx', peers', summer', strips', group', playback', surface', pass', control',
    ports'⟩ := restartPorts_keeps (restartPass (restartRide (restartAudio s)))
  have journal := journalFrame_restartPass (restartRide (restartAudio s))
  have passCauses := restartPass_causes (restartRide (restartAudio s))
  have idle := restartPass_idle (s := restartRide (restartAudio s))
  have ended := restartPass_pass (s := restartRide (restartAudio s))
  generalize restartPorts (restartPass (restartRide (restartAudio s))) = t at *
  generalize restartPass (restartRide (restartAudio s)) = y at *
  generalize restartRide (restartAudio s) = x at *
  generalize restartAudio s = e at *
  have rideCauses (c : Cause) : x.causeSet c = e.causeSet c := by rw [State.causeSet, ride.control, State.causeSet]
  have causes (c : Cause) : t.causeSet c = true ↔ (s.causeSet c = true ∨ (c = .peerChange ∧ ∃ j : Fin 16, j ≠ s.straps.slot ∧
      s.peers[j].state ≠ .absent)) ∨ (c = .mergeAborted ∧ s.pass.state = .merging) := by
    rw [State.causeSet, control', ← State.causeSet, passCauses, rideCauses, audioCauses, ride.pass, pass]
  exact {
    mask := by rw [control', journal.inner.mask, ride.control, mask]
    peerChange := by simpa using causes .peerChange
    mergeAborted := by simpa using causes .mergeAborted
    causes := fun c peer merge => by
      rw [Bool.eq_iff_iff, causes]
      simp [peer, merge]
    straps := ((straps'.trans journal.inner.straps).trans ride.straps).trans straps
    resetPin := ((pin'.trans journal.inner.resetPin).trans ride.resetPin).trans pin
    clock := ((clock'.trans journal.inner.clock).trans ride.clock).trans clock
    pending := ((pending'.trans journal.inner.pending).trans ride.pending).trans pending
    engine := (engine'.trans journal.inner.engine).trans ride.engine
    tx := (tx'.trans journal.inner.tx).trans ride.tx
    peers := (peers'.trans journal.inner.peers).trans ride.peers
    summer := (summer'.trans journal.inner.summer).trans ride.summer
    strips := strips'.trans journal.strips
    group := group'.trans journal.group
    playback := playback'.trans journal.playback
    surface := ((surface'.trans journal.inner.surface).trans ride.surface).trans faders
    idle := fun h => by
      have same : y = x := idle (by rw [ride.pass, pass, h])
      rw [pass', same, ride.pass, pass]
    ended := fun h => by
      have made := ended (by rw [ride.pass, pass]; exact h)
      rw [pass', made, ride.pass, pass]
    ports := by rw [ports', journal.inner.ports, ride.ports, ports] }

/-! ### The strips and their records -/

theorem restartWork_strip (s : State) (i : Fin 64) :
    let st := (restartRide (restartAudio s)).strips[i]
    Strip.sameWritten st s.strips[i] ∧ st.sends = s.strips[i].sends ∧ st.liveCode = s.strips[i].liveCode ∧
    st.present = s.strips[i].present ∧ st.levelRamp.current = s.strips[i].levelRamp.target ∧
    st.cutRamp.current = s.strips[i].cutRamp.direction.travelEnd := by
  intro st
  have audio := restartAudio_strip s i
  have ride := rideRestarted (restartAudio s)
  have desk : Strip.SameDesk (restartAudio s).strips[i] st := ride.desk i
  have gains : (restartAudio s).strips[i].GainsKept st := ride.gains i
  rw [audio] at desk gains
  obtain ⟨level, cut, -⟩ := gains
  refine ⟨?_, ?_, ?_, ?_, level, cut⟩
  all_goals rw [desk]
  exact ⟨rfl, rfl, rfl, rfl, rfl, rfl, rfl, rfl, rfl, rfl⟩

end Sys2Proof.Machine
end

section
/-! O59: ENGINE RESTART takes every block (R174). -/

namespace Sys2Proof.Machine

theorem StripsTuned.groupsOnce {s : State} (h : StripsTuned s) : (s.group.mastered.map Master.group).Nodup := by
  obtain ⟨-, backed⟩ := (stripsTuned_iff s).mp h
  exact backed.ascending.imp fun lt => ne_of_lt lt

/-- The group line of a restarted part: what stands in every case. -/
theorem restartWork_line (s : State) : LineMoved (decide (s.tx.drive = .strapSilent)) s.group.cleared
    (restartRide (restartAudio s)).group := by
  have moved := (rideRestarted (restartAudio s)).line
  obtain ⟨-, -, -, -, group, -⟩ := restartAudio_keeps s
  rwa [restartAudio_listenOnly, group] at moved

/-- The group line of a restarted part that was tuned. -/
theorem restartWork_refreshed {s : State} (tuned : StripsTuned s) : ∃ cut, Restarted (decide (s.tx.drive = .strapSilent)) s.straps.slot
    s.group.drops s.group.mastered cut (restartRide (restartAudio s)).group := by
  obtain ⟨-, -, straps, -, group, -⟩ := restartAudio_keeps s
  have once := tuned.groupsOnce
  rw [← group] at once
  obtain ⟨-, -, cut, line⟩ := lineRestarted_restartRide once
  rw [restartAudio_listenOnly, group, straps] at line
  exact ⟨cut, line⟩

/-- The entries of a restart, read off the mastered sets before and after. -/
theorem refreshEntries_zip {cut : Fin 32 → Bool} {before after : List Master}
    (groups : after.map Master.group = before.map Master.group) (held : ∀ m ∈ after, m.cut = cut m.group) :
    refreshEntries cut before = (before.zip after).flatMap fun (m, now) =>
      [(⟨.groupLevel, m.group.val, m.offset, none⟩ : QueueEntry), ⟨.groupCut, m.group.val, if now.cut then 1 else 0, none⟩] := by
  induction before generalizing after with
  | nil => rfl
  | cons m rest ih =>
    cases after with
    | nil => cases groups
    | cons now later =>
      obtain ⟨group, groups⟩ := List.cons_eq_cons.mp groups
      have tail := ih groups fun x hx => held x (List.mem_cons_of_mem now hx)
      have head := held now List.mem_cons_self
      rw [List.zip_cons_cons, List.flatMap_cons, ← tail]
      dsimp only
      rw [head, group]
      rfl

/-- What a strapped silent station's table holds after a restart, read off the mastered set (R106). -/
theorem Restarted.table {slot : Fin 16} {drops : Nat} {ms : List Master} {cut : Fin 32 → Bool} {g : GroupLine}
    (h : Restarted true slot drops ms cut g) (k : Fin 32) :
    (∀ m ∈ g.mastered, m.group = k → g.table[k] = ⟨max (-1020) (min 120 m.enqueued), m.cut, some slot, true⟩) ∧
    ((∀ m ∈ g.mastered, m.group ≠ k) → g.table[k] = ⟨0, false, none, false⟩) := by
  constructor
  · rintro m hm rfl
    have pairs : g.mastered.map (fun m => (m.group, m.enqueued)) = ms.map fun m => (m.group, m.offset) := by
      have both := congrArg₂ List.zip h.groups h.noted
      simpa [List.zip_map'] using both
    have mem : (m.group, m.enqueued) ∈ ms.map fun m => (m.group, m.offset) :=
      pairs ▸ List.mem_map_of_mem (f := fun m : Master => (m.group, m.enqueued)) hm
    obtain ⟨x, hx, same⟩ := List.mem_map.mp mem
    obtain ⟨group, offset⟩ := Prod.mk.inj same
    have taken (k : Fin 32) (same : x.group = k) :
        g.table[k] = ⟨max (-1020) (min 120 x.offset), cut k, some slot, true⟩ := by
      subst same
      exact h.sent.taken rfl x hx
    rw [taken m.group group, offset, h.held m hm]
  · intro other
    refine h.sent.untaken rfl k fun x hx same => ?_
    have mem : k ∈ g.mastered.map Master.group := h.groups ▸ same ▸ List.mem_map_of_mem hx
    obtain ⟨m, hm, group⟩ := List.mem_map.mp mem
    exact other m hm group

/-- The level and cut of a strip handed by its record at ENGINE RESTART (R144, R150). -/
theorem Strip.handed_restarted {st : Strip} {a : AutoStrip} {position : Nat} (handedLevel : st.levelHanded (a.restarted st.mode.reads position))
    (handedCut : st.cutHanded (a.restarted st.mode.reads position)) :
    let reads : Prop := st.mode = .read ∨ st.mode = .touch ∨ st.mode = .latch
    let level := (readLevelAt a.levelMoves position).map Prod.fst
    (st.levelSource = .store ↔ reads ∧ level ≠ none) ∧ (∀ code, reads → level = some code → st.storeLevel = code) ∧
    (st.cutSource = .store ↔ reads ∧ a.cutMoves ≠ []) := by
  obtain ⟨levelSource, levelCode⟩ := handedLevel
  obtain ⟨cutSource, -⟩ := handedCut
  have noCut : readCutAt a.cutMoves position = none ↔ a.cutMoves = [] := by
    unfold readCutAt
    split <;> simp_all
  rw [levelSource, cutSource]
  by_cases reads : st.mode = .read ∨ st.mode = .touch ∨ st.mode = .latch
  · have read : (a.restarted st.mode.reads position).readLevel = (readLevelAt a.levelMoves position).map Prod.fst ∧
        (a.restarted st.mode.reads position).readCut = readCutAt a.cutMoves position ∧
        (a.restarted st.mode.reads position).phase = .follow ∧ (a.restarted st.mode.reads position).cutLive = false := by
      rcases reads with mode | mode | mode <;> simp [mode, Mode.reads, AutoStrip.restarted, AutoStrip.readAt]
    obtain ⟨level, cut, phase, live⟩ := read
    rw [level, phase] at levelCode
    rw [level, cut, phase, live]
    refine ⟨?_, fun code _ eq => levelCode code eq ?_, ?_⟩
    · rcases reads with mode | mode | mode <;> simp [mode, Mode.ridden]
    · rcases reads with mode | mode | mode <;> simp [mode, Mode.ridden]
    · rw [Ne, noCut]
      rcases reads with mode | mode | mode <;> simp [mode, Mode.ridden]
  · have written : st.mode = .off ∨ st.mode = .write := by cases mode : st.mode <;> simp_all
    refine ⟨?_, fun code read => absurd read reads, ?_⟩
    · rcases written with mode | mode <;> simp [mode, Mode.ridden]
    · rcases written with mode | mode <;> simp [mode, Mode.ridden]

/-- The record of a strip at ENGINE RESTART, as its mode has it (R150). -/
theorem AutoStrip.restarted_eq (mode : Mode) (position : Nat) (a : AutoStrip) :
    (mode = .read ∨ mode = .touch ∨ mode = .latch → a.restarted mode.reads position = { a with
      touched := false, phase := .follow, cutLive := false, readLevel := (readLevelAt a.levelMoves position).map Prod.fst
      readCut := readCutAt a.cutMoves position }) ∧
    (¬ (mode = .read ∨ mode = .touch ∨ mode = .latch) → a.restarted mode.reads position =
      { a with touched := false, phase := .follow, cutLive := false }) := by
  cases mode <;> simp [AutoStrip.restarted, Mode.reads, AutoStrip.readAt]

/-- A strip's record, level and cut after ENGINE RESTART (R150). -/
theorem restartWork_auto {s : State} {i : Fin 64} (hi : s.hasStrip i = true) :
    let t := restartRide (restartAudio s)
    t.strips[i].mode = s.strips[i].mode ∧
    t.playback.strips[i] = s.playback.strips[i].restarted s.strips[i].mode.reads s.playback.position ∧
    t.strips[i].levelHanded (s.playback.strips[i].restarted s.strips[i].mode.reads s.playback.position) ∧
    t.strips[i].cutHanded (s.playback.strips[i].restarted s.strips[i].mode.reads s.playback.position) := by
  obtain ⟨-, -, straps, -, -, -, playback, -⟩ := restartAudio_keeps s
  have handed := restartRide_hands ((hasStrip_of_straps straps i).trans hi)
  have mode : (restartAudio s).strips[i].mode = s.strips[i].mode := by rw [restartAudio_strip]
  have after := ((rideRestarted (restartAudio s)).desk i).mode.trans mode
  rw [mode, playback] at handed
  exact ⟨after, handed⟩

/-- The group line after ENGINE RESTART (R101, R106, R107). -/
theorem restarted_group {s : State} {g : GroupLine} (moved : LineMoved (decide (s.tx.drive = .strapSilent)) s.group.cleared g)
    (refreshed : StripsTuned s → ∃ cut, Restarted (decide (s.tx.drive = .strapSilent)) s.straps.slot s.group.drops s.group.mastered cut g) :
    g.line = .seeking ∧ g.refreshCount = 0 ∧ g.refreshDue = none ∧ g.soloLevel = s.group.soloLevel ∧ g.sent = s.group.sent ∧
    g.taken = s.group.taken ∧ g.lineErrors = s.group.lineErrors ∧ g.losses = s.group.losses ∧
    g.mastered.map Master.group = s.group.mastered.map Master.group ∧
    (s.tx.drive ≠ .strapSilent → (∀ k : Fin 32, g.table[k] = ⟨0, false, none, false⟩) ∧
      (StripsTuned s →
        g.queue = ((s.group.mastered.zip g.mastered).flatMap fun (m, now) =>
          [(⟨.groupLevel, m.group.val, m.offset, none⟩ : QueueEntry),
            ⟨.groupCut, m.group.val, if now.cut then 1 else 0, none⟩]).take 38 ∧
        (s.group.mastered.length ≤ 19 → g.drops = s.group.drops))) ∧
    (StripsTuned s → g.mastered.map Master.enqueued = s.group.mastered.map Master.offset) ∧
    (s.tx.drive = .strapSilent → g.queue = [] ∧ g.drops = s.group.drops ∧
      (StripsTuned s → ∀ k : Fin 32,
        (∀ m ∈ g.mastered, m.group = k →
          g.table[k] = ⟨max (-1020) (min 120 m.enqueued), m.cut, some s.straps.slot, true⟩) ∧
        ((∀ m ∈ g.mastered, m.group ≠ k) → g.table[k] = ⟨0, false, none, false⟩))) := by
  have scalars : g.line = .seeking ∧ g.refreshCount = 0 ∧ g.refreshDue = none ∧ g.soloLevel = s.group.soloLevel ∧
      g.sent = s.group.sent ∧ g.taken = s.group.taken ∧ g.lineErrors = s.group.lineErrors ∧ g.losses = s.group.losses := by
    rw [moved.frame]
    exact ⟨rfl, rfl, rfl, rfl, rfl, rfl, rfl, rfl⟩
  obtain ⟨line, count, due, solo, sent, taken, errors, losses⟩ := scalars
  refine ⟨line, count, due, solo, sent, taken, errors, losses, moved.groups, fun driving => ?_, fun tuned => ?_, fun silent => ?_⟩
  · have lo : decide (s.tx.drive = .strapSilent) = false := decide_eq_false driving
    refine ⟨fun k => ?_, fun tuned => ?_⟩
    · rw [moved.driving lo]
      simp [GroupLine.cleared, TableEntry.reset]
    · obtain ⟨cut, line⟩ := refreshed tuned
      rw [← refreshEntries_zip line.groups line.held]
      exact ⟨line.sent.queue lo, line.sent.drops lo⟩
  · obtain ⟨cut, line⟩ := refreshed tuned
    exact line.noted
  · have lo : decide (s.tx.drive = .strapSilent) = true := decide_eq_true silent
    obtain ⟨queue, drops⟩ := moved.silent lo
    refine ⟨queue, drops, fun tuned => ?_⟩
    obtain ⟨cut, line⟩ := refreshed tuned
    rw [lo] at line
    exact line.table

/-- Settles O59, block by block: the four audio blocks in closed form; the group line cleared and refreshed, and then kept through the
evaluation of the strips; and each strip's turn in the walk of the automation engine. -/
theorem engineRestartTakesEveryBlock : Obligations.EngineRestartTakesEveryBlock := by
  intro s pin
  have run : exec (.engineRestart 0 []) s = .next (ok (restartWork s)) := by
    rw [exec, execEngineRestart, onBare_next pin]
  have made := engineRestarted s
  obtain ⟨-, -, -, -, -, -, playback, -, -, -, engine⟩ := restartAudio_keeps s
  have ridden := (rideRestarted (restartAudio s)).playback
  have strip := restartWork_strip s
  have tx := restartAudio_tx s
  have peer := restartAudio_peer s
  have summer := restartAudio_summer s
  have moved := restartWork_line s
  have refreshed : StripsTuned s → _ := restartWork_refreshed
  have auto (i : Fin 64) : s.hasStrip i = true → _ := restartWork_auto (i := i)
  have surface : (restartSurface s).surface.link = s.surface.link ∧ (restartSurface s).surface.silence = s.surface.silence ∧
      (restartSurface s).surface.scanErrors = s.surface.scanErrors := by simp [restartSurface]
  have fader := restartSurface_fader s
  rw [← made.surface] at surface fader
  rw [← made.strips] at strip
  rw [← made.group] at moved refreshed
  rw [playback, ← made.playback] at ridden
  rw [← made.tx] at tx
  rw [← made.peers] at peer
  rw [← made.summer] at summer
  simp only [← made.strips, ← made.playback] at auto
  generalize restartWork s = t at *
  refine ⟨ok t, run, rfl, made.mask, made.peerChange, made.mergeAborted, made.causes, made.straps, made.resetPin, made.clock,
    made.pending, made.engine.trans engine, strip, tx, peer, summer, ?_, ?_, ?_, made.idle, fun busy => ?_, made.ports⟩
  · exact restarted_group moved refreshed
  · obtain ⟨link, silence, errors⟩ := surface
    exact ⟨link, silence, errors, fader⟩
  · have stands : t.playback.position = s.playback.position ∧ t.playback.transport = s.playback.transport ∧
        t.playback.stepCount = s.playback.stepCount ∧ t.playback.positionErrors = s.playback.positionErrors ∧
        t.playback.jumps = s.playback.jumps := by
      rw [ridden]
      exact ⟨rfl, rfl, rfl, rfl, rfl⟩
    obtain ⟨position, transport, steps, errors, jumps⟩ := stands
    refine ⟨position, transport, steps, errors, jumps, fun i hi => ?_⟩
    obtain ⟨mode, record, level, cut⟩ := auto i hi
    rw [← mode] at record level cut ⊢
    obtain ⟨source, code, cutSource⟩ := Strip.handed_restarted level cut
    obtain ⟨reads, stands⟩ := AutoStrip.restarted_eq t.strips[i].mode s.playback.position s.playback.strips[i]
    exact ⟨fun h => record.trans (reads h), fun h => record.trans (stands h), source, code, cutSource⟩
  · have ended := made.ended busy
    refine ⟨openPunches_none (congrArg Pass.punches ended), ended.trans ?_⟩
    change _ = { s.pass with state := .idle, number := none, journal := [], mergeList := [], punches := t.pass.punches }
    rw [ended]

end Sys2Proof.Machine
end

section
/-! What the journal's operations offer, and what the pass record makes of it (R156, R157, R159). -/

namespace Sys2Proof.Machine

/-! ### Offers in turn -/

theorem Pass.offers_append (p : Pass) (first then_ : List Record) : p.offers (first ++ then_) = (p.offers first).offers then_ :=
  List.foldl_append ..

theorem Pass.refusesSome_append (p : Pass) (first then_ : List Record) :
    p.refusesSome (first ++ then_) = (p.refusesSome first || (p.offers first).refusesSome then_) := by
  induction first generalizing p with
  | nil => rfl
  | cons r rest ih =>
    rw [List.cons_append, Pass.refusesSome, ih, Pass.refusesSome, Bool.or_assoc]
    rfl

theorem Pass.offer_refused {p : Pass} {r : Record} (h : p.refuses r = true) : p.offer r = { p with incomplete := true } := by
  unfold Pass.offer
  rw [if_pos h]

theorem Pass.offer_punchOut (p : Pass) (i : Fin 64) (kind : Kind) (position : Nat) :
    p.offer (.punchOut i kind position) = if p.isOpen i kind then { p with
      journal := p.journal ++ [.punchOut i kind position], punches := p.punches.set i (p.punches[i].stop kind) } else p := by
  rw [Pass.offer, Pass.refuses, if_neg Bool.false_ne_true]

theorem Pass.offer_move {p : Pass} {i : Fin 64} {v : MoveValue} (isOpen : p.isOpen i v.kind = true) (position : Nat) :
    p.offer (.move i position v) = if p.free = 0 then { p with incomplete := true } else { p with
      journal := p.journal ++ [.move i position v], punches := p.punches.set i (p.punches[i].note v) } := by
  by_cases full : p.free = 0 <;> simp [Pass.offer, Pass.refuses, full, isOpen]

theorem Pass.offer_move_closed {p : Pass} {i : Fin 64} {v : MoveValue} (closed : p.isOpen i v.kind = false) (position : Nat) :
    p.offer (.move i position v) = p ∧ p.refuses (.move i position v) = false := by
  unfold Pass.offer Pass.refuses
  simp [closed]

theorem Pass.offer_state (p : Pass) (r : Record) : (p.offer r).state = p.state := by
  unfold Pass.offer
  split
  · rfl
  · split
    · rfl
    · split <;> rfl
    · split <;> rfl

theorem Pass.offers_state (p : Pass) (records : List Record) : (p.offers records).state = p.state := by
  induction records generalizing p with
  | nil => rfl
  | cons r rest ih => exact (ih (p.offer r)).trans (p.offer_state r)

/-! ### The punches of one kind -/

/-- The kind of a record's punch. -/
def Record.punchKind : Record → Kind
  | .punchIn _ kind _ => kind
  | .move _ _ v => v.kind
  | .punchOut _ kind _ => kind

/-- The open punch of a strip and kind is the same in two pass records. -/
def Pass.samePunch (i : Fin 64) : Kind → Pass → Pass → Prop
  | .level, p, q => q.punches[i].level = p.punches[i].level
  | .cut, p, q => q.punches[i].cut = p.punches[i].cut

variable {p q r : Pass} {i : Fin 64} {kind : Kind}

theorem Pass.samePunch.refl (p : Pass) : Pass.samePunch i kind p p := by cases kind <;> rfl

theorem Pass.samePunch.trans (h : Pass.samePunch i kind p q) (k : Pass.samePunch i kind q r) : Pass.samePunch i kind p r := by
  cases kind <;> exact Eq.trans k h

theorem Pass.samePunch.isOpen (h : Pass.samePunch i kind p q) : q.isOpen i kind = p.isOpen i kind := by
  cases kind <;> exact congrArg Option.isSome h

theorem Pass.samePunch.closing (h : Pass.samePunch i kind p q) {v : MoveValue} (of : v.kind = kind) (position : Nat) :
    q.closing i kind position v = p.closing i kind position v := by
  have differs : q.punches[i].differs v = p.punches[i].differs v := by
    subst of
    cases v with
    | level code glide => exact congrArg (fun o => o != some (some code)) h
    | cut on => exact congrArg (fun o => o != some (some on)) h
  rw [Pass.closing, Pass.closing, h.isOpen, differs]

/-- Changing the punches of one strip in a way that spares a kind. -/
theorem Pass.samePunch_set (j : Fin 64) {f : Punches → Punches} (level : kind = .level → ∀ x, (f x).level = x.level)
    (cut : kind = .cut → ∀ x, (f x).cut = x.cut) (journal : List Record) :
    Pass.samePunch i kind p { p with journal := journal, punches := p.punches.set j (f p.punches[j]) } := by
  have entry : (p.punches.set j (f p.punches[j]))[i] = if j = i then f p.punches[i] else p.punches[i] := by
    rw [set_get]
    split
    · next same => rw [same]
    · rfl
  cases kind with
  | level =>
    rw [Pass.samePunch, entry]
    split
    · exact level rfl _
    · rfl
  | cut =>
    rw [Pass.samePunch, entry]
    split
    · exact cut rfl _
    · rfl

theorem Punches.start_other (x : Punches) :
    (kind ≠ .level → (x.start kind).level = x.level) ∧ (kind ≠ .cut → (x.start kind).cut = x.cut) := by
  cases kind <;> simp [Punches.start]

theorem Punches.stop_other (x : Punches) :
    (kind ≠ .level → (x.stop kind).level = x.level) ∧ (kind ≠ .cut → (x.stop kind).cut = x.cut) := by
  cases kind <;> simp [Punches.stop]

theorem Punches.note_other (v : MoveValue) (x : Punches) :
    (v.kind ≠ .level → (x.note v).level = x.level) ∧ (v.kind ≠ .cut → (x.note v).cut = x.cut) := by
  cases v <;> simp [Punches.note, MoveValue.kind]

/-- A record of one kind leaves the punches of the other. -/
theorem Pass.offer_other (p : Pass) {r : Record} (other : r.punchKind ≠ kind) : Pass.samePunch i kind p (p.offer r) := by
  unfold Pass.offer
  split
  · cases kind <;> rfl
  · cases r with
    | punchIn j k position =>
      exact Pass.samePunch_set j (fun e x => x.start_other.1 (e ▸ other)) (fun e x => x.start_other.2 (e ▸ other)) _
    | move j position v =>
      dsimp only
      split
      · exact Pass.samePunch_set j (fun e x => (x.note_other v).1 (e ▸ other)) (fun e x => (x.note_other v).2 (e ▸ other)) _
      · exact .refl p
    | punchOut j k position =>
      dsimp only
      split
      · exact Pass.samePunch_set j (fun e x => x.stop_other.1 (e ▸ other)) (fun e x => x.stop_other.2 (e ▸ other)) _
      · exact .refl p

theorem Pass.offers_other (p : Pass) {records : List Record} (other : ∀ r ∈ records, r.punchKind ≠ kind) :
    Pass.samePunch i kind p (p.offers records) := by
  induction records generalizing p with
  | nil => exact .refl p
  | cons r rest ih =>
    exact (p.offer_other (other r List.mem_cons_self)).trans (ih _ fun x hx => other x (List.mem_cons_of_mem r hx))

theorem punchKind_opening {position : Nat} {v : MoveValue} (of : v.kind = kind) :
    ∀ r ∈ opening i kind position v, r.punchKind = kind := by
  simp [opening, Record.punchKind, of]

theorem punchKind_closing {position : Nat} {v : MoveValue} (of : v.kind = kind) :
    ∀ r ∈ p.closing i kind position v, r.punchKind = kind := by
  unfold Pass.closing
  split
  · intro r hr
    rcases List.mem_append.mp hr with hr | hr
    · split at hr
      · obtain rfl := List.mem_singleton.mp hr
        exact of
      · cases hr
    · obtain rfl := List.mem_singleton.mp hr
      rfl
  · intro r hr
    cases hr

/-! ### Work that records -/

/-- Work whose effect on the pass record is records offered in turn; a refused one raises JOURNAL FULL, and no other cause rises. -/
structure Recorded (s t : State) (records : List Record) : Prop where
  pass : t.pass = s.pass.offers records
  causes : ∀ c, t.causeSet c = true ↔ s.causeSet c = true ∨ (c = .journalFull ∧ s.pass.refusesSome records = true)

theorem Recorded.trans {s t u : State} {first then_ : List Record} (h : Recorded s t first) (k : Recorded t u then_) :
    Recorded s u (first ++ then_) := by
  refine ⟨?_, fun c => ?_⟩
  · rw [k.pass, h.pass, Pass.offers_append]
  · rw [k.causes, h.causes, h.pass, Pass.refusesSome_append, Bool.or_eq_true]
    tauto

theorem recorded_nil {s t : State} (pass : t.pass = s.pass) (control : t.control = s.control) : Recorded s t [] := by
  refine ⟨pass, fun c => ?_⟩
  rw [State.causeSet, control, State.causeSet]
  simp [Pass.refusesSome]

/-- A refused record (R156). -/
theorem recorded_refuseRecord {s : State} {r : Record} (refused : s.pass.refuses r = true) : Recorded s (refuseRecord s) [r] := by
  refine ⟨(Pass.offer_refused refused).symm, fun c => ?_⟩
  have set : (s.setPass { s.pass with incomplete := true }).causeSet c = s.causeSet c := rfl
  rw [refuseRecord, causeSet_raise, set]
  simp [Pass.refusesSome, refused]

/-- An accepted record (R156). -/
theorem recorded_accepted {s t : State} {r : Record} (accepted : s.pass.refuses r = false) (pass : t.pass = s.pass.offer r)
    (control : t.control = s.control) : Recorded s t [r] := by
  refine ⟨pass, fun c => ?_⟩
  rw [State.causeSet, control, State.causeSet]
  simp [Pass.refusesSome, accepted]

theorem recorded_offerMove {s : State} {i : Fin 64} {v : MoveValue} (isOpen : s.pass.isOpen i v.kind = true) (position : Nat) :
    Recorded s (offerMove i position v s) [.move i position v] := by
  have offered := Pass.offer_move isOpen position
  unfold offerMove
  split
  · next room =>
    have free : ¬ s.pass.free = 0 := by omega
    refine recorded_accepted (by simp [Pass.refuses, free]) ?_ rfl
    rw [offered, if_neg free]
    rfl
  · next full =>
    have free : s.pass.free = 0 := by omega
    exact recorded_refuseRecord (by simp [Pass.refuses, isOpen, free])

theorem recorded_punchOut {s : State} {i : Fin 64} {kind : Kind} (isOpen : s.pass.isOpen i kind = true) (position : Nat) :
    Recorded s (punchOut i kind position s) [.punchOut i kind position] := by
  refine recorded_accepted rfl ?_ rfl
  rw [Pass.offer_punchOut, if_pos isOpen]
  rfl

theorem isOpen_start (p : Pass) (i : Fin 64) (kind : Kind) (journal : List Record) :
    ({ p with journal := journal, punches := p.punches.set i (p.punches[i].start kind) } : Pass).isOpen i kind = true := by
  cases kind <;> simp [Pass.isOpen, Punches.start]

theorem recorded_offerPunchIn {s : State} {i : Fin 64} {v : MoveValue} (closed : s.pass.isOpen i v.kind = false) (position : Nat) :
    Recorded s (offerPunchIn i v.kind position v s) (opening i v.kind position v) := by
  unfold offerPunchIn opening
  split
  · next room =>
    have first : Recorded s (modPunches i (Punches.start v.kind) (appendRecord (.punchIn i v.kind position) s))
        [.punchIn i v.kind position] := by
      have accepted : s.pass.refuses (.punchIn i v.kind position) = false := by simp [Pass.refuses]; omega
      refine recorded_accepted accepted ?_ rfl
      rw [Pass.offer, accepted, if_neg Bool.false_ne_true]
      rfl
    exact first.trans (recorded_offerMove (isOpen_start s.pass i v.kind _) position)
  · next full =>
    have refused : Recorded s (refuseRecord s) [.punchIn i v.kind position] :=
      recorded_refuseRecord (by simp [Pass.refuses]; omega)
    have skipped := Pass.offer_move_closed (p := (refuseRecord s).pass) (v := v) closed position
    exact refused.trans (recorded_accepted skipped.2 skipped.1.symm rfl)

theorem deskValue_kind (s : State) (i : Fin 64) (kind : Kind) : (s.deskValue i kind).kind = kind := by cases kind <;> rfl

/-- A strip and kind punches in where it is live and has no punch open (R157). -/
theorem recorded_punchIn (i : Fin 64) (kind : Kind) (position : Nat) (s : State) :
    Recorded s (punchIn i kind position s) (if s.recordingNow && s.liveForRecording i kind && !s.pass.isOpen i kind then
      opening i kind position (s.deskValue i kind) else []) := by
  unfold punchIn
  split
  · next live =>
    simp only [Bool.and_eq_true, Bool.not_eq_true'] at live
    obtain ⟨-, closed⟩ := live
    have offered := recorded_offerPunchIn (v := s.deskValue i kind) (by rw [deskValue_kind]; exact closed) position
    rwa [deskValue_kind] at offered
  · exact recorded_nil rfl rfl

theorem isOpen_note (p : Pass) (i : Fin 64) (v : MoveValue) (journal : List Record) :
    ({ p with journal := journal, punches := p.punches.set i (p.punches[i].note v) } : Pass).isOpen i v.kind = true := by
  cases v <;> simp [Pass.isOpen, Punches.note, MoveValue.kind]

/-- A move leaves its punch open. -/
theorem isOpen_offerMove {p : Pass} {v : MoveValue} (isOpen : p.isOpen i v.kind = true) (position : Nat) :
    (p.offer (.move i position v)).isOpen i v.kind = true := by
  rw [Pass.offer_move isOpen]
  split
  · exact isOpen
  · exact isOpen_note p i v _

/-- A punch is closed, with its closing move where the desk's value differs (R159). -/
theorem recorded_closePunch (i : Fin 64) (kind : Kind) (position : Nat) (s : State) :
    Recorded s (closePunch i kind position s) (s.pass.closing i kind position (s.deskValue i kind)) := by
  unfold closePunch Pass.closing
  split
  · next isOpen =>
    dsimp only
    have desk : s.pass.isOpen i (s.deskValue i kind).kind = true := by rw [deskValue_kind]; exact isOpen
    split
    · have moved := recorded_offerMove desk position
      have still := isOpen_offerMove desk position
      rw [deskValue_kind] at still
      refine moved.trans (recorded_punchOut ?_ position)
      rw [moved.pass]
      exact still
    · exact recorded_punchOut isOpen position
  · exact recorded_nil rfl rfl

theorem isOpen_stop (p : Pass) (i : Fin 64) (kind : Kind) (journal : List Record) :
    ({ p with journal := journal, punches := p.punches.set i (p.punches[i].stop kind) } : Pass).isOpen i kind = false := by
  cases kind <;> simp [Pass.isOpen, Punches.stop]

theorem isOpen_offer_punchOut (p : Pass) (i : Fin 64) (kind : Kind) (position : Nat) :
    (p.offer (.punchOut i kind position)).isOpen i kind = false := by
  rw [Pass.offer_punchOut]
  split
  · exact isOpen_stop p i kind _
  · next closed => exact Bool.eq_false_iff.mpr closed

/-- Once a punch is closed none is open (R159). -/
theorem isOpen_closing (p : Pass) (i : Fin 64) (kind : Kind) (position : Nat) (v : MoveValue) :
    (p.offers (p.closing i kind position v)).isOpen i kind = false := by
  unfold Pass.closing
  split
  · rw [Pass.offers_append]
    exact isOpen_offer_punchOut _ i kind position
  · next closed => exact Bool.eq_false_iff.mpr closed

/-! ### A punch that opens and closes in one command -/

theorem openPunches_set (p : Pass) (i : Fin 64) (x : Punches) (journal : List Record) :
    ({ p with journal := journal, punches := p.punches.set i x } : Pass).openPunches + p.punches[i].count = p.openPunches + x.count := by
  have sum (q : Pass) : q.openPunches = ∑ j : Fin 64, q.punches[j].count := by
    rw [Pass.openPunches, toList_eq_map, List.map_map, ← Fin.sum_univ_def]
    rfl
  have entry (j : Fin 64) : (p.punches.set i x)[j] = if i = j then x else p.punches[j] := set_get _ _ _ _
  rw [sum, sum, ← Finset.add_sum_erase _ _ (Finset.mem_univ i), ← Finset.add_sum_erase Finset.univ _ (Finset.mem_univ i)]
  have rest : ∑ j ∈ Finset.univ.erase i, ((p.punches.set i x)[j]).count = ∑ j ∈ Finset.univ.erase i, p.punches[j].count := by
    refine Finset.sum_congr rfl fun j hj => ?_
    rw [entry, if_neg (Finset.ne_of_mem_erase hj).symm]
  dsimp only
  rw [rest, entry, if_pos rfl]
  omega

theorem Punches.count_stop (x : Punches) (isOpen : kind = .level ∧ x.level.isSome = true ∨ kind = .cut ∧ x.cut.isSome = true) :
    x.count = (x.stop kind).count + 1 := by
  rcases isOpen with ⟨rfl, isOpen⟩ | ⟨rfl, isOpen⟩
  · simp [Punches.count, Punches.stop, isOpen, Nat.add_comm]
    rfl
  · simp [Punches.count, Punches.stop, isOpen]
    rfl

/-- A PUNCH OUT takes the place its punch reserved (R156). -/
theorem free_punchOut {p : Pass} (full : p.free = 0) (i : Fin 64) (kind : Kind) (position : Nat) :
    (p.offer (.punchOut i kind position)).free = 0 := by
  rw [Pass.offer_punchOut]
  split
  · next isOpen =>
    have count := openPunches_set p i (p.punches[i].stop kind) (p.journal ++ [.punchOut i kind position])
    have one : p.punches[i].count = (p.punches[i].stop kind).count + 1 := by
      cases kind with
      | level => exact Punches.count_stop _ (.inl ⟨rfl, isOpen⟩)
      | cut => exact Punches.count_stop _ (.inr ⟨rfl, isOpen⟩)
    unfold Pass.free at *
    rw [List.length_append, List.length_singleton]
    omega
  · exact full

/-- With no place free, a closing only closes (R156, R159). -/
theorem full_closing {p : Pass} (full : p.free = 0) (incomplete : p.incomplete = true) (i : Fin 64) (kind : Kind) (position : Nat)
    {v : MoveValue} (of : v.kind = kind) :
    p.offers (p.closing i kind position v) = p.offer (.punchOut i kind position) := by
  unfold Pass.closing
  split
  · next isOpen =>
    rw [Pass.offers_append]
    split
    · have stands : p.offers [.move i position v] = p := by
        refine (Pass.offer_move (of ▸ isOpen) position).trans ?_
        rw [if_pos full, ← incomplete]
      rw [stands]
      rfl
    · rfl
  · next closed =>
    rw [Pass.offer_punchOut, if_neg closed]
    rfl

theorem Pass.offer_incomplete {p : Pass} (h : p.incomplete = true) (r : Record) : (p.offer r).incomplete = true := by
  unfold Pass.offer
  split
  · rfl
  · split
    · exact h
    · split <;> exact h
    · split <;> exact h

/-- A cut that opened its punch in this command has its opening move as last recorded value, or the journal is full: the closing is the
PUNCH OUT alone (R156, R159). -/
theorem closing_opened {p : Pass} {i : Fin 64} (closed : p.isOpen i .cut = false) (position : Nat) (on : Bool) (w : Nat) (glide : Bool) :
    let q := (p.offers (opening i .cut position (.cut on))).offers (p.closing i .level position (.level w glide))
    q.offers (q.closing i .cut position (.cut on)) = q.offers [.punchOut i .cut position] ∧
    (p.refusesSome (opening i .cut position (.cut on)) = true ∨
      q.refusesSome (q.closing i .cut position (.cut on)) = q.refusesSome [.punchOut i .cut position]) := by
  intro q
  have level : p.closing i .level position (.level w glide) =
      (p.offers (opening i .cut position (.cut on))).closing i .level position (.level w glide) := by
    have spared : Pass.samePunch i .level p (p.offers (opening i .cut position (.cut on))) :=
      p.offers_other fun r hr => by rw [punchKind_opening (kind := .cut) rfl r hr]; decide
    exact (spared.closing rfl position).symm
  have later : Pass.samePunch i .cut (p.offers (opening i .cut position (.cut on))) q := by
    refine Pass.offers_other _ fun r hr => ?_
    rw [punchKind_closing (kind := .level) rfl r hr]
    decide
  by_cases refused : p.refuses (.punchIn i .cut position) = true
  · have first : p.offers (opening i .cut position (.cut on)) = { p with incomplete := true } := by
      change (p.offer _).offer _ = _
      rw [Pass.offer_refused refused]
      exact (Pass.offer_move_closed (p := { p with incomplete := true }) (v := .cut on) closed position).1
    have still : q.isOpen i .cut = false := later.isOpen.trans (by rw [first]; exact closed)
    refine ⟨?_, .inl ?_⟩
    · have nothing : q.closing i .cut position (.cut on) = [] := by rw [Pass.closing, still]; rfl
      have ignored : q.offer (.punchOut i .cut position) = q := by rw [Pass.offer_punchOut, still]; rfl
      rw [nothing]
      exact ignored.symm
    · simp [opening, Pass.refusesSome, refused]
  · have accepted : p.offer (.punchIn i .cut position) = { p with
        journal := p.journal ++ [.punchIn i .cut position], punches := p.punches.set i (p.punches[i].start .cut) } := by
      rw [Pass.offer, if_neg refused]
    have started := isOpen_start p i .cut (p.journal ++ [.punchIn i .cut position])
    rw [← accepted] at started
    have move := Pass.offer_move (v := .cut on) started position
    by_cases full : (p.offer (.punchIn i .cut position)).free = 0
    · rw [if_pos full] at move
      have first : p.offers (opening i .cut position (.cut on)) = { p.offer (.punchIn i .cut position) with incomplete := true } := move
      have stands := full_closing (p := p.offers (opening i .cut position (.cut on))) (by rw [first]; exact full) (by rw [first]) i .level
        position (v := .level w glide) rfl
      rw [← level] at stands
      have still : q = (p.offers (opening i .cut position (.cut on))).offer (.punchOut i .level position) := stands
      refine ⟨?_, .inl ?_⟩
      · refine full_closing ?_ ?_ i .cut position rfl
        · rw [still]
          exact free_punchOut (by rw [first]; exact full) i .level position
        · rw [still]
          exact Pass.offer_incomplete (by rw [first]) _
      · have second : (p.offer (.punchIn i .cut position)).refuses (.move i position (.cut on)) = true := by
          simp only [Pass.refuses, Bool.and_eq_true]
          exact ⟨started, decide_eq_true full⟩
        simp [opening, Pass.refusesSome, second]
    · rw [if_neg full] at move
      have noted : q.punches[i].cut = some (some on) := by
        have last : (p.offers (opening i .cut position (.cut on))).punches[i].cut = some (some on) := by
          change ((p.offer _).offer _).punches[i].cut = _
          rw [move]
          simp [Punches.note]
        exact Eq.trans later last
      have same : q.closing i .cut position (.cut on) = [.punchOut i .cut position] := by
        have started : q.isOpen i .cut = true := congrArg Option.isSome noted
        have recorded : q.punches[i].differs (.cut on) = false := by
          unfold Punches.differs
          dsimp only
          rw [noted, bne_self_eq_false]
        rw [Pass.closing, started, recorded]
        rfl
      rw [same]
      exact ⟨rfl, .inr rfl⟩

end Sys2Proof.Machine
end

section
/-! A strip's manual cut and mode change: its record, its sources and its journal (R144, R146, R148, R157, R159). -/

namespace Sys2Proof.Machine

/-! ### What handing raises -/

theorem control_handCut (i : Fin 64) (s : State) : (handCut i s).control = s.control := (lineStep_modEval i _ s).control

theorem control_handValues (i : Fin 64) (s : State) : (handValues i s).control = s.control := (lineStep_handValues i s).control

/-! ### The manual cut (R148) -/

theorem changeCut_unridden {i : Fin 64} {s : State} (mode : s.strips[i].mode.ridden = false) : changeCut i s = evalStrip i s := by
  unfold changeCut
  rw [mode, if_neg Bool.false_ne_true]

/-- The part once a ridden strip's cut is live and handed on, before its punch opens (R148). -/
def cutTaken (i : Fin 64) (s : State) : State := handCut i (modAuto i (fun a => { a with cutLive := true }) s)

theorem changeCut_ridden {i : Fin 64} {s : State} (mode : s.strips[i].mode.ridden = true) :
    changeCut i s = if s.playback.strips[i].cutLive then cutTaken i s else
      punchIn i .cut (cutTaken i s).playback.position (cutTaken i s) := by
  unfold changeCut
  rw [if_pos mode]
  dsimp only
  cases s.playback.strips[i].cutLive <;> rfl

theorem cutTaken_hands (i : Fin 64) (s : State) :
    s.strips[i].sameLevel (cutTaken i s).strips[i] ∧ (cutTaken i s).strips[i].cutHanded { s.playback.strips[i] with cutLive := true } ∧
    (cutTaken i s).playback.strips[i] = { s.playback.strips[i] with cutLive := true } ∧
    (cutTaken i s).playback.position = s.playback.position ∧ (cutTaken i s).playback.transport = s.playback.transport ∧
    (cutTaken i s).pass = s.pass ∧ (cutTaken i s).control = s.control := by
  obtain ⟨level, cut, playback, pass⟩ := handCut_hands i (modAuto i (fun a => { a with cutLive := true }) s)
  rw [modAuto_self] at cut
  refine ⟨level, cut, ?_, ?_, ?_, pass, control_handCut _ _⟩
  · rw [cutTaken, playback, modAuto_self]
  · rw [cutTaken, playback]
    rfl
  · rw [cutTaken, playback]
    rfl

theorem sparesOthers_cutTaken (i : Fin 64) (s : State) : SparesOthers i s (cutTaken i s) :=
  (sparesOthers_modAuto i _ s).trans (sparesOthers_handCut i _)

theorem sparesOthers_changeCut (i : Fin 64) (s : State) : SparesOthers i s (changeCut i s) := by
  cases mode : s.strips[i].mode.ridden with
  | false => rw [changeCut_unridden mode]; exact (lineFrame_evalStrip i s).sparesOthers i
  | true =>
    rw [changeCut_ridden mode]
    split
    · exact sparesOthers_cutTaken i s
    · exact (sparesOthers_cutTaken i s).trans ((journalFrame_punchIn _ _ _ _).sparesOthers i)

/-- The record and the sources of a strip whose manual cut changed (R148). -/
theorem changeCut_hands (i : Fin 64) (s : State) :
    s.strips[i].sameLevel (changeCut i s).strips[i] ∧
    (changeCut i s).playback.strips[i] = { s.playback.strips[i] with
      cutLive := s.playback.strips[i].cutLive || s.strips[i].mode.ridden } ∧
    (s.strips[i].mode.ridden = true → (changeCut i s).strips[i].cutHanded (changeCut i s).playback.strips[i]) ∧
    (s.strips[i].mode.ridden = false → s.strips[i].sameCut (changeCut i s).strips[i]) := by
  cases mode : s.strips[i].mode.ridden with
  | false =>
    rw [changeCut_unridden mode]
    have frame := lineFrame_evalStrip i s
    refine ⟨(frame.strips i).sameLevel, ?_, (fun ridden => nomatch ridden), fun _ => (frame.strips i).sameCut⟩
    rw [frame.playback, Bool.or_false]
  | true =>
    obtain ⟨level, cut, record, -⟩ := cutTaken_hands i s
    have after : ∀ t : State, t.strips = (cutTaken i s).strips → t.playback = (cutTaken i s).playback →
        s.strips[i].sameLevel t.strips[i] ∧ t.playback.strips[i] = { s.playback.strips[i] with cutLive := s.playback.strips[i].cutLive || true } ∧
        (true = true → t.strips[i].cutHanded t.playback.strips[i]) ∧ (true = false → s.strips[i].sameCut t.strips[i]) := by
      intro t strips playback
      rw [strips, playback, record, Bool.or_true]
      exact ⟨level, rfl, fun _ => cut, fun absurd => nomatch absurd⟩
    rw [changeCut_ridden mode]
    split
    · exact after _ rfl rfl
    · have frame := journalFrame_punchIn i .cut (cutTaken i s).playback.position (cutTaken i s)
      exact after _ frame.strips frame.playback

/-- What a changed manual cut records: the start of a live cut, where the pass records (R157). -/
theorem recorded_changeCut (i : Fin 64) (s : State) : Recorded s (changeCut i s)
    (if s.strips[i].mode.ridden && !s.playback.strips[i].cutLive && s.recordingNow && !s.pass.isOpen i .cut then
      opening i .cut s.playback.position (.cut s.strips[i].manualCut) else []) := by
  cases mode : s.strips[i].mode.ridden with
  | false =>
    rw [changeCut_unridden mode]
    exact recorded_nil (lineFrame_evalStrip i s).pass (lineStep_evalStrip i s).control
  | true =>
    obtain ⟨-, -, record, position, transport, pass, control⟩ := cutTaken_hands i s
    have desk := (((ride_modAuto i _ s).trans (ride_handCut i _) : RideFrame s (cutTaken i s))).strips i
    have quiet : Recorded s (cutTaken i s) [] := recorded_nil pass control
    rw [changeCut_ridden mode]
    cases live : s.playback.strips[i].cutLive with
    | true => exact quiet
    | false =>
      have punch := quiet.trans (recorded_punchIn i .cut (cutTaken i s).playback.position (cutTaken i s))
      have manual : (cutTaken i s).strips[i].manualCut = s.strips[i].manualCut := by rw [desk]
      have liveNow : (cutTaken i s).liveForRecording i .cut = true := by
        unfold State.liveForRecording
        rw [desk.mode, record]
        cases m : s.strips[i].mode <;> simp_all [Mode.ridden]
      have recording : (cutTaken i s).recordingNow = s.recordingNow := by
        rw [State.recordingNow, pass, transport, State.recordingNow]
      rw [liveNow, recording, pass, position, State.deskValue, manual, Bool.and_true] at punch
      rw [position]
      exact punch

/-! ### The mode (R146) -/

/-- The record of a strip whose mode changed, before its values are handed (R146). -/
def AutoStrip.remoded (mode : Mode) (position : Nat) (a : AutoStrip) : AutoStrip :=
  { (if mode.reads then a.readAt position else a) with
    phase := if mode.ridden && a.touched then .live else .follow, cutLive := false }

theorem modAuto_modAuto (i : Fin 64) (f g : AutoStrip → AutoStrip) (s : State) : modAuto i g (modAuto i f s) = modAuto i (g ∘ f) s := by
  simp [modAuto]
  rfl

/-- The end of glide, latch and live cut, the reading and the touch of a changed mode, as one change of the record (R146). -/
theorem remoded_eq (i : Fin 64) (s : State) :
    (let u := modAuto i (fun a => { a with phase := .follow, cutLive := false }) s
     let u := if u.strips[i].mode.reads then readStrip i u else u
     if u.strips[i].mode.ridden && u.playback.strips[i].touched then modAuto i (fun a => { a with phase := .live }) u else u) =
      modAuto i (AutoStrip.remoded s.strips[i].mode s.playback.position) s := by
  have read : (let u := modAuto i (fun a => { a with phase := .follow, cutLive := false }) s
      if u.strips[i].mode.reads then readStrip i u else u) = modAuto i (fun a =>
        { (if s.strips[i].mode.reads then a.readAt s.playback.position else a) with phase := .follow, cutLive := false }) s := by
    change (if s.strips[i].mode.reads = true then _ else _) = _
    cases s.strips[i].mode.reads with
    | false => rfl
    | true => exact modAuto_modAuto i _ _ s
  dsimp only at read ⊢
  rw [read]
  have touched : (modAuto i (fun a => { (if s.strips[i].mode.reads then a.readAt s.playback.position else a) with
      phase := .follow, cutLive := false }) s).playback.strips[i].touched = s.playback.strips[i].touched := by
    rw [modAuto_self]
    cases s.strips[i].mode.reads <;> rfl
  rw [touched]
  have strips : (modAuto i (fun a => { (if s.strips[i].mode.reads then a.readAt s.playback.position else a) with
      phase := .follow, cutLive := false }) s).strips = s.strips := rfl
  rw [strips, modAuto_modAuto]
  have of {f g : AutoStrip → AutoStrip} (same : f s.playback.strips[i] = g s.playback.strips[i]) : modAuto i f s = modAuto i g s := by
    rw [modAuto, modAuto, same]
  split
  · next live =>
    refine of ?_
    rw [AutoStrip.remoded, live]
    cases s.strips[i].mode.reads <;> rfl
  · next quiet =>
    refine of ?_
    rw [AutoStrip.remoded, if_neg quiet]

/-- The part once a strip's new mode has handed it its values, before what is live punches in. -/
def modeHanded (i : Fin 64) (s : State) : State :=
  handValues i (modAuto i (AutoStrip.remoded s.strips[i].mode s.playback.position) (closePunches i s.playback.position s))

theorem changeMode_eq (i : Fin 64) (s : State) : changeMode i s =
    punchIn i .cut s.playback.position (punchIn i .level s.playback.position (modeHanded i s)) := by
  have frame := journalFrame_closePunches i s.playback.position s
  have remoded := remoded_eq i (closePunches i s.playback.position s)
  rw [frame.strips, frame.playback] at remoded
  dsimp only at remoded
  unfold changeMode modeHanded
  dsimp only
  rw [remoded]

theorem journalFrame_punches (i : Fin 64) (position : Nat) (s : State) :
    JournalFrame s (punchIn i .cut position (punchIn i .level position s)) :=
  (journalFrame_punchIn _ _ _ _).trans (journalFrame_punchIn _ _ _ _)

theorem sparesOthers_changeMode (i : Fin 64) (s : State) : SparesOthers i s (changeMode i s) := by
  rw [changeMode_eq]
  have closed := (journalFrame_closePunches i s.playback.position s).sparesOthers i
  have handed : SparesOthers i s (modeHanded i s) :=
    (closed.trans (sparesOthers_modAuto i _ _)).trans (sparesOthers_handValues i _)
  exact handed.trans ((journalFrame_punches i _ _).sparesOthers i)

theorem modeHanded_hands (i : Fin 64) (s : State) :
    let a := s.playback.strips[i].remoded s.strips[i].mode s.playback.position
    (modeHanded i s).playback.strips[i] = a ∧ (modeHanded i s).strips[i].levelHanded a ∧ (modeHanded i s).strips[i].cutHanded a ∧
    ((modeHanded i s).strips[i].levelSource = .desk → (modeHanded i s).strips[i].storeLevel = s.strips[i].storeLevel) ∧
    (modeHanded i s).playback.transport = s.playback.transport ∧ (modeHanded i s).pass = (closePunches i s.playback.position s).pass ∧
    (modeHanded i s).control = (closePunches i s.playback.position s).control := by
  have frame := journalFrame_closePunches i s.playback.position s
  unfold modeHanded
  obtain ⟨level, cut, desk, playback, pass⟩ := handValues_hands i
    (modAuto i (AutoStrip.remoded s.strips[i].mode s.playback.position) (closePunches i s.playback.position s))
  have control := control_handValues i
    (modAuto i (AutoStrip.remoded s.strips[i].mode s.playback.position) (closePunches i s.playback.position s))
  rw [modAuto_self, frame.playback] at level cut
  refine ⟨?_, level, cut, fun source => (desk source).trans ?_, ?_, pass, control⟩
  · rw [playback, modAuto_self, frame.playback]
  · rw [modAuto, State.setPlayback_strips, frame.strips]
  · rw [playback, modAuto, State.setPlayback_playback, frame.playback]

/-- The record and the sources of a strip whose mode changed (R144, R146). -/
theorem changeMode_hands (i : Fin 64) (s : State) :
    let a := s.playback.strips[i].remoded s.strips[i].mode s.playback.position
    (changeMode i s).playback.strips[i] = a ∧ (changeMode i s).strips[i].levelHanded a ∧ (changeMode i s).strips[i].cutHanded a ∧
    ((changeMode i s).strips[i].levelSource = .desk → (changeMode i s).strips[i].storeLevel = s.strips[i].storeLevel) := by
  have frame := journalFrame_punches i s.playback.position (modeHanded i s)
  obtain ⟨record, level, cut, desk, -⟩ := modeHanded_hands i s
  rw [changeMode_eq, frame.strips, frame.playback]
  exact ⟨record, level, cut, desk⟩

theorem State.liveForRecording_congr {s t : State} {i : Fin 64} (mode : t.strips[i].mode = s.strips[i].mode)
    (record : t.playback.strips[i] = s.playback.strips[i]) (kind : Kind) : t.liveForRecording i kind = s.liveForRecording i kind := by
  unfold State.liveForRecording
  rw [mode, record]

theorem Strip.SameDesk.deskValue {s t : State} {i : Fin 64} (h : Strip.SameDesk s.strips[i] t.strips[i]) (kind : Kind) :
    t.deskValue i kind = s.deskValue i kind := by
  cases kind with
  | level =>
    have code : t.strips[i].deskCode = s.strips[i].deskCode := by rw [h]; rfl
    rw [State.deskValue, code, State.deskValue]
  | cut =>
    have manual : t.strips[i].manualCut = s.strips[i].manualCut := by rw [h]
    rw [State.deskValue, manual, State.deskValue]

/-- The closings of a strip, LEVEL before CUT (R159). -/
theorem recorded_closePunches (i : Fin 64) (position : Nat) (s : State) : Recorded s (closePunches i position s)
    (s.pass.closing i .level position (s.deskValue i .level) ++ s.pass.closing i .cut position (s.deskValue i .cut)) := by
  have level := recorded_closePunch i .level position s
  have cut := recorded_closePunch i .cut position (closePunch i .level position s)
  have desk : (closePunch i .level position s).deskValue i .cut = s.deskValue i .cut := by
    rw [State.deskValue, (journalFrame_closePunch i .level position s).strips, State.deskValue]
  have spared : Pass.samePunch i .cut s.pass (closePunch i .level position s).pass := by
    rw [level.pass]
    refine Pass.offers_other _ fun r hr => ?_
    rw [punchKind_closing (deskValue_kind s i .level) r hr]
    decide
  rw [desk, spared.closing (deskValue_kind s i .cut)] at cut
  exact level.trans cut

/-- After a strip's punches are closed none is open (R159). -/
theorem isOpen_closePunches (i : Fin 64) (kind : Kind) (position : Nat) (s : State) :
    (closePunches i position s).pass.isOpen i kind = false := by
  have level := recorded_closePunch i .level position s
  have cut := recorded_closePunch i .cut position (closePunch i .level position s)
  unfold closePunches
  rw [cut.pass]
  cases kind with
  | cut => exact isOpen_closing _ i .cut position _
  | level =>
    have spared : Pass.samePunch i .level (closePunch i .level position s).pass ((closePunch i .level position s).pass.offers
        ((closePunch i .level position s).pass.closing i .cut position ((closePunch i .level position s).deskValue i .cut))) := by
      refine Pass.offers_other _ fun r hr => ?_
      rw [punchKind_closing (deskValue_kind _ i .cut) r hr]
      decide
    rw [spared.isOpen, level.pass]
    exact isOpen_closing _ i .level position _

/-- What a changed mode records: the closings, then what is live in the new mode (R157, R159). -/
theorem recorded_changeMode (i : Fin 64) (s : State) : Recorded s (changeMode i s)
    (s.pass.closing i .level s.playback.position (s.deskValue i .level) ++
      s.pass.closing i .cut s.playback.position (s.deskValue i .cut) ++
      bothKinds fun k => if s.recordingNow && (changeMode i s).liveForRecording i k then
        opening i k s.playback.position (s.deskValue i k) else []) := by
  have closed := recorded_closePunches i s.playback.position s
  obtain ⟨record, -, -, -, transport, pass, control⟩ := modeHanded_hands i s
  have handed : Recorded (closePunches i s.playback.position s) (modeHanded i s) [] := recorded_nil pass control
  have frame := (journalFrame_closePunches i s.playback.position s).ride.trans
    ((ride_modAuto i (AutoStrip.remoded s.strips[i].mode s.playback.position) _).trans (ride_handValues i _))
  have desk : Strip.SameDesk s.strips[i] (modeHanded i s).strips[i] := frame.strips i
  have isOpen (kind : Kind) : (modeHanded i s).pass.isOpen i kind = false := by rw [pass]; exact isOpen_closePunches i kind _ s
  have recording : (modeHanded i s).recordingNow = s.recordingNow := by
    have state : (modeHanded i s).pass.state = s.pass.state := by rw [pass, closed.pass, Pass.offers_state]
    rw [State.recordingNow, state, transport, State.recordingNow]
  have live (kind : Kind) : (changeMode i s).liveForRecording i kind = (modeHanded i s).liveForRecording i kind := by
    have frame := journalFrame_punches i s.playback.position (modeHanded i s)
    rw [changeMode_eq]
    exact State.liveForRecording_congr (by rw [frame.strips]) (by rw [frame.playback]) kind
  have level := recorded_punchIn i .level s.playback.position (modeHanded i s)
  have first := journalFrame_punchIn i .level s.playback.position (modeHanded i s)
  have cut := recorded_punchIn i .cut s.playback.position (punchIn i .level s.playback.position (modeHanded i s))
  have still : (punchIn i .level s.playback.position (modeHanded i s)).pass.isOpen i .cut = false := by
    have spared : Pass.samePunch i .cut (modeHanded i s).pass (punchIn i .level s.playback.position (modeHanded i s)).pass := by
      rw [level.pass]
      refine Pass.offers_other _ fun r hr => ?_
      split at hr
      · rw [punchKind_opening (deskValue_kind _ i .level) r hr]
        decide
      · cases hr
    exact spared.isOpen.trans (isOpen .cut)
  have recording' : (punchIn i .level s.playback.position (modeHanded i s)).recordingNow = s.recordingNow := by
    rw [State.recordingNow, level.pass, Pass.offers_state, first.playback, ← State.recordingNow, recording]
  have live' : (punchIn i .level s.playback.position (modeHanded i s)).liveForRecording i .cut = (modeHanded i s).liveForRecording i .cut :=
    State.liveForRecording_congr (by rw [first.strips]) (by rw [first.playback]) .cut
  have desk' : (punchIn i .level s.playback.position (modeHanded i s)).deskValue i .cut = s.deskValue i .cut := by
    refine (Strip.SameDesk.deskValue (s := modeHanded i s) ?_ .cut).trans (desk.deskValue .cut)
    rw [first.strips]
    exact .refl _
  rw [recording, isOpen, desk.deskValue] at level
  rw [recording', live', still, desk'] at cut
  have all := (closed.trans handed).trans (level.trans cut)
  rw [← changeMode_eq] at all
  simp only [List.append_nil, Bool.not_false, Bool.and_true] at all
  simp only [bothKinds, live]
  exact all

end Sys2Proof.Machine
end

section
/-! What a strip's master is handed, and what the group line takes of it (R33, R34, R101, R102, R106). -/

namespace Sys2Proof.Machine

/-! ### A master and the cut it holds -/

/-- The master of a group holds a cut, and an offset last enqueued. -/
def State.holds (s : State) (g : Fin 32) (cut : Bool) (noted : Int) : Prop :=
  ∃ m, s.group.master g = some m ∧ m.cut = cut ∧ m.enqueued = noted

/-- Work that hands the master of a group, which held the cut `c`, the cut `c'`, and changes no other master. -/
structure HandsCut (g : Fin 32) (c c' : Bool) (s t : State) : Prop where
  takes : LineTakes s t (changedCuts g c [c'])
  holds : ∀ noted, s.holds g c noted → t.holds g c' noted
  others : ∀ m : Master, m.group ≠ g → (m ∈ t.group.mastered ↔ m ∈ s.group.mastered)
  groups : t.group.mastered.map Master.group = s.group.mastered.map Master.group

variable {g : Fin 32} {c c' : Bool} {s t u : State} {i : Fin 64}

theorem handsCut_stay (takes : LineTakes s t []) (mastered : t.group.mastered = s.group.mastered) : HandsCut g c c s t := by
  refine ⟨by rw [changedCuts_same]; exact takes, fun noted held => ?_, fun m _ => by rw [mastered], by rw [mastered]⟩
  obtain ⟨m, found, rest⟩ := held
  exact ⟨m, by rw [GroupLine.master, mastered]; exact found, rest⟩

theorem HandsCut.refl (g : Fin 32) (c : Bool) (s : State) : HandsCut g c c s s := handsCut_stay (Enqueued.refl s).toLineTakes rfl

theorem changedCuts_pair (g : Fin 32) (c a b : Bool) : changedCuts g c [a] ++ changedCuts g a [b] = changedCuts g c [a, b] := by
  simp [changedCuts]

theorem HandsCut.transHeld (h : HandsCut g c c' s t) (k : HandsCut g c' c' t u) : HandsCut g c c' s u := by
  refine ⟨?_, fun noted held => k.holds noted (h.holds noted held), fun m ne => (k.others m ne).trans (h.others m ne),
    k.groups.trans h.groups⟩
  have := h.takes.trans k.takes
  rwa [changedCuts_same, changedCuts_nil, List.append_nil] at this

theorem HandsCut.afterHeld (h : HandsCut g c c s t) (k : HandsCut g c c' t u) : HandsCut g c c' s u := by
  refine ⟨?_, fun noted held => k.holds noted (h.holds noted held), fun m ne => (k.others m ne).trans (h.others m ne),
    k.groups.trans h.groups⟩
  have := h.takes.trans k.takes
  rwa [changedCuts_same, changedCuts_nil, List.nil_append] at this

theorem JournalFrame.handsCut (h : JournalFrame s t) (g : Fin 32) (c : Bool) : HandsCut g c c s t :=
  handsCut_stay h.lineTakes (by rw [h.group])

theorem handsCut_modAuto (g : Fin 32) (c : Bool) (i : Fin 64) (f : AutoStrip → AutoStrip) (s : State) : HandsCut g c c s (modAuto i f s) :=
  handsCut_stay (enqueued_modAuto i f s).toLineTakes rfl

/-- A change of one group's records leaves the others. -/
theorem mem_map_other {f : Master → Master} (keep : ∀ m, (f m).group = m.group) {m : Master} (ne : m.group ≠ g) (l : List Master) :
    m ∈ l.map (fun x => if x.group = g then f x else x) ↔ m ∈ l := by
  rw [List.mem_map]
  constructor
  · rintro ⟨x, hx, same⟩
    by_cases own : x.group = g
    · rw [if_pos own] at same
      exact (ne (same ▸ (keep x).trans own)).elim
    · rw [if_neg own] at same
      exact same ▸ hx
  · exact fun hm => ⟨m, hm, if_neg ne⟩

/-- A strip that masters a group hands its master its mode cut when it is evaluated (R33). -/
theorem handsCut_evalStrip {noted : Int} (role : s.strips[i].role = .groupMaster g) (held : s.holds g c noted) :
    HandsCut g c s.strips[i].modeCut s (evalStrip i s) := by
  obtain ⟨m, found, cut, -⟩ := held
  rw [evalStrip_master role]
  generalize masterOffset s.strips[i].faderCode = offset
  generalize s.strips[i].modeCut = now
  have mastered := handMaster_mastered g offset now s
  refine ⟨cut ▸ (enqueued_handMaster found offset now).toLineTakes, fun noted held => ?_, fun x ne => ?_, groups_handMaster g offset now s⟩
  · obtain ⟨y, found', -, enqueued⟩ := held
    have master := master_modMaster (f := fun m => { m with offset := offset, cut := now }) (fun _ => rfl) g g s
    rw [found'] at master
    have same : (handMaster g offset now s).group.master g =
        (modMaster g (fun m => { m with offset := offset, cut := now }) s).group.master g := by
      rw [GroupLine.master, mastered]
      rfl
    have group : y.group = g := by simpa using List.find?_some found'
    refine ⟨{ y with offset := offset, cut := now }, ?_, rfl, enqueued⟩
    rw [same, master, Option.map_some, if_pos group]
  · rw [mastered]
    exact mem_map_other (f := fun m => { m with offset := offset, cut := now }) (fun _ => rfl) ne _

theorem handsCut_modEval {f : Strip → Strip} {noted : Int} (role : (f s.strips[i]).role = .groupMaster g) (held : s.holds g c noted) :
    HandsCut g c (f s.strips[i]).modeCut s (evalStrip i (modStrip i f s)) := by
  have own := modStrip_self i f s
  have handed := handsCut_evalStrip (s := modStrip i f s) (i := i) (by rw [own]; exact role) held
  rw [own] at handed
  exact (handsCut_stay (enqueued_modStrip i f s).toLineTakes rfl).afterHeld handed

/-! ### The mode cut through the hand-ons -/

theorem Strip.modeCut_eq {a b : Strip} (manual : b.manualCut = a.manualCut) (same : a.sameCut b) : b.modeCut = a.modeCut := by
  obtain ⟨source, cut⟩ := same
  rw [Strip.modeCut, Strip.modeCut, ← source, ← cut, manual]

theorem Strip.SameInputs.modeCut {a b : Strip} (h : Strip.SameInputs a b) : b.modeCut = a.modeCut :=
  Strip.modeCut_eq (by rw [h]) h.sameCut

theorem Strip.SameInputs.faderCode {a b : Strip} (h : Strip.SameInputs a b) : b.faderCode = a.faderCode := by
  rw [h]
  rfl

/-- A ridden strip whose cut is live takes its cut from the desk (R148). -/
theorem Strip.modeCut_live {st : Strip} {a : AutoStrip} (handed : st.cutHanded a) (mode : st.mode.ridden = true) (live : a.cutLive = true) :
    st.modeCut = st.manualCut := by
  obtain ⟨source, -⟩ := handed
  have unread : st.mode ≠ .read := fun read => by rw [read] at mode; cases mode
  have desk : st.cutSource = .desk := by
    cases held : st.cutSource with
    | desk => rfl
    | store =>
      obtain ⟨-, read | ⟨-, quiet⟩⟩ := source.mp held
      · exact (unread read).elim
      · exact nomatch live.symm.trans quiet
  rw [Strip.modeCut, desk]

theorem changeCut_modeCut (i : Fin 64) (s : State) : (changeCut i s).strips[i].modeCut =
    if s.strips[i].mode.ridden then s.strips[i].manualCut else s.strips[i].modeCut := by
  obtain ⟨-, record, ridden, unridden⟩ := changeCut_hands i s
  have desk : Strip.SameDesk s.strips[i] (changeCut i s).strips[i] := (ride_changeCut i s).strips i
  have manual : (changeCut i s).strips[i].manualCut = s.strips[i].manualCut := by rw [desk]
  cases mode : s.strips[i].mode.ridden with
  | true =>
    rw [Strip.modeCut_live (ridden mode) (by rw [desk.mode]; exact mode) (by rw [record, mode, Bool.or_true]), manual]
    rfl
  | false => exact Strip.modeCut_eq manual (unridden mode)

/-! ### Cut and mode changes of a master -/

theorem handsCut_changeCut {noted : Int} (role : s.strips[i].role = .groupMaster g) (held : s.holds g c noted) :
    HandsCut g c (changeCut i s).strips[i].modeCut s (changeCut i s) := by
  cases mode : s.strips[i].mode.ridden with
  | false =>
    rw [changeCut_modeCut, mode, changeCut_unridden mode]
    exact handsCut_evalStrip role held
  | true =>
    have live := handsCut_modAuto g c i (fun a => { a with cutLive := true }) s
    obtain ⟨-, cutHanded, -⟩ := cutTaken_hands i s
    have desk : Strip.SameDesk s.strips[i] (cutTaken i s).strips[i] := ((ride_modAuto i _ s).trans (ride_handCut i _)).strips i
    have cut : (cutTaken i s).strips[i].modeCut = s.strips[i].manualCut := by
      rw [Strip.modeCut_live cutHanded (by rw [desk.mode]; exact mode) rfl, desk]
    have strip := (modEval_keeps i (Strip.takeCut (modAuto i (fun a => { a with cutLive := true }) s).playback.strips[i])
      (modAuto i (fun a => { a with cutLive := true }) s)).1
    have handed : HandsCut g c (cutTaken i s).strips[i].modeCut s (cutTaken i s) := by
      refine live.afterHeld ?_
      have := handsCut_modEval (f := Strip.takeCut (modAuto i (fun a => { a with cutLive := true }) s).playback.strips[i])
        (s := modAuto i (fun a => { a with cutLive := true }) s) (i := i) (g := g) (by rw [Strip.sameDesk_takeCut]; exact role)
        (live.holds _ held)
      rw [← strip.modeCut] at this
      exact this
    rw [changeCut_modeCut, mode, if_pos rfl, changeCut_ridden mode]
    rw [cut] at handed
    split
    · exact handed
    · exact handed.transHeld ((journalFrame_punchIn _ _ _ _).handsCut g _)

theorem handsCut_handValues {noted : Int} (role : s.strips[i].role = .groupMaster g) (held : s.holds g s.strips[i].modeCut noted) :
    HandsCut g s.strips[i].modeCut (handValues i s).strips[i].modeCut s (handValues i s) := by
  have level := handsCut_modEval (f := Strip.takeLevel s.playback.strips[i]) (s := s) (i := i)
    (by rw [Strip.sameDesk_takeLevel]; exact role) held
  have same : (Strip.takeLevel s.playback.strips[i] s.strips[i]).modeCut = s.strips[i].modeCut :=
    Strip.modeCut_eq (by rw [Strip.sameDesk_takeLevel]) (Strip.sameCut_takeLevel _ _)
  rw [same] at level
  change HandsCut g _ _ s (handLevel i s) at level
  have desk : Strip.SameDesk s.strips[i] (handLevel i s).strips[i] := (ride_handLevel i s).strips i
  have cut := handsCut_modEval (f := Strip.takeCut (handLevel i s).playback.strips[i]) (s := handLevel i s) (i := i) (g := g)
    (by rw [Strip.sameDesk_takeCut, desk]; exact role) (level.holds noted held)
  have strip := (modEval_keeps i (Strip.takeCut (handLevel i s).playback.strips[i]) (handLevel i s)).1
  rw [← strip.modeCut] at cut
  exact level.afterHeld cut

theorem handsCut_changeMode {noted : Int} (role : s.strips[i].role = .groupMaster g) (held : s.holds g s.strips[i].modeCut noted) :
    HandsCut g s.strips[i].modeCut (changeMode i s).strips[i].modeCut s (changeMode i s) := by
  have frame := journalFrame_closePunches i s.playback.position s
  have remoded := (frame.handsCut g s.strips[i].modeCut).transHeld
    (handsCut_modAuto g _ i (AutoStrip.remoded s.strips[i].mode s.playback.position) _)
  have strips : (modAuto i (AutoStrip.remoded s.strips[i].mode s.playback.position) (closePunches i s.playback.position s)).strips =
      s.strips := frame.strips
  have handed := handsCut_handValues (i := i) (g := g) (noted := noted)
    (s := modAuto i (AutoStrip.remoded s.strips[i].mode s.playback.position) (closePunches i s.playback.position s))
    (by rw [strips]; exact role) (by rw [strips]; exact remoded.holds noted held)
  rw [strips] at handed
  have all : HandsCut g s.strips[i].modeCut (modeHanded i s).strips[i].modeCut s (modeHanded i s) := remoded.afterHeld handed
  have punches := journalFrame_punches i s.playback.position (modeHanded i s)
  rw [changeMode_eq, punches.strips]
  exact all.transHeld (punches.handsCut g _)

/-! ### An AUDIO strip leaves the group line alone -/

theorem group_evalStrip (role : s.strips[i].role = .audio) : (evalStrip i s).group = s.group := by
  rw [evalStrip_audio role, modStrip_group]

theorem group_modEval {f : Strip → Strip} (role : (f s.strips[i]).role = .audio) : (evalStrip i (modStrip i f s)).group = s.group := by
  rw [group_evalStrip (by rw [modStrip_self]; exact role), modStrip_group]

theorem group_handCut (role : s.strips[i].role = .audio) : (handCut i s).group = s.group :=
  group_modEval (by rw [Strip.sameDesk_takeCut]; exact role)

theorem group_handValues (role : s.strips[i].role = .audio) : (handValues i s).group = s.group := by
  have level : (handLevel i s).group = s.group := group_modEval (by rw [Strip.sameDesk_takeLevel]; exact role)
  have desk : Strip.SameDesk s.strips[i] (handLevel i s).strips[i] := (ride_handLevel i s).strips i
  exact (group_handCut (by rw [desk]; exact role)).trans level

theorem group_changeCut (role : s.strips[i].role = .audio) : (changeCut i s).group = s.group := by
  cases mode : s.strips[i].mode.ridden with
  | false => rw [changeCut_unridden mode, group_evalStrip role]
  | true =>
    have taken : (cutTaken i s).group = s.group := group_handCut (s := modAuto i (fun a => { a with cutLive := true }) s) role
    rw [changeCut_ridden mode]
    split
    · exact taken
    · exact (journalFrame_punchIn _ _ _ _).group.trans taken

theorem group_changeMode (role : s.strips[i].role = .audio) : (changeMode i s).group = s.group := by
  have frame := journalFrame_closePunches i s.playback.position s
  rw [changeMode_eq, (journalFrame_punches i _ _).group]
  refine (group_handValues ?_).trans frame.group
  rw [modAuto, State.setPlayback_strips, frame.strips]
  exact role

end Sys2Proof.Machine
end

section
/-! A WRITE STRIP's role: the mastered set a strip leaves and enters, and what that enqueues (R34, R101, R102, R106). -/

namespace Sys2Proof.Machine

variable {g : Fin 32} {s t u : State} {i : Fin 64} {d : StripData}

/-! ### Leaving a group -/

/-- The group line once a strip has left the group it no longer masters (R34, R102). -/
def leftLine (before after : Role) (g : GroupLine) : GroupLine :=
  match before with
  | .audio => g
  | .groupMaster h => if after = .groupMaster h then g else g.givenUp h

/-- The part with a strip's fields stored and the group it no longer masters left. -/
def roleLeft (i : Fin 64) (d : StripData) (s : State) : State :=
  if s.strips[i].role = d.role then modStrip i (Strip.store d) s
  else match s.strips[i].role with
    | .audio => modStrip i (Strip.store d) s
    | .groupMaster h =>
      let left := ceaseMaster h (modStrip i (Strip.store d) s)
      modStrip i (Strip.retune left.group.table left.group.soloLevel) left

theorem roleLeft_same (same : s.strips[i].role = d.role) : roleLeft i d s = modStrip i (Strip.store d) s := if_pos same

theorem roleLeft_audio (role : s.strips[i].role = .audio) : roleLeft i d s = modStrip i (Strip.store d) s := by
  unfold roleLeft
  rw [role]
  split <;> rfl

theorem roleLeft_master {h : Fin 32} (role : s.strips[i].role = .groupMaster h) (left : d.role ≠ .groupMaster h) :
    roleLeft i d s = modStrip i (Strip.retune (ceaseMaster h (modStrip i (Strip.store d) s)).group.table
      (ceaseMaster h (modStrip i (Strip.store d) s)).group.soloLevel) (ceaseMaster h (modStrip i (Strip.store d) s)) := by
  unfold roleLeft
  rw [role, if_neg (Ne.symm left)]

/-- A group given up leaves the queue and the mastered set (R34, R102). -/
theorem ceaseMaster_group (h : Fin 32) (s : State) : (ceaseMaster h s).group =
    { s.group.givenUp h with mastered := s.group.mastered.filter fun m => m.group != h } := by
  unfold ceaseMaster GroupLine.givenUp
  simp only [State.setGroup_group]
  congr 1
  refine List.filter_congr fun e _ => ?_
  obtain ⟨kind, number, value, inFlight⟩ := e
  cases kind <;> cases inFlight <;> simp [QueueEntry.key, MsgKind.isPass, bne, beq_eq_decide, Prod.ext_iff]

/-- What leaving a group makes of the part. -/
theorem roleLeft_keeps (i : Fin 64) (d : StripData) (s : State) :
    LineFrame (modStrip i (Strip.store d) s) (roleLeft i d s) ∧ (roleLeft i d s).control = s.control ∧
    (roleLeft i d s).group = { leftLine s.strips[i].role d.role s.group with mastered := (roleLeft i d s).group.mastered } ∧
    ∀ m : Master, m ∈ (roleLeft i d s).group.mastered ↔
      m ∈ s.group.mastered ∧ (s.strips[i].role = .groupMaster m.group → d.role = .groupMaster m.group) := by
  cases role : s.strips[i].role with
  | audio =>
    rw [roleLeft_audio role]
    exact ⟨.refl _, rfl, rfl, fun m => by rw [modStrip_group]; simp⟩
  | groupMaster h =>
    by_cases same : d.role = .groupMaster h
    · rw [roleLeft_same (role.trans same.symm), leftLine, if_pos same]
      refine ⟨.refl _, rfl, rfl, fun m => ?_⟩
      rw [modStrip_group]
      exact (and_iff_left fun own => own ▸ same).symm
    · rw [roleLeft_master role same, leftLine, if_neg same]
      have group := ceaseMaster_group h (modStrip i (Strip.store d) s)
      refine ⟨(lineFrame_ceaseMaster h _).trans (lineFrame_retuneOne i _), rfl, ?_, fun m => ?_⟩
      · rw [modStrip_group, group]
        rfl
      · rw [modStrip_group, group]
        simp only [List.mem_filter, bne_iff_ne, ne_eq, Role.groupMaster.injEq, modStrip_group]
        refine and_congr_right fun _ => ⟨fun ne own => (ne own.symm).elim, fun keep own => ?_⟩
        exact same (own ▸ keep own.symm)

/-! ### Entering a group -/

/-- What entering a group enqueues: its level, then its cut (R34, R102, log entry 44). -/
def entering (g : Fin 32) (offset : Int) (cut : Bool) : List (MsgKind × Nat × Int) :=
  [(.groupLevel, g.val, offset), (.groupCut, g.val, cutValue cut)]

theorem mem_insertMaster_other (x : Master) {m : Master} (ne : m.group ≠ x.group) (l : List Master) : m ∈ insertMaster x l ↔ m ∈ l := by
  have apart : m ≠ x := fun same => ne (congrArg Master.group same)
  induction l with
  | nil => simp [insertMaster, apart]
  | cons y rest ih =>
    unfold insertMaster
    split
    · simp [apart]
    · split
      · next own =>
        have other : m ≠ y := fun same => ne (same ▸ own.symm)
        simp [apart, other]
      · simp [ih]

theorem becomeMaster_takes (i : Fin 64) (g : Fin 32) (s : State) :
    LineTakes s (becomeMaster i g s) (entering g (masterOffset s.strips[i].faderCode) s.strips[i].modeCut) ∧
    (becomeMaster i g s).control = s.control ∧
    (becomeMaster i g s).holds g s.strips[i].modeCut (masterOffset s.strips[i].faderCode) ∧
    (∀ m : Master, m.group ≠ g → (m ∈ (becomeMaster i g s).group.mastered ↔ m ∈ s.group.mastered)) ∧
    ∀ k : Fin 32, k ∈ (becomeMaster i g s).group.mastered.map Master.group ↔ k = g ∨ k ∈ s.group.mastered.map Master.group := by
  unfold becomeMaster
  dsimp only
  generalize masterOffset s.strips[i].faderCode = offset
  generalize s.strips[i].modeCut = cut
  have entered : Enqueued s (s.setGroup { s.group with mastered := insertMaster ⟨g, offset, cut, offset⟩ s.group.mastered }) [] :=
    enqueued_nil (inner_setGroup s _) rfl rfl
  have found : (s.setGroup { s.group with mastered := insertMaster ⟨g, offset, cut, offset⟩ s.group.mastered }).group.master g =
      some ⟨g, offset, cut, offset⟩ := by
    rw [GroupLine.master, State.setGroup_group, find?_insertMaster, if_pos rfl]
  have mastered : (s.setGroup { s.group with mastered := insertMaster ⟨g, offset, cut, offset⟩ s.group.mastered }).group.mastered =
      insertMaster ⟨g, offset, cut, offset⟩ s.group.mastered := rfl
  generalize s.setGroup { s.group with mastered := insertMaster ⟨g, offset, cut, offset⟩ s.group.mastered } = v at *
  have refreshed := enqueued_refreshGroup found
  have after := refreshGroup_mastered g v
  have all := entered.trans refreshed
  refine ⟨all.toLineTakes, all.control, ?_, fun m ne => ?_, fun k => ?_⟩
  · have master := master_modMaster (f := fun m => { m with enqueued := m.offset }) (fun _ => rfl) g g v
    have same : (refreshGroup g v).group.master g = (modMaster g (fun m => { m with enqueued := m.offset }) v).group.master g := by
      rw [GroupLine.master, after]
      rfl
    rw [found] at master
    exact ⟨_, same.trans master, by simp, by simp⟩
  · rw [after, mem_map_other (f := fun m => { m with enqueued := m.offset }) (fun _ => rfl) ne, mastered]
    exact mem_insertMaster_other _ ne _
  · rw [(tuneFrame_refreshGroup g v).groups, mastered, mem_groups_insertMaster]

/-! ### The role of a write -/

/-- The part once a WRITE STRIP's fields are stored and its role is handed on (log entry 14). -/
def roleTaken (i : Fin 64) (d : StripData) (s : State) : State :=
  if s.strips[i].role = d.role then modStrip i (Strip.store d) s else changeRole i s.strips[i].role (modStrip i (Strip.store d) s)

theorem roleTaken_left (h : d.role = .audio ∨ s.strips[i].role = d.role) : roleTaken i d s = roleLeft i d s := by
  unfold roleTaken
  by_cases same : s.strips[i].role = d.role
  · rw [if_pos same, roleLeft_same same]
  · have audio := h.resolve_right same
    rw [if_neg same]
    unfold changeRole
    cases role : s.strips[i].role with
    | audio => exact (same (role.trans audio.symm)).elim
    | groupMaster k =>
      have left := roleLeft_master (i := i) (d := d) (s := s) role (by rw [audio]; exact fun absurd => nomatch absurd)
      have frame := (roleLeft_keeps i d s).1.strips i
      rw [left, modStrip_self i (Strip.store d)] at frame
      dsimp only
      rw [frame.role, left]
      have stored : ((s.strips[i]).store d).role = .audio := audio
      rw [stored]

theorem roleTaken_enters (role : d.role = .groupMaster g) (before : s.strips[i].role ≠ .groupMaster g) :
    roleTaken i d s = becomeMaster i g (roleLeft i d s) := by
  have changed : ¬ s.strips[i].role = d.role := fun same => before (same.trans role)
  have frame := (roleLeft_keeps i d s).1.strips i
  rw [modStrip_self] at frame
  have now : (roleLeft i d s).strips[i].role = .groupMaster g := frame.role.trans role
  unfold roleTaken
  rw [if_neg changed]
  unfold changeRole
  cases was : s.strips[i].role with
  | audio =>
    rw [roleLeft_audio was] at now ⊢
    dsimp only
    rw [now]
  | groupMaster k =>
    rw [roleLeft_master was (by rw [role, ← was]; exact before.symm)] at now ⊢
    dsimp only
    rw [now]

/-- Storing and handing on the role leaves the journal, the records and the causes, and every strip but the written one. -/
theorem roleTaken_frame (i : Fin 64) (d : StripData) (s : State) :
    LineFrame (modStrip i (Strip.store d) s) (roleTaken i d s) ∧ (roleTaken i d s).control = s.control ∧
    (roleTaken i d s).group.soloLevel = s.group.soloLevel := by
  obtain ⟨frame, control, line, -⟩ := roleLeft_keeps i d s
  have solo : (roleLeft i d s).group.soloLevel = s.group.soloLevel := by
    rw [line]
    unfold leftLine
    split
    · rfl
    · split <;> rfl
  cases role : d.role with
  | audio =>
    rw [roleTaken_left (.inl role)]
    exact ⟨frame, control, solo⟩
  | groupMaster g =>
    by_cases before : s.strips[i].role = .groupMaster g
    · rw [roleTaken_left (.inr (before.trans role.symm))]
      exact ⟨frame, control, solo⟩
    · rw [roleTaken_enters role before]
      obtain ⟨takes, raised, -⟩ := becomeMaster_takes i g (roleLeft i d s)
      exact ⟨frame.trans (lineFrame_becomeMaster i g _), raised.trans control, takes.solo.trans solo⟩

end Sys2Proof.Machine
end

section
/-! The hand-ons of a WRITE STRIP after its role: manual cut, inputs and mode, in that order (R35, log entry 14). -/

namespace Sys2Proof.Machine

variable {g : Fin 32} {c : Bool} {s t : State} {i : Fin 64} {d : StripData}

/-- The part once the manual cut of a WRITE STRIP is handed on. -/
def manualTaken (i : Fin 64) (d : StripData) (s : State) : State :=
  if s.strips[i].manualCut = d.manualCut then roleTaken i d s else changeCut i (roleTaken i d s)

/-- The part once the inputs of a WRITE STRIP are handed on, before its mode is. -/
def inputsTaken (i : Fin 64) (d : StripData) (s : State) : State :=
  if s.strips[i].inputsDiffer (s.strips[i].store d) then evalStrip i (manualTaken i d s) else manualTaken i d s

theorem writeStripWork_eq (i : Fin 64) (d : StripData) (s : State) : writeStripWork i d s =
    if s.strips[i].mode = d.mode then inputsTaken i d s else changeMode i (inputsTaken i d s) := by
  unfold writeStripWork inputsTaken manualTaken roleTaken
  dsimp only
  rw [modStrip_self]
  rfl

/-- Whether a write hands on a new manual cut as a live one (R148). -/
def cutHandedOn (before : Strip) (d : StripData) : Bool := before.manualCut != d.manualCut && d.mode.ridden

/-! ### The strip before its inputs are handed on -/

theorem roleTaken_strip (i : Fin 64) (d : StripData) (s : State) : Strip.SameInputs (s.strips[i].store d) (roleTaken i d s).strips[i] := by
  have strip := (roleTaken_frame i d s).1.strips i
  rwa [modStrip_self] at strip

theorem manualTaken_ride (i : Fin 64) (d : StripData) (s : State) : RideFrame (modStrip i (Strip.store d) s) (manualTaken i d s) := by
  have role := (roleTaken_frame i d s).1.ride
  unfold manualTaken
  split
  · exact role
  · exact role.trans (ride_changeCut i _)

theorem inputsTaken_ride (i : Fin 64) (d : StripData) (s : State) : RideFrame (modStrip i (Strip.store d) s) (inputsTaken i d s) := by
  have manual := manualTaken_ride i d s
  unfold inputsTaken
  split
  · exact manual.trans (ride_evalStrip i _)
  · exact manual

theorem inputsTaken_strip (i : Fin 64) (d : StripData) (s : State) : Strip.SameDesk (s.strips[i].store d) (inputsTaken i d s).strips[i] := by
  have strip := (inputsTaken_ride i d s).strips i
  rwa [modStrip_self] at strip

/-! ### Records and sources -/

/-- What handing on role, manual cut and inputs makes of the written strip's record and sources, and what it records (R148, R157). -/
structure InputsTaken (i : Fin 64) (d : StripData) (s t : State) : Prop where
  others : SparesOthers i s t
  record : t.playback.strips[i] = { s.playback.strips[i] with
    cutLive := s.playback.strips[i].cutLive || cutHandedOn s.strips[i] d }
  level : s.strips[i].sameLevel t.strips[i]
  cutLive : cutHandedOn s.strips[i] d = true → t.strips[i].cutHanded t.playback.strips[i]
  cutStill : cutHandedOn s.strips[i] d = false → s.strips[i].sameCut t.strips[i]
  recorded : Recorded s t (if cutHandedOn s.strips[i] d && !s.playback.strips[i].cutLive && s.recordingNow && !s.pass.isOpen i .cut then
    opening i .cut s.playback.position (.cut d.manualCut) else [])

theorem roleTaken_stands (i : Fin 64) (d : StripData) (s : State) :
    SparesOthers i s (roleTaken i d s) ∧ (roleTaken i d s).playback = s.playback ∧ s.strips[i].sameLevel (roleTaken i d s).strips[i] ∧
    s.strips[i].sameCut (roleTaken i d s).strips[i] ∧ Recorded s (roleTaken i d s) [] := by
  obtain ⟨frame, control, -⟩ := roleTaken_frame i d s
  have strip := roleTaken_strip i d s
  have level : s.strips[i].sameLevel (s.strips[i].store d) := ⟨rfl, rfl⟩
  have cut : s.strips[i].sameCut (s.strips[i].store d) := ⟨rfl, rfl⟩
  exact ⟨(sparesOthers_modStrip i _ s).trans (frame.sparesOthers i), frame.playback, level.trans strip.sameLevel,
    cut.trans strip.sameCut, recorded_nil frame.pass control⟩

theorem manualTaken_taken (i : Fin 64) (d : StripData) (s : State) : InputsTaken i d s (manualTaken i d s) := by
  obtain ⟨others, playback, level, cut, recorded⟩ := roleTaken_stands i d s
  have strip := roleTaken_strip i d s
  have mode : (roleTaken i d s).strips[i].mode = d.mode := by rw [strip]; rfl
  have manual : (roleTaken i d s).strips[i].manualCut = d.manualCut := by rw [strip]; rfl
  have pass : (roleTaken i d s).pass = s.pass := recorded.pass
  unfold manualTaken
  by_cases same : s.strips[i].manualCut = d.manualCut
  · have still : cutHandedOn s.strips[i] d = false := by rw [cutHandedOn, same, bne_self_eq_false, Bool.false_and]
    rw [if_pos same]
    refine ⟨others, ?_, level, (fun on => nomatch still.symm.trans on), fun _ => cut, ?_⟩
    · rw [playback, still, Bool.or_false]
    · rw [still]
      exact recorded
  · have handed : cutHandedOn s.strips[i] d = d.mode.ridden := by rw [cutHandedOn, bne_iff_ne.mpr same, Bool.true_and]
    obtain ⟨sameLevel, record, ridden, unridden⟩ := changeCut_hands i (roleTaken i d s)
    have changed := recorded.trans (recorded_changeCut i (roleTaken i d s))
    have recording : (roleTaken i d s).recordingNow = s.recordingNow := by
      rw [State.recordingNow, pass, playback, State.recordingNow]
    rw [mode] at record ridden unridden changed
    rw [playback] at record changed
    rw [manual, recording, pass] at changed
    rw [if_neg same]
    rw [← handed] at record ridden unridden changed
    exact ⟨others.trans (sparesOthers_changeCut i _), record, level.trans sameLevel, ridden, fun still => cut.trans (unridden still), changed⟩

theorem inputsTaken_taken (i : Fin 64) (d : StripData) (s : State) : InputsTaken i d s (inputsTaken i d s) := by
  have manual := manualTaken_taken i d s
  unfold inputsTaken
  split
  · have frame := lineFrame_evalStrip i (manualTaken i d s)
    have quiet : Recorded (manualTaken i d s) (evalStrip i (manualTaken i d s)) [] :=
      recorded_nil frame.pass (lineStep_evalStrip i _).control
    refine ⟨manual.others.trans (frame.sparesOthers i), ?_, manual.level.trans (frame.strips i).sameLevel, fun on => ?_,
      fun still => (manual.cutStill still).trans (frame.strips i).sameCut, ?_⟩
    · rw [frame.playback]
      exact manual.record
    · rw [frame.playback]
      exact Strip.cutHanded_congr (frame.strips i).sameCut (frame.strips i).desk.mode (manual.cutLive on)
    · have all := manual.recorded.trans quiet
      rwa [List.append_nil] at all
  · exact manual

/-! ### The group line -/

theorem roleTaken_role (i : Fin 64) (d : StripData) (s : State) : (roleTaken i d s).strips[i].role = d.role :=
  (roleTaken_strip i d s).role

theorem roleTaken_modeCut (i : Fin 64) (d : StripData) (s : State) :
    (roleTaken i d s).strips[i].modeCut = (s.strips[i].store d).modeCut := (roleTaken_strip i d s).modeCut

/-- Where the manual cut is not written anew the mode cut stands. -/
theorem modeCut_store (same : s.strips[i].manualCut = d.manualCut) : (s.strips[i].store d).modeCut = s.strips[i].modeCut :=
  Strip.modeCut_eq same.symm ⟨rfl, rfl⟩

theorem manualTaken_role (i : Fin 64) (d : StripData) (s : State) : (manualTaken i d s).strips[i].role = d.role := by
  have strip := (manualTaken_ride i d s).strips i
  rw [modStrip_self] at strip
  rw [strip]
  rfl

/-- The mode cut once manual cut and inputs are handed on. -/
theorem inputsTaken_modeCut (i : Fin 64) (d : StripData) (s : State) : (inputsTaken i d s).strips[i].modeCut =
    if cutHandedOn s.strips[i] d then d.manualCut else (s.strips[i].store d).modeCut := by
  have taken := inputsTaken_taken i d s
  have desk := inputsTaken_strip i d s
  have manual : (inputsTaken i d s).strips[i].manualCut = d.manualCut := by rw [desk]; rfl
  cases handed : cutHandedOn s.strips[i] d with
  | true =>
    obtain ⟨-, mode⟩ := (Bool.and_eq_true _ _).mp handed
    have live : (inputsTaken i d s).playback.strips[i].cutLive = true := by rw [taken.record, handed, Bool.or_true]
    rw [Strip.modeCut_live (taken.cutLive handed) (by rw [desk.mode]; exact mode) live, manual]
    rfl
  | false => exact Strip.modeCut_eq (a := s.strips[i].store d) manual (taken.cutStill handed)

theorem evalStrip_modeCut (i : Fin 64) (s : State) : (evalStrip i s).strips[i].modeCut = s.strips[i].modeCut :=
  ((lineFrame_evalStrip i s).strips i).modeCut

/-- The master of a written strip is handed the mode cut that manual cut and inputs leave (R33). -/
theorem handsCut_inputsTaken {noted : Int} (role : d.role = .groupMaster g) (held : (roleTaken i d s).holds g c noted)
    (still : s.strips[i].manualCut = d.manualCut → c = (s.strips[i].store d).modeCut) :
    HandsCut g c (inputsTaken i d s).strips[i].modeCut (roleTaken i d s) (inputsTaken i d s) := by
  have manual : HandsCut g c (manualTaken i d s).strips[i].modeCut (roleTaken i d s) (manualTaken i d s) := by
    unfold manualTaken
    split
    · next same =>
      rw [roleTaken_modeCut, ← still same]
      exact .refl g c _
    · exact handsCut_changeCut ((roleTaken_role i d s).trans role) held
  unfold inputsTaken
  split
  · have evaluated := handsCut_evalStrip ((manualTaken_role i d s).trans role) (manual.holds noted held)
    rw [evalStrip_modeCut]
    exact manual.transHeld evaluated
  · exact manual

theorem group_inputsTaken (role : d.role = .audio) : (inputsTaken i d s).group = (roleTaken i d s).group := by
  have manual : (manualTaken i d s).group = (roleTaken i d s).group := by
    unfold manualTaken
    split
    · rfl
    · exact group_changeCut ((roleTaken_role i d s).trans role)
  unfold inputsTaken
  split
  · rw [group_evalStrip ((manualTaken_role i d s).trans role), manual]
  · exact manual

theorem group_writeStripWork (role : d.role = .audio) : (writeStripWork i d s).group = (roleTaken i d s).group := by
  rw [writeStripWork_eq]
  split
  · exact group_inputsTaken role
  · have desk := inputsTaken_strip i d s
    rw [group_changeMode (by rw [desk]; exact role), group_inputsTaken role]

/-- What a WRITE STRIP makes of the master of a strip that masters a group, once its role is taken. -/
theorem handsCut_writeStripWork {noted : Int} (role : d.role = .groupMaster g) (held : (roleTaken i d s).holds g c noted)
    (still : s.strips[i].manualCut = d.manualCut → c = (s.strips[i].store d).modeCut) :
    let a := if cutHandedOn s.strips[i] d then d.manualCut else (s.strips[i].store d).modeCut
    let t := writeStripWork i d s
    LineTakes (roleTaken i d s) t (changedCuts g c [a, t.strips[i].modeCut]) ∧ t.holds g t.strips[i].modeCut noted ∧
    (∀ m : Master, m.group ≠ g → (m ∈ t.group.mastered ↔ m ∈ (roleTaken i d s).group.mastered)) ∧
    t.group.mastered.map Master.group = (roleTaken i d s).group.mastered.map Master.group := by
  intro a t
  have first := handsCut_inputsTaken role held still
  have second : HandsCut g (inputsTaken i d s).strips[i].modeCut t.strips[i].modeCut (inputsTaken i d s) t := by
    have desk := inputsTaken_strip i d s
    by_cases same : s.strips[i].mode = d.mode
    · have eq : t = inputsTaken i d s := by rw [show t = writeStripWork i d s from rfl, writeStripWork_eq, if_pos same]
      rw [eq]
      exact .refl g _ _
    · have eq : t = changeMode i (inputsTaken i d s) := by rw [show t = writeStripWork i d s from rfl, writeStripWork_eq, if_neg same]
      rw [eq]
      exact handsCut_changeMode (by rw [desk]; exact role) (first.holds noted held)
  have takes := first.takes.trans second.takes
  rw [changedCuts_pair, inputsTaken_modeCut] at takes
  exact ⟨takes, second.holds noted (first.holds noted held), fun m ne => (second.others m ne).trans (first.others m ne),
    second.groups.trans first.groups⟩

/-- The solo level held is no matter of a WRITE STRIP. -/
theorem solo_writeStripWork (i : Fin 64) (d : StripData) (s : State) : (writeStripWork i d s).group.soloLevel = s.group.soloLevel := by
  have step {u v : State} (h : LineStep u v) : v.group.soloLevel = u.group.soloLevel := by
    obtain ⟨⟨values, moved⟩, -⟩ := h
    exact moved.solo
  have punched {u v : State} (h : JournalFrame u v) : v.group.soloLevel = u.group.soloLevel := by rw [h.group]
  have cut (u : State) : (changeCut i u).group.soloLevel = u.group.soloLevel := by
    cases mode : u.strips[i].mode.ridden with
    | false => rw [changeCut_unridden mode]; exact step (lineStep_evalStrip i u)
    | true =>
      have taken : (cutTaken i u).group.soloLevel = u.group.soloLevel :=
        step ((lineStep_modAuto i (fun a => { a with cutLive := true }) u).trans (lineStep_modEval i (Strip.takeCut _) _))
      rw [changeCut_ridden mode]
      split
      · exact taken
      · exact (punched (journalFrame_punchIn _ _ _ _)).trans taken
  have modeSolo (u : State) : (changeMode i u).group.soloLevel = u.group.soloLevel := by
    have handed : (modeHanded i u).group.soloLevel = (closePunches i u.playback.position u).group.soloLevel :=
      step ((lineStep_modAuto i _ _).trans (lineStep_handValues i _))
    rw [changeMode_eq, punched (journalFrame_punches i _ _), handed, punched (journalFrame_closePunches i _ u)]
  have role := (roleTaken_frame i d s).2.2
  have manual : (manualTaken i d s).group.soloLevel = s.group.soloLevel := by
    unfold manualTaken
    split
    · exact role
    · exact (cut _).trans role
  have inputs : (inputsTaken i d s).group.soloLevel = s.group.soloLevel := by
    unfold inputsTaken
    split
    · exact (step (lineStep_evalStrip i _)).trans manual
    · exact manual
  rw [writeStripWork_eq]
  split
  · exact inputs
  · exact (modeSolo _).trans inputs

end Sys2Proof.Machine
end

section
/-! What a WRITE STRIP makes of the records, the sources and the journal (R144, R146, R148, R157, R159). -/

namespace Sys2Proof.Machine

variable {s t : State} {i : Fin 64} {d : StripData}

theorem SparesOthers.playback (h : SparesOthers i s t) : t.playback = { s.playback with strips := t.playback.strips } := by
  obtain ⟨j, other⟩ := exists_ne i
  exact (h j other).playback

theorem writeStripWork_same (same : s.strips[i].mode = d.mode) : writeStripWork i d s = inputsTaken i d s := by
  rw [writeStripWork_eq, if_pos same]

theorem writeStripWork_changed (changed : s.strips[i].mode ≠ d.mode) : writeStripWork i d s = changeMode i (inputsTaken i d s) := by
  rw [writeStripWork_eq, if_neg changed]

theorem sparesOthers_writeStripWork (i : Fin 64) (d : StripData) (s : State) : SparesOthers i s (writeStripWork i d s) := by
  have inputs := (inputsTaken_taken i d s).others
  rw [writeStripWork_eq]
  split
  · exact inputs
  · exact inputs.trans (sparesOthers_changeMode i _)

/-- A mode that is written as it was: only a new manual cut touches record and sources (R148). -/
theorem writeStripWork_unmoded (same : s.strips[i].mode = d.mode) : InputsTaken i d s (writeStripWork i d s) := by
  rw [writeStripWork_same same]
  exact inputsTaken_taken i d s

theorem remoded_inputs {a : AutoStrip} {live : Bool} (mode : Mode) (position : Nat) :
    ({ a with cutLive := live } : AutoStrip).remoded mode position =
      { (if mode.reads then a.readAt position else a) with phase := if mode.ridden && a.touched then .live else .follow, cutLive := false } := by
  unfold AutoStrip.remoded
  cases mode.reads <;> rfl

/-- A changed mode: glide, latch and live cut end, the strip is read where its mode reads, and is handed level and cut (R144, R146). -/
theorem writeStripWork_moded (changed : s.strips[i].mode ≠ d.mode) :
    let t := writeStripWork i d s
    t.playback.strips[i] = { (if d.mode.reads then s.readingOf i else s.playback.strips[i]) with
      phase := if d.mode.ridden && s.playback.strips[i].touched then .live else .follow, cutLive := false } ∧
    t.strips[i].levelHanded t.playback.strips[i] ∧ t.strips[i].cutHanded t.playback.strips[i] ∧
    (t.strips[i].levelSource = .desk → t.strips[i].storeLevel = s.strips[i].storeLevel) := by
  have taken := inputsTaken_taken i d s
  have mode : (inputsTaken i d s).strips[i].mode = d.mode := by rw [inputsTaken_strip]; rfl
  have position : (inputsTaken i d s).playback.position = s.playback.position := by rw [taken.others.playback]
  obtain ⟨record, level, cut, desk⟩ := changeMode_hands i (inputsTaken i d s)
  dsimp only
  rw [writeStripWork_changed changed, record]
  rw [mode, position, taken.record, remoded_inputs] at record level cut ⊢
  exact ⟨rfl, level, cut, fun source => (desk source).trans taken.level.2.symm⟩

/-! ### The journal -/

/-- The records a WRITE STRIP offers, read off the part before and after (R156, R157, R159). -/
def writeRecords (i : Fin 64) (d : StripData) (s t : State) : List Record :=
  let liveCut := cutHandedOn s.strips[i] d && !s.playback.strips[i].cutLive && s.recordingNow && !s.pass.isOpen i .cut
  let position := s.playback.position
  (if liveCut then opening i .cut position (.cut d.manualCut) else []) ++
    (if s.strips[i].mode = d.mode then [] else
      s.pass.closing i .level position (t.deskValue i .level) ++
      (if liveCut then [.punchOut i .cut position] else s.pass.closing i .cut position (.cut d.manualCut)) ++
      bothKinds fun k => if s.recordingNow && t.liveForRecording i k then opening i k position (t.deskValue i k) else [])

theorem Recorded.congr {first second : List Record} (h : Recorded s t first) (offers : s.pass.offers second = s.pass.offers first)
    (refuses : s.pass.refusesSome second = s.pass.refusesSome first) : Recorded s t second :=
  ⟨offers ▸ h.pass, refuses ▸ h.causes⟩

/-- A cut that a write makes live and closes again: its closing is the PUNCH OUT alone. -/
theorem recorded_liveClosed {code : Nat} {on : Bool} {rest : List Record} (closed : s.pass.isOpen i .cut = false) (position : Nat)
    (h : Recorded s t (opening i .cut position (.cut on) ++ (s.pass.closing i .level position (.level code false) ++
      (((s.pass.offers (opening i .cut position (.cut on))).offers (s.pass.closing i .level position (.level code false))).closing i .cut
        position (.cut on)) ++ rest))) :
    Recorded s t (opening i .cut position (.cut on) ++ (s.pass.closing i .level position (.level code false) ++
      [.punchOut i .cut position] ++ rest)) := by
  obtain ⟨offers, refuses⟩ := closing_opened closed position on code false
  refine h.congr ?_ ?_
  · simp only [Pass.offers_append] at offers ⊢
    rw [offers]
  · simp only [Pass.refusesSome_append, Pass.offers_append] at offers refuses ⊢
    rw [offers]
    rcases refuses with refused | same
    · rw [refused]
      simp
    · rw [same]

theorem recorded_writeStripWork (i : Fin 64) (d : StripData) (s : State) :
    Recorded s (writeStripWork i d s) (writeRecords i d s (writeStripWork i d s)) := by
  have taken := inputsTaken_taken i d s
  by_cases same : s.strips[i].mode = d.mode
  · rw [writeStripWork_same same, writeRecords, if_pos same, List.append_nil]
    exact taken.recorded
  · rw [writeStripWork_changed same]
    have recorded := recorded_changeMode i (inputsTaken i d s)
    have desk (k : Kind) := Strip.SameDesk.deskValue ((ride_changeMode i (inputsTaken i d s)).strips i) k
    have manual : (inputsTaken i d s).deskValue i .cut = .cut d.manualCut := by
      rw [State.deskValue, inputsTaken_strip]
      rfl
    have position : (inputsTaken i d s).playback.position = s.playback.position := by rw [taken.others.playback]
    have transport : (inputsTaken i d s).playback.transport = s.playback.transport := by rw [taken.others.playback]
    have first := taken.recorded
    generalize inputsTaken i d s = v at *
    generalize changeMode i v = w at *
    have state : v.pass.state = s.pass.state := by rw [first.pass, Pass.offers_state]
    have recording : v.recordingNow = s.recordingNow := by rw [State.recordingNow, state, transport, State.recordingNow]
    have spared : Pass.samePunch i .level s.pass v.pass := by
      rw [first.pass]
      refine Pass.offers_other _ fun r hr => ?_
      split at hr
      · rw [punchKind_opening (kind := .cut) rfl r hr]
        decide
      · cases hr
    have spaced : (v.deskValue i .level).kind = .level := deskValue_kind v i .level
    rw [position, recording, spared.closing spaced, manual] at recorded
    simp only [← desk] at recorded
    have all := first.trans recorded
    unfold writeRecords
    dsimp only
    rw [if_neg same]
    cases live : cutHandedOn s.strips[i] d && !s.playback.strips[i].cutLive && s.recordingNow && !s.pass.isOpen i .cut with
    | false =>
      rw [live] at first all
      have pass : v.pass = s.pass := first.pass
      rw [pass] at all
      exact all
    | true =>
      rw [live] at first all
      have closed : s.pass.isOpen i .cut = false := by
        simp only [Bool.and_eq_true, Bool.not_eq_true'] at live
        exact live.2
      have still : Pass.samePunch i .cut v.pass (v.pass.offers (s.pass.closing i .level s.playback.position (w.deskValue i .level))) := by
        refine Pass.offers_other _ fun r hr => ?_
        rw [punchKind_closing (kind := .level) rfl r hr]
        decide
      rw [← still.closing rfl, first.pass] at all
      exact recorded_liveClosed closed s.playback.position all

/-- No record joins or leaves a store in a WRITE STRIP. -/
theorem storeCount_writeStripWork (i : Fin 64) (d : StripData) (s : State) : (writeStripWork i d s).storeCount = s.storeCount := by
  have moves (j : Fin 64) : (writeStripWork i d s).playback.strips[j].levelMoves = s.playback.strips[j].levelMoves ∧
      (writeStripWork i d s).playback.strips[j].cutMoves = s.playback.strips[j].cutMoves := by
    by_cases own : j = i
    · subst own
      by_cases same : s.strips[j].mode = d.mode
      · rw [(writeStripWork_unmoded same).record]
        exact ⟨rfl, rfl⟩
      · rw [(writeStripWork_moded same).1]
        cases d.mode.reads <;> exact ⟨rfl, rfl⟩
    · rw [(sparesOthers_writeStripWork i d s j own).auto]
      exact ⟨rfl, rfl⟩
  unfold State.storeCount
  congr 1
  refine List.map_congr_left fun j _ => ?_
  rw [(moves j).1, (moves j).2]

end Sys2Proof.Machine
end

section
/-! What the group line takes of a WRITE STRIP (R33, R34, R101, R102, R106). -/

namespace Sys2Proof.Machine

variable {g : Fin 32} {s t u : State} {i : Fin 64} {d : StripData}

/-! ### The table of a listen-only station (R106) -/

theorem takeAll_changedCuts {slot : Fin 16} (offset : Int) (c a : Bool) :
    (⟨offset, c, some slot, true⟩ : TableEntry).takeAll g slot (changedCuts g c [a]) = ⟨offset, a, some slot, true⟩ := by
  by_cases same : c = a
  · rw [same, changedCuts_same]
    rfl
  · have changed : changedCuts g c [a] = [(.groupCut, g.val, cutValue a)] := by simp [changedCuts, same]
    rw [changed, takeAll_cut]

theorem takeAll_entering {slot : Fin 16} (offset : Int) (c a b : Bool) (e : TableEntry) :
    e.takeAll g slot (entering g offset c ++ changedCuts g c [a, b]) = ⟨max (-1020) (min 120 offset), b, some slot, true⟩ := by
  have entered : e.takeAll g slot (entering g offset c) = ⟨max (-1020) (min 120 offset), c, some slot, true⟩ := by
    cases c <;> simp [entering, TableEntry.takeAll, cutValue]
  rw [← changedCuts_pair, takeAll_append, takeAll_append, entered, takeAll_changedCuts, takeAll_changedCuts]

/-! ### The send queue of a driving station (R101) -/

theorem mem_enqueueValue {q : List (MsgKind × Nat × Int)} {kind : MsgKind} {number : Nat} (value : Int)
    (room : q.length < kind.room ∨ q.any (sendsKey kind number) = true) : (kind, number, value) ∈ enqueueValue q (kind, number, value) := by
  unfold enqueueValue
  dsimp only
  split
  · next present =>
    obtain ⟨v, hv, key⟩ := List.any_eq_true.mp present
    exact List.mem_map.mpr ⟨v, hv, if_pos key⟩
  · next absent =>
    have short := room.resolve_right absent
    rw [if_neg (by omega)]
    exact List.mem_append_right q (List.mem_singleton.mpr rfl)

theorem mem_enqueueValue_other {q : List (MsgKind × Nat × Int)} {kind : MsgKind} {number : Nat} {v : MsgKind × Nat × Int} (value : Int)
    (hv : v ∈ q) (other : sendsKey kind number v = false) : v ∈ enqueueValue q (kind, number, value) := by
  unfold enqueueValue
  dsimp only
  split
  · exact List.mem_map.mpr ⟨v, hv, if_neg (by rw [other]; exact Bool.false_ne_true)⟩
  · split
    · exact hv
    · exact List.mem_append_left _ hv

theorem length_enqueueValue (q : List (MsgKind × Nat × Int)) (v : MsgKind × Nat × Int) : (enqueueValue q v).length ≤ q.length + 1 := by
  obtain ⟨kind, number, value⟩ := v
  unfold enqueueValue
  dsimp only
  split
  · simp
  · split <;> simp

/-- The queue holds a group's level and cut with these values. -/
def sendsBoth (g : Fin 32) (offset : Int) (cut : Bool) (q : List (MsgKind × Nat × Int)) : Prop :=
  (.groupLevel, g.val, offset) ∈ q ∧ (.groupCut, g.val, cutValue cut) ∈ q

theorem sendsBoth_changedCuts {offset : Int} {c a : Bool} {q : List (MsgKind × Nat × Int)} (h : sendsBoth g offset c q) :
    sendsBoth g offset a ((changedCuts g c [a]).foldl enqueueValue q) := by
  obtain ⟨level, cut⟩ := h
  by_cases same : c = a
  · rw [same, changedCuts_same]
    exact ⟨level, same ▸ cut⟩
  · have changed : changedCuts g c [a] = [(.groupCut, g.val, cutValue a)] := by simp [changedCuts, same]
    rw [changed]
    refine ⟨mem_enqueueValue_other _ level rfl, mem_enqueueValue _ (.inr (List.any_eq_true.mpr ⟨_, cut, ?_⟩))⟩
    simp [sendsKey]

theorem sendsBoth_entering (offset : Int) (c a b : Bool) {q : List (MsgKind × Nat × Int)} (room : q.length ≤ 36) :
    sendsBoth g offset b ((entering g offset c ++ changedCuts g c [a, b]).foldl enqueueValue q) := by
  have first : (MsgKind.groupLevel, g.val, offset) ∈ enqueueValue q (.groupLevel, g.val, offset) :=
    mem_enqueueValue offset (.inl (show q.length < 38 by omega))
  have length := length_enqueueValue q (.groupLevel, g.val, offset)
  have entered : sendsBoth g offset c ((entering g offset c).foldl enqueueValue q) := by
    refine ⟨mem_enqueueValue_other _ first rfl, mem_enqueueValue _ (.inl ?_)⟩
    show (enqueueValue q (.groupLevel, g.val, offset)).length < 38
    omega
  rw [← changedCuts_pair, List.foldl_append, List.foldl_append]
  exact sendsBoth_changedCuts (sendsBoth_changedCuts entered)

/-- A queue that sends a value holds an entry with its key and value. -/
theorem mem_values {gl : GroupLine} {kind : MsgKind} {number : Nat} {value : Int} (h : (kind, number, value) ∈ gl.values) :
    ∃ e ∈ gl.queue, e.key = (kind, number) ∧ e.value = value := by
  obtain ⟨e, he, same⟩ := List.mem_map.mp h
  exact ⟨e, he, Prod.ext (congrArg (fun v => v.1) same) (congrArg (fun v => v.2.1) same), congrArg (fun v => v.2.2) same⟩

/-! ### Enqueues counted from the group left -/

theorem State.enqueues_mastered (s : State) (g : GroupLine) (ms : List Master) (values : List (MsgKind × Nat × Int)) (after : GroupLine) :
    s.enqueues { g with mastered := ms } values after ↔ s.enqueues g values after := by
  unfold State.enqueues
  dsimp only
  rw [enqueueAll_mastered]
  have started (q : List QueueEntry) (rest : List (MsgKind × Nat × Int)) :
      GroupLine.enqueueAll { g with mastered := ms, line := .message, queue := q } rest =
        { GroupLine.enqueueAll { g with line := .message, queue := q } rest with mastered := ms } :=
    enqueueAll_mastered { g with line := .message, queue := q } rest ms
  simp only [started]

theorem LineTakes.enqueuesFrom {left : GroupLine} {values : List (MsgKind × Nat × Int)} (h : LineTakes u t values) (tx : u.tx = s.tx)
    (straps : u.straps = s.straps) (group : u.group = { left with mastered := u.group.mastered }) : s.enqueues left values t.group := by
  have enqueued := (State.enqueues_congr tx straps _ _ _).mp h.enqueues
  rw [group] at enqueued
  exact (State.enqueues_mastered s left _ values t.group).mp enqueued

/-- A group given up has no entry waiting (R34). -/
theorem freeOf_givenUp (g : GroupLine) (h : Fin 32) :
    (g.givenUp h).freeOf (.groupLevel, h.val) ∧ (g.givenUp h).freeOf (.groupCut, h.val) := by
  have kept (e : QueueEntry) (he : e ∈ (g.givenUp h).queue) (waits : e.inFlight = none) :
      e.key ≠ (.groupLevel, h.val) ∧ e.key ≠ (.groupCut, h.val) := by
    obtain ⟨-, keep⟩ := List.mem_filter.mp he
    simpa [waits] using keep
  exact ⟨fun e he waits => (kept e he waits).1, fun e he waits => (kept e he waits).2⟩

theorem leftLine_length (before after : Role) (g : GroupLine) : (leftLine before after g).queue.length ≤ g.queue.length := by
  unfold leftLine
  split
  · exact le_refl _
  · split
    · exact le_refl _
    · exact List.length_filter_le _ _

/-! ### The role of the written strip -/

theorem roleLeft_strip (i : Fin 64) (d : StripData) (s : State) : Strip.SameInputs (s.strips[i].store d) (roleLeft i d s).strips[i] := by
  have strip := (roleLeft_keeps i d s).1.strips i
  rwa [modStrip_self] at strip

theorem roleLeft_from (i : Fin 64) (d : StripData) (s : State) : (roleLeft i d s).tx = s.tx ∧ (roleLeft i d s).straps = s.straps := by
  have inner := (roleLeft_keeps i d s).1.inner
  exact ⟨inner.tx, inner.straps⟩

/-- An AUDIO strip after a write: the group line is the one its old role left. -/
theorem writeStripWork_audio (role : d.role = .audio) : (writeStripWork i d s).group = (roleLeft i d s).group := by
  rw [group_writeStripWork role, roleTaken_left (.inl role)]

/-- The cut that manual cut and inputs leave the master of a written strip. -/
def handedCut (before : Strip) (d : StripData) : Bool := if cutHandedOn before d then d.manualCut else (before.store d).modeCut

/-- What a write makes of a group it masters: the enqueues from the line left, and the master. -/
structure MasterWritten (i : Fin 64) (d : StripData) (s t : State) (g : Fin 32) (values : List (MsgKind × Nat × Int)) (noted : Int) :
    Prop where
  takes : LineTakes (roleLeft i d s) t values
  holds : t.holds g t.strips[i].modeCut noted
  others : ∀ m : Master, m.group ≠ g → (m ∈ t.group.mastered ↔ m ∈ (roleLeft i d s).group.mastered)
  groups : ∀ k : Fin 32, k ∈ t.group.mastered.map Master.group ↔ k = g ∨ k ∈ (roleLeft i d s).group.mastered.map Master.group

/-- A strip that masters the same group before and after (R33). -/
theorem masterWritten_same (hi : s.hasStrip i = true) (tuned : StripsTuned s) (role : d.role = .groupMaster g)
    (before : s.strips[i].role = .groupMaster g) : ∃ noted, MasterWritten i d s (writeStripWork i d s) g
      (changedCuts g s.strips[i].modeCut [handedCut s.strips[i] d, (writeStripWork i d s).strips[i].modeCut]) noted := by
  have left := roleTaken_left (i := i) (d := d) (s := s) (.inr (before.trans role.symm))
  have stored := roleLeft_same (i := i) (d := d) (s := s) (before.trans role.symm)
  have current := (tuned.current hi).master g before
  obtain ⟨m, found, handed⟩ := Option.map_eq_some_iff.mp current
  have cut : m.cut = s.strips[i].modeCut := congrArg Prod.snd handed
  have held : (roleTaken i d s).holds g s.strips[i].modeCut m.enqueued := by
    rw [left, stored]
    exact ⟨m, by rw [modStrip_group]; exact found, cut, rfl⟩
  obtain ⟨takes, holds, others, groups⟩ := handsCut_writeStripWork role held fun same => (modeCut_store same).symm
  rw [left] at takes others groups
  refine ⟨m.enqueued, takes, holds, others, fun k => ?_⟩
  rw [groups]
  refine ⟨.inr, fun h => h.elim (fun own => ?_) id⟩
  rw [own, stored, modStrip_group]
  exact GroupLine.exists_master.mp ⟨m, found⟩

/-- A strip that enters a group (R34, R102). -/
theorem masterWritten_new (role : d.role = .groupMaster g) (before : s.strips[i].role ≠ .groupMaster g) :
    MasterWritten i d s (writeStripWork i d s) g
      (entering g (masterOffset (s.strips[i].store d).faderCode) (s.strips[i].store d).modeCut ++
        changedCuts g (s.strips[i].store d).modeCut [handedCut s.strips[i] d, (writeStripWork i d s).strips[i].modeCut])
      (masterOffset (s.strips[i].store d).faderCode) := by
  have enters := roleTaken_enters role before
  have strip := roleLeft_strip i d s
  obtain ⟨entered, -, held, entered_others, entered_groups⟩ := becomeMaster_takes i g (roleLeft i d s)
  rw [strip.faderCode, strip.modeCut] at entered held
  obtain ⟨takes, holds, others, groups⟩ := handsCut_writeStripWork (i := i) (d := d) (s := s) role (by rw [enters]; exact held) fun _ => rfl
  rw [enters] at takes others groups
  exact ⟨entered.trans takes, holds, fun m ne => (others m ne).trans (entered_others m ne), fun k => by rw [groups, entered_groups]⟩

end Sys2Proof.Machine
end

section
/-! O17: WRITE STRIP stores its fields and hands on role, cut and mode (R34, R35). -/

namespace Sys2Proof.Machine

variable {g : Fin 32} {s : State} {i : Fin 64} {d : StripData}

/-! ### Running the command -/

theorem secondMaster_false (fresh : ∀ (g : Fin 32) (j : Fin 64), d.role = .groupMaster g → j ≠ i → j.val < s.rate.strips →
    s.strips[j].role ≠ .groupMaster g) : s.secondMaster i d.role = false := by
  cases role : d.role with
  | audio => rfl
  | groupMaster g =>
    refine List.any_eq_false.mpr fun j _ => ?_
    simp only [Bool.and_eq_true, bne_iff_ne, beq_iff_eq, hasStrip_iff, not_and]
    intro ⟨ne, hj⟩
    exact fresh g j role ne hj

theorem secondMaster_true {j : Fin 64} (ne : j ≠ i) (hj : j.val < s.rate.strips) (role : s.strips[j].role = .groupMaster g) :
    s.secondMaster i (.groupMaster g) = true :=
  List.any_eq_true.mpr ⟨j, List.mem_finRange j, by
    simp only [Bool.and_eq_true, bne_iff_ne, beq_iff_eq, hasStrip_iff]
    exact ⟨⟨ne, hj⟩, role⟩⟩

theorem exec_writeStrip {address : BitVec 16} {data : List Byte} (pin : s.resetPin = false) (named : address.toNat = i.val)
    (hi : i.val < s.rate.strips) (read : readStripData data = some d) (fresh : s.secondMaster i d.role = false) :
    exec (.writeStrip address data) s = .next (ok (writeStripWork i d s)) := by
  rw [exec, execWriteStrip, onStrip_next pin named hi read, fresh, if_neg Bool.false_ne_true]

theorem exec_writeStrip_refused {address : BitVec 16} {data : List Byte} (pin : s.resetPin = false)
    (bad : s.rate.strips ≤ address.toNat ∨ readStripData data = none ∨
      (∃ (i j : Fin 64) (g : Fin 32) (x : StripData), address.toNat = i.val ∧ readStripData data = some x ∧ x.role = .groupMaster g ∧
        j ≠ i ∧ j.val < s.rate.strips ∧ s.strips[j].role = .groupMaster g)) :
    exec (.writeStrip address data) s = .next (refuse .range s) := by
  rcases bad with missing | unread | ⟨i, j, g, x, named, read, role, ne, hj, second⟩
  · rw [exec, execWriteStrip, onStrip_refuses pin (.inl missing)]
  · rw [exec, execWriteStrip, onStrip_refuses pin (.inr unread)]
  · by_cases hi : i.val < s.rate.strips
    · rw [exec, execWriteStrip, onStrip_next pin named hi read, role, secondMaster_true ne hj second, if_pos rfl]
    · rw [exec, execWriteStrip, onStrip_refuses pin (.inl (by omega))]

/-! ### The fields -/

/-- Every field a WRITE STRIP carries is stored (R35). -/
theorem writeStripWork_fields (i : Fin 64) (d : StripData) (s : State) :
    let st := (writeStripWork i d s).strips[i]
    st.role = d.role ∧ st.input = d.input ∧ st.trim = max 780 (min 1020 d.trim) ∧ st.manualCut = d.manualCut ∧ st.solo = d.solo ∧
    st.soloSafe = d.soloSafe ∧ st.groups = d.groups ∧ st.mode = d.mode ∧ st.glideSteps = min 3000 d.glideSteps ∧
    st.staticCode = min 1020 d.staticCode := by
  have desk := (ride_writeStripWork i d s).strips i
  rw [modStrip_self] at desk
  dsimp only
  rw [desk]
  exact ⟨rfl, rfl, rfl, rfl, rfl, rfl, rfl, rfl, rfl, rfl⟩

/-- No send, live code or present flag changes, and no written field of another strip (R35). -/
theorem writeStripWork_rest (i : Fin 64) (d : StripData) (s : State) (j : Fin 64) :
    let t := writeStripWork i d s
    t.strips[j].sends = s.strips[j].sends ∧ t.strips[j].liveCode = s.strips[j].liveCode ∧
    t.strips[j].present = s.strips[j].present ∧ (j ≠ i → Strip.sameWritten t.strips[j] s.strips[j]) := by
  have desk := (ride_writeStripWork i d s).strips j
  by_cases own : j = i
  · subst own
    rw [modStrip_self] at desk
    dsimp only
    rw [desk]
    exact ⟨rfl, rfl, rfl, fun other => (other rfl).elim⟩
  · rw [modStrip_other own] at desk
    dsimp only
    rw [desk]
    exact ⟨rfl, rfl, rfl, fun _ => ⟨rfl, rfl, rfl, rfl, rfl, rfl, rfl, rfl, rfl, rfl⟩⟩

/-- The fader code of a strip whose mode is written as it was (R33). -/
theorem writeStripWork_faderCode (same : s.strips[i].mode = d.mode) :
    (writeStripWork i d s).strips[i].faderCode = (s.strips[i].store d).faderCode := by
  have desk := (ride_writeStripWork i d s).strips i
  rw [modStrip_self] at desk
  obtain ⟨source, level⟩ := (writeStripWork_unmoded same).level
  have code : (writeStripWork i d s).strips[i].deskCode = (s.strips[i].store d).deskCode := by rw [desk]; rfl
  rw [Strip.faderCode, Strip.faderCode, code, ← source, ← level]
  rfl

/-! ### The group line of a tuned part -/

/-- The master a written strip has afterwards (R33, R34). -/
theorem MasterWritten.master {t : State} {values : List (MsgKind × Nat × Int)} {noted : Int} (h : MasterWritten i d s t g values noted)
    (current : (t.group.master g).map Master.handed = some (masterOffset t.strips[i].faderCode, t.strips[i].modeCut)) :
    ∃ m ∈ t.group.mastered, m.group = g ∧ m.offset = masterOffset t.strips[i].faderCode ∧ m.cut = t.strips[i].modeCut ∧
      m.enqueued = noted := by
  obtain ⟨m, found, cut, enqueued⟩ := h.holds
  rw [found] at current
  have handed := Option.some.inj current
  exact ⟨m, List.mem_of_find?_eq_some found, by simpa using List.find?_some found, congrArg Prod.fst handed, cut, enqueued⟩

theorem groups_iff {gl : GroupLine} {k : Fin 32} : (∃ m ∈ gl.mastered, m.group = k) ↔ k ∈ gl.mastered.map Master.group :=
  List.mem_map.symm

/-- The groups mastered once the old role is left (R34, R102). -/
theorem mem_groups_roleLeft (i : Fin 64) (d : StripData) (s : State) (k : Fin 32) :
    k ∈ (roleLeft i d s).group.mastered.map Master.group ↔
      k ∈ s.group.mastered.map Master.group ∧ (s.strips[i].role = .groupMaster k → d.role = .groupMaster k) := by
  obtain ⟨-, -, -, mem⟩ := roleLeft_keeps i d s
  simp only [List.mem_map]
  constructor
  · rintro ⟨m, hm, rfl⟩
    obtain ⟨before, keep⟩ := (mem m).mp hm
    exact ⟨⟨m, before, rfl⟩, keep⟩
  · rintro ⟨⟨m, hm, rfl⟩, keep⟩
    exact ⟨m, (mem m).mpr ⟨hm, keep⟩, rfl⟩

/-- The master of a written strip, whether it entered the group or stayed in it. -/
theorem exists_masterWritten (hi : s.hasStrip i = true) (tuned : StripsTuned s) (role : d.role = .groupMaster g) :
    ∃ values noted, MasterWritten i d s (writeStripWork i d s) g values noted ∧ ∀ v ∈ values, v.2.1 = g.val := by
  have cuts (c a b : Bool) : ∀ v ∈ changedCuts g c [a, b], v.2.1 = g.val := by
    intro v hv
    simp only [changedCuts, List.append_nil, List.mem_append] at hv
    rcases hv with hv | hv
    · split at hv
      · cases hv
      · rw [List.mem_singleton.mp hv]
    · split at hv
      · cases hv
      · rw [List.mem_singleton.mp hv]
  by_cases before : s.strips[i].role = .groupMaster g
  · obtain ⟨noted, written⟩ := masterWritten_same hi tuned role before
    exact ⟨_, noted, written, cuts _ _ _⟩
  · refine ⟨_, _, masterWritten_new role before, fun v hv => ?_⟩
    rcases List.mem_append.mp hv with hv | hv
    · simp only [entering, List.mem_cons, List.not_mem_nil, or_false] at hv
      rcases hv with rfl | rfl <;> rfl
    · exact cuts _ _ _ v hv

/-- The mastered groups after a write (R34). -/
theorem writeStripWork_groups (hi : s.hasStrip i = true) (tuned : StripsTuned s) (k : Fin 32) :
    k ∈ (writeStripWork i d s).group.mastered.map Master.group ↔
      d.role = .groupMaster k ∨ (s.strips[i].role ≠ .groupMaster k ∧ k ∈ s.group.mastered.map Master.group) := by
  have left := mem_groups_roleLeft i d s k
  cases role : d.role with
  | audio =>
    rw [writeStripWork_audio role, left, role]
    simp only [reduceCtorEq, imp_false, false_or]
    tauto
  | groupMaster g =>
    obtain ⟨values, noted, written, -⟩ := exists_masterWritten hi tuned role
    rw [written.groups, left, role, Role.groupMaster.injEq, eq_comm (a := k)]
    by_cases own : g = k
    · simp [own]
    · simp [own]
      tauto

/-- Masters of groups that a write neither leaves nor enters stand. -/
theorem writeStripWork_others (hi : s.hasStrip i = true) (tuned : StripsTuned s) {m : Master} (after : d.role ≠ .groupMaster m.group)
    (before : s.strips[i].role ≠ .groupMaster m.group) : m ∈ (writeStripWork i d s).group.mastered ↔ m ∈ s.group.mastered := by
  obtain ⟨-, -, -, mem⟩ := roleLeft_keeps i d s
  have left : m ∈ (roleLeft i d s).group.mastered ↔ m ∈ s.group.mastered :=
    (mem m).trans (and_iff_left fun own => (before own).elim)
  cases role : d.role with
  | audio => rw [writeStripWork_audio role, left]
  | groupMaster g =>
    obtain ⟨values, noted, written, -⟩ := exists_masterWritten hi tuned role
    rw [written.others m fun own => after (own ▸ role), left]

/-- A group given up has no entry waiting after the write (R34, R102). -/
theorem writeStripWork_free (hi : s.hasStrip i = true) (tuned : StripsTuned s) (before : s.strips[i].role = .groupMaster g)
    (after : d.role ≠ .groupMaster g) (kind : MsgKind) (is : kind = .groupLevel ∨ kind = .groupCut) :
    (writeStripWork i d s).group.freeOf (kind, g.val) := by
  obtain ⟨-, -, line, -⟩ := roleLeft_keeps i d s
  have left : (roleLeft i d s).group.freeOf (kind, g.val) := by
    obtain ⟨level, cut⟩ := freeOf_givenUp s.group g
    rw [line, before]
    unfold leftLine
    dsimp only
    rw [if_neg after]
    rcases is with rfl | rfl
    · exact level
    · exact cut
  cases role : d.role with
  | audio => rw [writeStripWork_audio role]; exact left
  | groupMaster h =>
    obtain ⟨values, noted, written, numbers⟩ := exists_masterWritten hi tuned role
    refine written.takes.spares _ (fun v hv same => ?_) left
    have number : h.val = g.val := (numbers v hv).symm.trans (congrArg Prod.snd same)
    exact after (role.trans (congrArg Role.groupMaster (Fin.ext number)))

/-- A group newly mastered is sent whole, or taken by the own table (R101, R102, R106). -/
theorem writeStripWork_sent (role : d.role = .groupMaster g) (before : s.strips[i].role ≠ .groupMaster g) :
    let t := writeStripWork i d s
    let noted := masterOffset (s.strips[i].store d).faderCode
    (s.listenOnly = true → t.group.table[g] = ⟨max (-1020) (min 120 noted), t.strips[i].modeCut, some s.straps.slot, true⟩) ∧
    (s.listenOnly = false → s.group.queue.length ≤ 36 →
      (∃ e ∈ t.group.queue, e.key = (.groupLevel, g.val) ∧ e.value = noted) ∧
      ∃ e ∈ t.group.queue, e.key = (.groupCut, g.val) ∧ e.value = cutValue t.strips[i].modeCut) := by
  obtain ⟨takes, -⟩ := masterWritten_new (s := s) (i := i) role before
  obtain ⟨frame, -, line, -⟩ := roleLeft_keeps i d s
  obtain ⟨tx, straps⟩ := roleLeft_from i d s
  have listen : (roleLeft i d s).listenOnly = s.listenOnly := by rw [State.listenOnly, tx, State.listenOnly]
  refine ⟨fun silent => ?_, fun driving room => ?_⟩
  · obtain ⟨-, -, table⟩ := takes.enqueues
    rw [(table (listen.trans silent)).2 g, straps]
    exact takeAll_entering _ _ _ _ _
  · have short : (roleLeft i d s).group.values.length ≤ 36 := by
      rw [GroupLine.values, List.length_map, line]
      exact (leftLine_length _ _ _).trans room
    have both := sendsBoth_entering (g := g) (masterOffset (s.strips[i].store d).faderCode) (s.strips[i].store d).modeCut
      (handedCut s.strips[i] d) (writeStripWork i d s).strips[i].modeCut short
    rw [← takes.queued (listen.trans driving)] at both
    exact ⟨mem_values both.1, mem_values both.2⟩

end Sys2Proof.Machine
end

section
/-! What a WRITE STRIP makes of the group line of a tuned part. -/

namespace Sys2Proof.Machine

variable {g : Fin 32} {s : State} {i : Fin 64} {d : StripData}

/-- What the group line of a tuned part takes of a write (R33, R34, R101, R102, R106). -/
theorem writeStripWork_line (hi : s.hasStrip i = true) (tuned : StripsTuned s) (after : StripsTuned (writeStripWork i d s)) :
    let t := writeStripWork i d s
    let left := leftLine s.strips[i].role d.role s.group
    let stored := s.strips[i].store d
    let cuts := [handedCut s.strips[i] d, t.strips[i].modeCut]
    (d.role = .audio → t.group = { left with mastered := t.group.mastered }) ∧
    (d.role = .groupMaster g → s.strips[i].role = .groupMaster g →
      s.enqueues s.group (changedCuts g s.strips[i].modeCut cuts) t.group) ∧
    (d.role = .groupMaster g → s.strips[i].role ≠ .groupMaster g →
      s.enqueues left (entering g (masterOffset stored.faderCode) stored.modeCut ++ changedCuts g stored.modeCut cuts) t.group) ∧
    (d.role = .groupMaster g → ∃ m ∈ t.group.mastered, m.group = g ∧ m.offset = masterOffset t.strips[i].faderCode ∧
      m.cut = t.strips[i].modeCut ∧ (s.strips[i].role ≠ .groupMaster g → m.enqueued = masterOffset stored.faderCode)) := by
  intro t left stored cuts
  obtain ⟨-, -, line, -⟩ := roleLeft_keeps i d s
  obtain ⟨tx, straps⟩ := roleLeft_from i d s
  have ride := (ride_writeStripWork i d s)
  have here : t.hasStrip i = true := (ride.inner.hasStrip i).trans hi
  have own : d.role = .groupMaster g → t.strips[i].role = .groupMaster g := (writeStripWork_fields i d s).1.trans
  refine ⟨fun role => ?_, fun role before => ?_, fun role before => ?_, fun role => ?_⟩
  · have same : t.group = (roleLeft i d s).group := writeStripWork_audio role
    rw [same]
    exact line
  · obtain ⟨noted, written⟩ := masterWritten_same hi tuned role before
    have stays : leftLine s.strips[i].role d.role s.group = s.group := by
      unfold leftLine
      rw [before]
      exact if_pos role
    rw [stays] at line
    exact written.takes.enqueuesFrom tx straps line
  · exact (masterWritten_new role before).takes.enqueuesFrom tx straps line
  · have current := (after.current here).master g (own role)
    by_cases before : s.strips[i].role = .groupMaster g
    · obtain ⟨noted, written⟩ := masterWritten_same hi tuned role before
      obtain ⟨m, hm, group, offset, cut, -⟩ := written.master current
      exact ⟨m, hm, group, offset, cut, fun other => (other before).elim⟩
    · obtain ⟨m, hm, group, offset, cut, noted⟩ := (masterWritten_new role before).master current
      exact ⟨m, hm, group, offset, cut, fun _ => noted⟩

end Sys2Proof.Machine
end

section
/-! O17 settled: the blocks of a WRITE STRIP put together. -/

namespace Sys2Proof.Machine

/-- Settles O17: the command runs `writeStripWork`, whose stages store the fields, hand on the role (leaving and entering the mastered
set), and then the manual cut, the inputs and the mode, each with its records and its enqueues. -/
theorem writeStripStoresItsFields : Obligations.WriteStripStoresItsFields := by
  intro s address data pin
  refine ⟨fun i x named hi read fresh => ?_, fun bad => by rw [exec_writeStrip_refused pin bad, refuse_eq]⟩
  have single := secondMaster_false fresh
  have exists_ : s.hasStrip i = true := (hasStrip_iff).mpr hi
  have run := exec_writeStrip pin named hi read single
  obtain ⟨role, input, trim, manual, solo, safe, groups, mode, glide, static⟩ := writeStripWork_fields i x s
  have rest := writeStripWork_rest i x s
  have inner := (inner_modStrip i (Strip.store x) s).trans (ride_writeStripWork i x s).inner
  have others := sparesOthers_writeStripWork i x s
  have unmoded := writeStripWork_unmoded (s := s) (i := i) (d := x)
  have moded := writeStripWork_moded (s := s) (i := i) (d := x)
  have recorded := recorded_writeStripWork i x s
  have count := storeCount_writeStripWork i x s
  have soloLevel := solo_writeStripWork i x s
  have audio : s.strips[i].role = .audio → x.role = .audio → (writeStripWork i x s).group = s.group := fun before after => by
    rw [writeStripWork_audio after, roleLeft_audio before, modStrip_group]
  have line (tuned : StripsTuned s) (g : Fin 32) := writeStripWork_line (g := g) exists_ tuned
    ((kept_writeStripWork exists_ (readStripData_groups read) single).tuned tuned)
  have stands (tuned : StripsTuned s) (m : Master) := writeStripWork_others (d := x) (m := m) exists_ tuned
  have mastered (tuned : StripsTuned s) := writeStripWork_groups (d := x) exists_ tuned
  have free (tuned : StripsTuned s) (g : Fin 32) := writeStripWork_free (d := x) (g := g) exists_ tuned
  have sent (g : Fin 32) := writeStripWork_sent (s := s) (i := i) (d := x) (g := g)
  have code := writeStripWork_faderCode (s := s) (i := i) (d := x)
  generalize writeStripWork i x s = t at *
  have playback := others.playback
  have position : t.playback.position = s.playback.position := by rw [playback]
  have transport : t.playback.transport = s.playback.transport := by rw [playback]
  have state : t.pass.state = s.pass.state := by rw [recorded.pass, Pass.offers_state]
  refine ⟨ok t, run, rfl, role, input, trim, manual, solo, safe, groups, mode, glide, static, rest, inner.clock, inner.engine, inner.tx,
    inner.peers, inner.summer, inner.surface, inner.ports, position, transport, count, state, soloLevel, ⟨?_, ?_, ?_, ?_, ?_⟩, audio,
    fun tuned => ⟨⟨?_, ?_, ?_, ?_⟩, ?_, ?_, ?_⟩⟩
  · exact fun j other => ⟨(others j other).auto, (others j other).strip.sameLevel, (others j other).strip.sameCut⟩
  · intro same
    obtain ⟨-, record, level, cutLive, cutStill, -⟩ := unmoded (not_not.mp same)
    exact ⟨record, level, cutLive, cutStill⟩
  · exact moded
  · exact recorded.pass
  · exact (recorded.causes .journalFull).trans (or_congr_right (and_iff_right rfl))
  · exact (line tuned 0).1
  · exact fun g after before => (line tuned g).2.1 after before
  · intro g after before
    obtain ⟨-, -, enqueued, entered⟩ := line tuned g
    obtain ⟨m, hm, group, -, -, noted⟩ := entered after
    exact ⟨enqueued after before, m, hm, group, noted before⟩
  · exact fun m after before => stands tuned m after before
  · exact fun g => groups_iff.trans ((mastered tuned g).trans (or_congr_right (and_congr_right fun _ => groups_iff.symm)))
  · exact fun g before after e he waits => ⟨free tuned g before after _ (.inl rfl) e he waits, free tuned g before after _ (.inr rfl) e he waits⟩
  · intro g after
    obtain ⟨-, -, -, entered⟩ := line tuned g
    obtain ⟨m, hm, group, offset, cut, noted⟩ := entered after
    refine ⟨m, hm, group, offset, cut, fun before => ?_⟩
    obtain ⟨silent, driving⟩ := sent g after before
    rw [← noted before, ← cut] at silent driving
    exact ⟨fun same => by rw [noted before, offset, code same], silent, driving⟩

end Sys2Proof.Machine
end

section
/-! What leaves the lanes alone: every command but those whose rules name the lane transmitter or a peer record. -/

namespace Sys2Proof.Machine

/-- Work that leaves the lane transmitter and every peer record as they stand. -/
structure SameLanes (s t : State) : Prop where
  tx : t.tx = s.tx
  peers : t.peers = s.peers

variable {s t u : State}

theorem SameLanes.refl (s : State) : SameLanes s s := ⟨rfl, rfl⟩

theorem SameLanes.trans (h : SameLanes s t) (k : SameLanes t u) : SameLanes s u := ⟨k.tx.trans h.tx, k.peers.trans h.peers⟩

theorem Inner.sameLanes (h : Inner s t) : SameLanes s t := ⟨h.tx, h.peers⟩

theorem sameLanes_setSummer (s : State) (v : Summer) : SameLanes s (s.setSummer v) := ⟨rfl, rfl⟩

theorem sameLanes_raiseIf (b : Bool) (c : Cause) (s : State) : SameLanes s (raiseIf b c s) := ⟨raiseIf_tx b c s, raiseIf_peers b c s⟩

theorem SameLanes.either {c : Prop} [Decidable c] (h : SameLanes s t) (k : SameLanes s u) : SameLanes s (if c then t else u) := by
  split
  · exact h
  · exact k

/-! ### The frames of the commands (R169, R173) -/

theorem sameLanes_respond (status : Status) (data : List Byte) (s : State) : SameLanes s (respond status data s) := ⟨rfl, rfl⟩

theorem sameLanes_refuse (status : Status) (s : State) : SameLanes s (refuse status s) := ⟨rfl, rfl⟩

theorem SameLanes.acknowledged (h : SameLanes s t) : SameLanes s (ok t) := h.trans (sameLanes_respond _ _ t)

theorem sameLanes_onEvent {f : State → State} (k : SameLanes s (f s)) (h : onEvent s f = .next t) : SameLanes s t := by
  obtain rfl := Host.Outcome.next.inj h
  exact (SameLanes.refl s).either k

theorem sameLanes_onCommand {f : State → State} (k : SameLanes s (f s)) (h : onCommand s f = .next t) : SameLanes s t := by
  obtain rfl := Host.Outcome.next.inj h
  exact SameLanes.either ⟨rfl, rfl⟩ k

theorem sameLanes_onBare {address : BitVec 16} {data : List Byte} {f : State → State} (k : SameLanes s (f s))
    (h : onBare address data s f = .next t) : SameLanes s t := by
  refine sameLanes_onCommand ?_ h
  exact k.either (sameLanes_refuse _ s)

theorem sameLanes_onGlobal {α : Type} {address : BitVec 16} {d : Option α} {f : α → State → State} (k : ∀ v, SameLanes s (f v s))
    (h : onGlobal address d s f = .next t) : SameLanes s t := by
  refine sameLanes_onCommand ?_ h
  split
  · exact (k _).either (sameLanes_refuse _ s)
  · exact sameLanes_refuse _ s

theorem sameLanes_onStrip {α : Type} {address : BitVec 16} {d : Option α} {f : Fin 64 → α → State → State}
    (k : ∀ i v, SameLanes s (f i v s)) (h : onStrip address d s f = .next t) : SameLanes s t := by
  refine sameLanes_onCommand ?_ h
  split
  · exact k _ _
  · exact sameLanes_refuse _ s

theorem sameLanes_onEdit {α : Type} {address : BitVec 16} {d : Option α} {f : Fin 64 → α → State → State}
    (k : ∀ i v, SameLanes s (f i v s)) (h : onEdit address d s f = .next t) : SameLanes s t := by
  refine sameLanes_onCommand ?_ h
  split
  · exact sameLanes_refuse _ s
  · refine (sameLanes_refuse _ s).either ?_
    split
    · exact k _ _
    · exact sameLanes_refuse _ s

/-! ### The surface port -/

theorem sameLanes_setSurface (s : State) (v : Surface) : SameLanes s (s.setSurface v) := ⟨rfl, rfl⟩

theorem sameLanes_takeCode (i : Fin 64) (raw : Nat) (s : State) : SameLanes s (takeCode i raw s) := by
  unfold takeCode
  dsimp only
  refine SameLanes.either (SameLanes.trans ?_ (ride_evalStrip i _).inner.sameLanes) (.refl s)
  exact ⟨rfl, rfl⟩

theorem sameLanes_handTouch (i : Fin 64) (e : TouchEvent) (s : State) : SameLanes s (handTouch i e s) := by
  have released := (ride_releaseStrip i s).inner.sameLanes
  cases e with
  | none => exact .refl s
  | touch => exact (ride_touchStrip i s).inner.sameLanes
  | release => exact released
  | stuck => exact ⟨released.tx, released.peers⟩

theorem sameLanes_takeTouch (i : Fin 64) (count : Nat) (s : State) : SameLanes s (takeTouch i count s) := by
  unfold takeTouch
  refine SameLanes.trans ?_ (sameLanes_handTouch i _ _)
  exact ⟨rfl, rfl⟩

theorem sameLanes_setPresence (i : Fin 64) (present : Bool) (s : State) : SameLanes s (setPresence i present s) := by
  unfold setPresence
  refine SameLanes.trans ?_ (ride_evalStrip i _).inner.sameLanes
  exact ⟨rfl, rfl⟩

theorem sameLanes_losePresence (i : Fin 64) (s : State) : SameLanes s (losePresence i s) := by
  have gone := sameLanes_setPresence i false s
  have cleared : SameLanes s (modFader i (fun f => { f.settle false with acceptNext := true, baseline := none })
    (setPresence i false s)) := gone.trans ⟨rfl, rfl⟩
  exact (cleared.trans (ride_releaseStrip i _).inner.sameLanes).either cleared

theorem sameLanes_takeFader (readings : List Reading) (i : Fin 64) (s : State) : SameLanes s (takeFader readings i s) := by
  unfold takeFader
  split
  · have here := (SameLanes.refl s).either (c := s.surface.faders[i].present = true) (sameLanes_setPresence i true s)
    exact (here.trans (sameLanes_takeCode i _ _)).trans (sameLanes_takeTouch i _ _)
  · exact (sameLanes_losePresence i s).either (.refl s)

theorem forStrips_sameLanes {f : Fin 64 → State → State} (h : ∀ i t, SameLanes t (f i t)) (s : State) : SameLanes s (forStrips f s) :=
  forStrips_induct (P := SameLanes s) (.refl s) fun i t _ same => same.trans (h i t)

theorem sameLanes_scanWork (bytes : List Byte) (s : State) : SameLanes s (scanWork bytes s) := by
  unfold scanWork
  split
  · exact ⟨rfl, rfl⟩
  · next readings _ =>
    have heard := sameLanes_setSurface s { s.surface with link := .active, silence := 0 }
    unfold takeScan sendMotorReturn
    exact (heard.trans (forStrips_sameLanes (sameLanes_takeFader readings) _)).trans (sameLanes_setSurface _ _)

theorem sameLanes_silenceExpiry (s : State) : SameLanes s (silenceExpiry s) := by
  unfold silenceExpiry
  split
  · exact ⟨rfl, rfl⟩
  · exact (sameLanes_setSurface s _).trans (forStrips_sameLanes (fun i t => (sameLanes_losePresence i t).either (.refl t)) _)

/-! ### The group line and the passes -/

theorem sameLanes_sendPass {kind : MsgKind} {n : Nat} {atOnce : State → State} (k : RideFrame s (atOnce s)) :
    SameLanes s (sendPass kind n atOnce s) := by
  have asked : SameLanes s (s.setGroup (s.group.enqueue kind n 0)) := ⟨rfl, rfl⟩
  have started := asked.trans (lineFrame_startIfIdle _).inner.sameLanes
  unfold sendPass
  exact k.inner.sameLanes.acknowledged.either ((asked.trans (sameLanes_refuse _ _)).either started.acknowledged)

theorem sameLanes_keepWork (s : State) : SameLanes s (keepWork s) := by
  unfold keepWork
  dsimp only
  split <;> exact ⟨rfl, rfl⟩

/-! ### Command by command -/

/-- The commands whose own rules name the lane transmitter or a peer record (R42, R51, R55, R69, R54, R71). -/
def actsOnLanes : Instr → Prop
  | .stripFrameProcess => True
  | .laneFrameCompletion _ _ => True
  | .frameArrival _ _ => True
  | .readPeers _ _ => True
  | .engineRestart _ _ => True
  | _ => False

/-- A command that makes no boundary, is no reset and has no rule about the lanes leaves them alone. -/
theorem exec_sameLanes {c : Instr} (h : exec c s = .next t) (noBoundary : ¬ makesBoundary s c) (noReset : ¬ isReset c)
    (noLane : ¬ actsOnLanes c) : SameLanes s t := by
  cases c with
  | powerOnReset | resetPinAssert | resetPinRelease => exact absurd trivial noReset
  | stripFrameProcess | laneFrameCompletion | frameArrival | readPeers | engineRestart => exact absurd trivial noLane
  | dividerBoundary => exact exec_noBoundary (.inl rfl) h noBoundary ▸ .refl s
  | lossWindowExpiry => exact exec_noBoundary (.inr (.inl rfl)) h noBoundary ▸ .refl s
  | holdoverBoundary => exact exec_noBoundary (.inr (.inr rfl)) h noBoundary ▸ .refl s
  | referenceEdge marked time =>
    refine sameLanes_onEvent (f := referenceEdgeWork marked time) ?_ h
    have early : time - s.clock.latestBoundary < s.rate.half := not_le.mp noBoundary
    unfold referenceEdgeWork
    dsimp only
    rw [if_pos (decide_eq_true early)]
    refine SameLanes.trans ?_ (sameLanes_raiseIf _ _ _)
    exact ⟨rfl, rfl⟩
  | automationStep =>
    have step := (ride_setPlayback s { s.playback with stepDue := false }).trans (ride_automationStepWork _)
    exact sameLanes_onEvent (step.inner.sameLanes.either (.refl s)) h
  | groupRefresh =>
    rw [exec, execGroupRefresh] at h
    refine sameLanes_onEvent ?_ h
    split
    · exact .refl s
    · exact ((lineFrame_setGroup s _).trans (lineFrame_refreshGroup _ _)).inner.sameLanes
  | silenceWindowExpiry => exact sameLanes_onEvent ((sameLanes_silenceExpiry s).either (.refl s)) h
  | outputPortFrameStart =>
    rw [exec, execOutputPortFrameStart] at h
    refine sameLanes_onEvent ?_ h
    split
    · exact ⟨rfl, rfl⟩
    · exact .refl s
  | portFrameArrival =>
    rw [exec, execPortFrameArrival] at h
    refine sameLanes_onEvent ?_ h
    exact ⟨rfl, rfl⟩
  | scanArrival bytes => exact sameLanes_onEvent (sameLanes_scanWork bytes s) h
  | positionRecordArrival bytes => exact sameLanes_onEvent (ride_positionWork bytes s).inner.sameLanes h
  | lineRest =>
    rw [exec, execLineRest] at h
    refine sameLanes_onEvent ?_ h
    split
    · exact ((lineFrame_setGroup s _).trans (lineFrame_startIfIdle _)).inner.sameLanes
    · exact .refl s
    · exact .refl s
  | dominantBitSeen =>
    rw [exec, execDominantBitSeen] at h
    refine sameLanes_onEvent ?_ h
    split
    · exact ⟨rfl, rfl⟩
    · exact ((lineFrame_setGroup s _).trans (lineFrame_markInFlight _)).inner.sameLanes
    · exact .refl s
  | arbitrationLoss => exact sameLanes_onEvent ((lineFrame_loseArbitration s).inner.sameLanes.either (.refl s)) h
  | lineFault => exact sameLanes_onEvent ((lineFrame_meetFault s).inner.sameLanes.either (.refl s)) h
  | groupMessageEnd bits => exact sameLanes_onEvent (ride_messageEndWork bits s).inner.sameLanes h
  | soloLineChange active =>
    rw [exec, execSoloLineChange] at h
    refine sameLanes_onEvent ?_ h
    exact (SameLanes.refl s).either ((lineFrame_setGroup s _).trans (lineFrame_retuneWhere _ _)).inner.sameLanes
  | controlRequestAbandoned =>
    obtain rfl := Host.Outcome.next.inj h
    exact .refl _
  | readStatus =>
    rw [exec, execReadStatus] at h
    refine sameLanes_onBare ?_ h
    exact ⟨rfl, rfl⟩
  | readCauses =>
    rw [exec, execReadCauses] at h
    exact sameLanes_onBare (sameLanes_respond _ _ s) h
  | clearCauses =>
    rw [exec, execClearCauses] at h
    refine sameLanes_onGlobal (fun _ => ?_) h
    exact ⟨rfl, rfl⟩
  | writeAttentionMask =>
    rw [exec, execWriteAttentionMask] at h
    refine sameLanes_onGlobal (fun _ => ?_) h
    exact ⟨rfl, rfl⟩
  | readStrip =>
    rw [exec, execReadStrip] at h
    refine sameLanes_onStrip (fun _ _ => ?_) h
    exact sameLanes_respond _ _ s
  | writeSend =>
    rw [exec, execWriteSend] at h
    refine sameLanes_onStrip (fun i d => ?_) h
    exact (inner_modStrip i _ s).sameLanes.acknowledged
  | writeStrip =>
    rw [exec, execWriteStrip] at h
    refine sameLanes_onStrip (fun i d => ?_) h
    exact (sameLanes_refuse _ s).either (inner_writeStripWork i d s).sameLanes.acknowledged
  | writeOutput =>
    rw [exec, execWriteOutput] at h
    refine sameLanes_onStrip (fun c source => ?_) h
    exact (sameLanes_refuse _ s).either ⟨rfl, rfl⟩
  | writeCalibration =>
    rw [exec, execWriteCalibration] at h
    refine sameLanes_onStrip (fun i d => ?_) h
    exact SameLanes.either ⟨rfl, rfl⟩ (sameLanes_refuse _ s)
  | writeTouch =>
    rw [exec, execWriteTouch] at h
    refine sameLanes_onStrip (fun i d => ?_) h
    exact SameLanes.either ⟨rfl, rfl⟩ (sameLanes_refuse _ s)
  | writePremix =>
    rw [exec, execWritePremix] at h
    refine sameLanes_onCommand ?_ h
    split
    · exact SameLanes.either (sameLanes_refuse _ s) ⟨rfl, rfl⟩
    · exact sameLanes_refuse _ s
  | writeWindow =>
    rw [exec, execWriteWindow] at h
    refine sameLanes_onCommand ?_ h
    split
    · exact ⟨rfl, rfl⟩
    · exact sameLanes_refuse _ s
  | readMeters =>
    rw [exec, execReadMeters] at h
    refine sameLanes_onCommand ?_ h
    split
    · exact (sameLanes_refuse _ s).either ((sameLanes_setSummer s _).trans (sameLanes_respond _ _ _))
    · exact sameLanes_refuse _ s
  | insertMove =>
    rw [exec, execInsertMove] at h
    refine sameLanes_onEdit (fun i d => ?_) h
    split
    · exact sameLanes_refuse _ s
    · exact (sameLanes_refuse _ s).either (inner_modAuto i _ s).sameLanes.acknowledged
  | deleteMoves =>
    rw [exec, execDeleteMoves] at h
    refine sameLanes_onEdit (fun i d => ?_) h
    split
    · exact sameLanes_refuse _ s
    · exact (sameLanes_refuse _ s).either (inner_modAuto i _ s).sameLanes.acknowledged
  | clearStrip =>
    rw [exec, execClearStrip] at h
    refine sameLanes_onEdit (fun i _ => ?_) h
    exact (inner_modAuto i _ s).sameLanes.acknowledged
  | clearStore =>
    rw [exec, execClearStore] at h
    refine sameLanes_onBare ?_ h
    exact (sameLanes_refuse _ s).either (inner_setPlayback s _).sameLanes.acknowledged
  | readMoves =>
    rw [exec, execReadMoves] at h
    refine sameLanes_onStrip (fun i d => ?_) h
    dsimp only
    split <;> exact ⟨rfl, rfl⟩
  | passOpen =>
    rw [exec, execPassOpen] at h
    refine sameLanes_onCommand ?_ h
    refine (sameLanes_refuse _ s).either ?_
    split
    · exact sameLanes_sendPass (ride_takePassOpen _ s)
    all_goals exact sameLanes_refuse _ s
  | passClose =>
    rw [exec, execPassClose] at h
    refine sameLanes_onCommand ?_ h
    refine (sameLanes_refuse _ s).either ?_
    split
    · exact (sameLanes_sendPass (ride_takePassClose _ s)).either (sameLanes_refuse _ s)
    all_goals exact sameLanes_refuse _ s
  | passKeep =>
    rw [exec, execPassKeep] at h
    refine sameLanes_onBare ?_ h
    split
    · exact (sameLanes_refuse _ s).either (sameLanes_keepWork s).acknowledged
    all_goals exact sameLanes_refuse _ s
  | passDrop =>
    rw [exec, execPassDrop] at h
    refine sameLanes_onBare ?_ h
    split
    · exact (ride_endPass s).inner.sameLanes.acknowledged
    all_goals exact sameLanes_refuse _ s
  | commandByteNamesNoCommand => exact sameLanes_onCommand (sameLanes_refuse _ s) h

end Sys2Proof.Machine
end

section
/-! What keeps a peer record consistent: arrivals, due requests, the rise of its fade and the reading of its counters (R57 to R66, R69). -/

namespace Sys2Proof.Machine

/-! ### The three parts of a consistent record -/

/-- The counters of a peer record stop at 65,535 (1.6.7). -/
def Peer.counted (p : Peer) : Prop :=
  p.used ≤ 65535 ∧ p.missed ≤ 65535 ∧ p.stale ≤ 65535 ∧ p.overrun ≤ 65535 ∧ p.malformed ≤ 65535 ∧ p.realign ≤ 65535

/-- What good and miss counts, fade position and last used frame are in a state (R62 to R66). -/
def PeerState.agrees (good miss fade : Nat) (last : Option LaneFrame) : PeerState → Prop
  | .absent => good = 0 ∧ fade = 0 ∧ last = none
  | .acquiring => good ≤ 15 ∧ miss ≤ 7 ∧ fade = 0 ∧ last ≠ none
  | .live => 1 ≤ good ∧ miss = 0 ∧ last ≠ none
  | .hold => (miss = 1 ∨ miss = 2) ∧ last ≠ none
  | .gap => 3 ≤ miss ∧ miss ≤ 7 ∧ last ≠ none

/-- State, good and miss counts, fade position and last used frame agree. -/
def Peer.consistent (p : Peer) : Prop :=
  p.good ≤ 16 ∧ p.miss ≤ 8 ∧ p.fade ≤ 256 ∧ (p.good = 0 ∨ p.miss = 0) ∧ p.state.agrees p.good p.miss p.fade p.last

theorem Peer.safe_iff {p : Peer} : p.safe ↔ queueSafe p.queue ∧ p.counted ∧ p.consistent :=
  ⟨fun ⟨queue, good, miss, fade, one, counts, held⟩ => ⟨queue, counts, good, miss, fade, one, held⟩,
    fun ⟨queue, counts, good, miss, fade, one, held⟩ => ⟨queue, good, miss, fade, one, counts, held⟩⟩

theorem count16_le (n k : Nat) : count16 n k ≤ 65535 := Nat.min_le_left _ _

/-! ### Queues (R57, R59) -/

theorem queueSafe_singleton (f : LaneFrame) : queueSafe [f] := ⟨Nat.le_add_left 1 3, .singleton f⟩

theorem queueSafe_tail {queue : List LaneFrame} (h : queueSafe queue) : queueSafe queue.tail :=
  ⟨(List.tail_sublist queue).length_le.trans h.1, h.2.tail⟩

/-- A frame newer than the newest one queued joins a queue that has a place (R59). -/
theorem queueSafe_append {queue : List LaneFrame} {f : LaneFrame} (h : queueSafe queue) (room : queue.length < 4)
    (newer : ∀ newest ∈ queue.getLast?, 0 < tagDiff f.tag newest.tag) : queueSafe (queue ++ [f]) := by
  refine ⟨?_, List.isChain_append.mpr ⟨h.2, .singleton f, fun newest hn g hg => ?_⟩⟩
  · rw [List.length_append, List.length_singleton]
    exact room
  · obtain rfl := Option.mem_some_iff.mp hg
    exact newer newest hn

/-- A frame newer than the newest one queued pushes the head out (R59). -/
theorem queueSafe_push {queue : List LaneFrame} {f : LaneFrame} (h : queueSafe queue)
    (newer : ∀ newest ∈ queue.getLast?, 0 < tagDiff f.tag newest.tag) : queueSafe (queue.tail ++ [f]) := by
  cases queue with
  | nil => exact queueSafe_singleton f
  | cons oldest rest => exact queueSafe_append (queueSafe_tail h) h.1 fun g hg => newer g (List.mem_getLast?_cons hg)

/-! ### Arrivals (R58, R59) -/

theorem Peer.safe_garbled {p : Peer} (h : p.safe) : p.garbled.safe := by
  obtain ⟨queue, ⟨used, missed, stale, overrun, -, realign⟩, held⟩ := safe_iff.mp h
  exact safe_iff.mpr ⟨queue, ⟨used, missed, stale, overrun, count16_le _ _, realign⟩, held⟩

/-- What an arrival makes of a queue: stale, the only frame after a jump, or joined behind frames it is newer than (R59). -/
theorem Peer.arrive_cases (due : Tag) (f : LaneFrame) (p : Peer) :
    p.arrive due f = { p with stale := count16 p.stale 1 } ∨
    p.arrive due f = { p with queue := [f], realign := count16 p.realign 1 } ∨
    (∀ newest ∈ p.queue.getLast?, 0 < tagDiff f.tag newest.tag) ∧
      (p.arrive due f = { p with queue := p.queue.tail ++ [f], overrun := count16 p.overrun 1 } ∨
        p.queue.length < 4 ∧ p.arrive due f = { p with queue := p.queue ++ [f] }) := by
  unfold Peer.arrive
  by_cases late : tagDiff f.tag due < 0
  · exact .inl (if_pos late)
  rw [if_neg late]
  cases queued : p.queue.getLast? with
  | none =>
    have empty : p.queue = [] := List.getLast?_eq_none_iff.mp queued
    exact .inr (.inr ⟨fun _ hg => (nomatch hg), .inr ⟨by simp [empty], by simp [empty]⟩⟩)
  | some newest =>
    by_cases newer : 0 < tagDiff f.tag newest.tag
    · refine .inr (.inr ⟨fun g hg => ?_, ?_⟩)
      · obtain rfl := Option.mem_some_iff.mp hg
        exact newer
      · by_cases full : 4 ≤ p.queue.length
        · exact .inl (by simp [newer, full])
        · exact .inr ⟨not_le.mp full, by simp [newer, full]⟩
    · exact .inr (.inl (by simp [not_lt.mp newer]))

theorem Peer.safe_arrive {p : Peer} (due : Tag) (f : LaneFrame) (h : p.safe) : (p.arrive due f).safe := by
  obtain ⟨queue, ⟨used, missed, stale, overrun, malformed, realign⟩, held⟩ := safe_iff.mp h
  obtain late | jumped | ⟨newer, pushed | ⟨room, joined⟩⟩ := p.arrive_cases due f
  · rw [late]
    exact safe_iff.mpr ⟨queue, ⟨used, missed, count16_le _ _, overrun, malformed, realign⟩, held⟩
  · rw [jumped]
    exact safe_iff.mpr ⟨queueSafe_singleton f, ⟨used, missed, stale, overrun, malformed, count16_le _ _⟩, held⟩
  · rw [pushed]
    exact safe_iff.mpr ⟨queueSafe_push queue newer, ⟨used, missed, stale, count16_le _ _, malformed, realign⟩, held⟩
  · rw [joined]
    exact safe_iff.mpr ⟨queueSafe_append queue room newer, ⟨used, missed, stale, overrun, malformed, realign⟩, held⟩

/-! ### Due requests (R60 to R66) -/

theorem Peer.counted_answered {p : Peer} {f : LaneFrame} {rest : List LaneFrame} (h : p.counted) : (p.answered f rest).counted := by
  obtain ⟨-, missed, stale, overrun, malformed, realign⟩ := h
  exact ⟨count16_le _ _, missed, stale, overrun, malformed, realign⟩

theorem Peer.counted_unanswered {p : Peer} {rest : List LaneFrame} (h : p.counted) : (p.unanswered rest).counted := by
  obtain ⟨used, -, stale, overrun, malformed, realign⟩ := h
  exact ⟨used, count16_le _ _, stale, overrun, malformed, realign⟩

/-- An on-time answer moves ABSENT to ACQUIRING, ACQUIRING to LIVE at the 16th in a row, and every other state to LIVE (R63). -/
theorem PeerState.agrees_afterOnTime {state : PeerState} {good miss fade : Nat} {last : Option LaneFrame} (f : LaneFrame)
    (h : state.agrees good miss fade last) :
    (state.afterOnTime (min 16 (good + 1))).agrees (min 16 (good + 1)) 0
      (if state = .acquiring ∧ state.afterOnTime (min 16 (good + 1)) = .live then 0 else fade) (some f) := by
  cases state <;> grind [PeerState.afterOnTime, PeerState.agrees]

/-- A missed answer moves LIVE to HOLD, HOLD to GAP at the third in a row, and ACQUIRING and GAP to ABSENT at the eighth (R63). -/
theorem PeerState.agrees_afterMiss {state : PeerState} {good miss fade : Nat} {last : Option LaneFrame}
    (h : state.agrees good miss fade last) :
    (state.afterMiss (min 8 (miss + 1))).agrees 0 (min 8 (miss + 1))
      (if state ≠ .absent ∧ state.afterMiss (min 8 (miss + 1)) = .absent then 0 else fade)
      (if state ≠ .absent ∧ state.afterMiss (min 8 (miss + 1)) = .absent then none else last) := by
  cases state <;> grind [PeerState.afterMiss, PeerState.agrees]

theorem ite_zero_le {c : Prop} [Decidable c] {n m : Nat} (h : n ≤ m) : (if c then 0 else n) ≤ m := by
  split
  · exact Nat.zero_le m
  · exact h

theorem Peer.consistent_answered {p : Peer} (f : LaneFrame) (rest : List LaneFrame) (h : p.consistent) :
    (p.answered f rest).consistent := by
  obtain ⟨-, -, fade, -, agree⟩ := h
  exact ⟨Nat.min_le_left _ _, Nat.zero_le 8, ite_zero_le fade, .inr rfl, PeerState.agrees_afterOnTime f agree⟩

theorem Peer.consistent_unanswered {p : Peer} (rest : List LaneFrame) (h : p.consistent) : (p.unanswered rest).consistent := by
  obtain ⟨-, -, fade, -, agree⟩ := h
  exact ⟨Nat.zero_le 16, Nat.min_le_left _ _, ite_zero_le fade, .inl rfl, PeerState.agrees_afterMiss agree⟩

theorem Peer.safe_request {p : Peer} (tag : Tag) (h : p.safe) : (p.request tag).safe := by
  obtain ⟨queue, ⟨used, missed, -, overrun, malformed, realign⟩, held⟩ := safe_iff.mp h
  have due := Peer.queueSafe_dueQueue tag queue.1
  have counted : ({ p with stale := count16 p.stale (p.queue.length - (p.dueQueue tag).length) } : Peer).counted :=
    ⟨used, missed, count16_le _ _, overrun, malformed, realign⟩
  unfold Peer.request
  dsimp only
  split
  · exact safe_iff.mpr ⟨queueSafe_tail due, counted_answered counted, consistent_answered _ _ held⟩
  · exact safe_iff.mpr ⟨due, counted_unanswered counted, consistent_unanswered _ held⟩

/-- The fade of a LIVE or HOLD peer rises, and stops at 256 (R66). -/
theorem Peer.safe_rise {p : Peer} (h : p.safe) : p.rise.safe := by
  obtain ⟨queue, counted, good, miss, fade, one, held⟩ := safe_iff.mp h
  have risen (state : p.state = .live ∨ p.state = .hold) : ({ p with fade := min 256 (p.fade + 1) } : Peer).safe := by
    refine safe_iff.mpr ⟨queue, counted, good, miss, Nat.min_le_left _ _, one, ?_⟩
    obtain state | state := state <;> rw [state] at held ⊢ <;> exact held
  unfold Peer.rise
  split
  · next live => exact risen (.inl live)
  · next hold => exact risen (.inr hold)
  · exact h
  · exact h
  · exact h

/-- READ PEERS clears the counters and nothing else of a record (R69). -/
theorem Peer.safe_cleared {p : Peer} (h : p.safe) : p.cleared.safe := by
  obtain ⟨queue, -, held⟩ := safe_iff.mp h
  exact safe_iff.mpr ⟨queue, by simp [Peer.counted, Peer.cleared], held⟩

end Sys2Proof.Machine
end

section
/-! The completion of the own frame (R43, R51, R52), and what every step keeps of the lanes (R43, R50, R52, R57). -/

namespace Sys2Proof.Machine

/-! ### The completion of the own frame (R51, R52) -/

/-- The lane transmitter after a completion that declares no conflict: the waiting frame starts (R43, R51). -/
def LaneTx.advanced (count : Nat) (tx : LaneTx) : LaneTx := { tx with inFlight := tx.waiting, waiting := none, mismatches := count }

theorem isMatch_iff {f : LaneFrame} {readBack : List Byte} {clean : Bool} :
    isMatch f readBack clean = true ↔ readBack = laneFrameBytes f ∧ clean = true := by
  rw [isMatch, Bool.and_eq_true, beq_iff_eq]

theorem isMatch_eq_false {f : LaneFrame} {readBack : List Byte} {clean : Bool} :
    isMatch f readBack clean = false ↔ readBack ≠ laneFrameBytes f ∨ clean = false := by
  rw [← Bool.not_eq_true, isMatch_iff, not_and_or, Bool.not_eq_true]

section
variable {s : State} {f : LaneFrame} {readBack : List Byte} {clean : Bool}

theorem completeLaneFrame_idle (idle : s.tx.inFlight = none) : completeLaneFrame readBack clean s = s := by
  rw [completeLaneFrame, idle]

theorem completeLaneFrame_match (sent : s.tx.inFlight = some f) (same : isMatch f readBack clean = true) :
    completeLaneFrame readBack clean s = s.setTx (s.tx.advanced 0) := by
  rw [completeLaneFrame, sent]
  dsimp only
  rw [if_pos same]
  exact if_neg (by decide)

theorem completeLaneFrame_mismatch (sent : s.tx.inFlight = some f) (differs : isMatch f readBack clean = false) :
    completeLaneFrame readBack clean s =
      if 1 ≤ s.tx.mismatches then declareConflict s else s.setTx (s.tx.advanced (s.tx.mismatches + 1)) := by
  rw [completeLaneFrame, sent]
  simp only [differs, Bool.false_eq_true, ↓reduceIte, Nat.reduceLeDiff, LaneTx.advanced]

end

/-- A slot conflict, block by block: the transmitter falls silent, its pending B section kept (log entry 51), the send queue is emptied,
and SLOT CONFLICT is raised (R52, R106). -/
theorem declareConflict_blocks (s : State) :
    (declareConflict s).tx = ⟨.conflictSilent, none, none, s.tx.pendingB, 0⟩ ∧
    (declareConflict s).group = { s.group with queue := [] } ∧
    (∀ c, (declareConflict s).causeSet c = (s.causeSet c || c == .slotConflict)) ∧
    declareConflict s =
      ((s.setTx (declareConflict s).tx).setGroup (declareConflict s).group).setControl (declareConflict s).control :=
  ⟨rfl, rfl, fun c => causeSet_raise _ c _, rfl⟩

theorem listenOnly_of_conflictSilent {s : State} (h : s.tx.drive = .conflictSilent) : s.listenOnly = true := by
  rw [State.listenOnly, h]
  rfl

theorem soloDrive_of_listenOnly {s : State} (h : s.listenOnly = true) : s.soloDrive = false := by
  rw [State.soloDrive, h, Bool.not_true, Bool.and_false, Bool.false_and]

/-- Settles O26: a match, a first mismatch and a second one, each by what the completion then does. -/
theorem laneFrameCompletionComparesTheReadBack : Obligations.LaneFrameCompletionComparesTheReadBack := by
  intro s f readBack clean pin sent continues
  have ran : exec (.laneFrameCompletion readBack clean) s = .next (completeLaneFrame readBack clean s) := onEvent_next pin _
  have goesOn {count : Nat} (h : completeLaneFrame readBack clean s = s.setTx (s.tx.advanced count)) : continues count :=
    ran.trans (congrArg Host.Outcome.next h)
  refine ⟨fun same => goesOn (completeLaneFrame_match sent (isMatch_iff.mpr same)), fun differs => ?_⟩
  have mismatch := completeLaneFrame_mismatch sent (isMatch_eq_false.mpr differs)
  refine ⟨fun first => goesOn ?_, fun second => ?_⟩
  · rw [mismatch, first]
    rfl
  · rw [mismatch, if_pos second] at ran
    obtain ⟨tx, group, causes, rest⟩ := declareConflict_blocks s
    have silent : (declareConflict s).listenOnly = true := listenOnly_of_conflictSilent (congrArg LaneTx.drive tx)
    refine ⟨declareConflict s, ran, tx, group, ?_, silent, soloDrive_of_listenOnly silent, fun c other => ?_, rest⟩
    · rw [causes, BEq.rfl, Bool.or_true]
    · rw [causes, beq_eq_false_iff_ne.mpr other, Bool.or_false]

/-! ### The lane transmitter (R43, R50, R52) -/

/-- A frame waits only behind one in flight, at most one mismatch is counted, and a silent transmitter is idle. -/
def LaneTx.safe (tx : LaneTx) : Prop :=
  (tx.waiting ≠ none → tx.inFlight ≠ none) ∧ tx.mismatches ≤ 1 ∧ (tx.drive ≠ .driving → tx.inFlight = none ∧ tx.mismatches = 0)

theorem lanesSafe_iff {s : State} : LanesSafe s ↔ (∀ j : Fin 16, s.peers[j].safe) ∧ s.tx.safe := by
  have silent : s.listenOnly = true ↔ s.tx.drive ≠ .driving := bne_iff_ne
  rw [LanesSafe, LaneTx.safe, silent]

theorem SameLanes.lanesSafe {s t : State} (h : SameLanes s t) (safe : LanesSafe s) : LanesSafe t := by
  rw [lanesSafe_iff, h.tx, h.peers]
  exact lanesSafe_iff.mp safe

/-- A transmitter with nothing in flight, nothing waiting and no mismatch is safe in every drive state. -/
theorem LaneTx.safe_idle (drive : Drive) (pendingB : BusList) : (LaneTx.mk drive none none pendingB 0).safe :=
  ⟨fun waits => absurd rfl waits, Nat.zero_le 1, fun _ => ⟨rfl, rfl⟩⟩

theorem LaneTx.safe_advanced {tx : LaneTx} {count : Nat} (driving : tx.drive = .driving) (few : count ≤ 1) :
    (tx.advanced count).safe := ⟨fun waits => absurd rfl waits, few, fun silent => absurd driving silent⟩

theorem lanesSafe_completeLaneFrame {s : State} (readBack : List Byte) (clean : Bool) (h : LanesSafe s) :
    LanesSafe (completeLaneFrame readBack clean s) := by
  obtain ⟨peers, tx⟩ := lanesSafe_iff.mp h
  cases sent : s.tx.inFlight with
  | none => rwa [completeLaneFrame_idle sent]
  | some f =>
    have driving : s.tx.drive = .driving := by
      by_contra silent
      cases sent.symm.trans (tx.2.2 silent).1
    cases same : isMatch f readBack clean with
    | true =>
      rw [completeLaneFrame_match sent same]
      exact lanesSafe_iff.mpr ⟨peers, LaneTx.safe_advanced driving (Nat.zero_le 1)⟩
    | false =>
      rw [completeLaneFrame_mismatch sent same]
      split
      · exact lanesSafe_iff.mpr ⟨peers, LaneTx.safe_idle _ _⟩
      · next first => exact lanesSafe_iff.mpr ⟨peers, LaneTx.safe_advanced driving (not_le.mp first)⟩

theorem lanesSafe_handOverA {s : State} (a : BusList) (h : LanesSafe s) : LanesSafe (handOverA a s) := by
  cases listen : s.listenOnly with
  | true => rwa [handOverA_listenOnly a listen]
  | false =>
    obtain ⟨peers, waits, few, -⟩ := lanesSafe_iff.mp h
    have driving := listenOnly_eq_false.mp listen
    obtain ⟨starts, queues, -⟩ := handOverA_driving a listen
    obtain ⟨-, -, -, -, samePeers, -⟩ := handOverA_blocks a s
    refine lanesSafe_iff.mpr ⟨by rwa [samePeers], ?_⟩
    by_cases free : s.tx.inFlight = none
    · rw [starts free]
      exact ⟨fun _ => Option.some_ne_none _, few, fun silent => absurd driving silent⟩
    · rw [queues free]
      exact ⟨fun _ => free, few, fun silent => absurd driving silent⟩

/-! ### The peers (R57 to R71) -/

theorem lanesSafe_setPeers {s : State} {v : Vector Peer 16} (h : LanesSafe s) (peers : ∀ j : Fin 16, v[j].safe) :
    LanesSafe (s.setPeers v) := lanesSafe_iff.mpr ⟨peers, (lanesSafe_iff.mp h).2⟩

theorem lanesSafe_modPeer {s : State} {lane : Fin 16} {f : Peer → Peer} (h : LanesSafe s) (k : ∀ p : Peer, p.safe → (f p).safe) :
    LanesSafe (modPeer lane f s) := by
  refine lanesSafe_setPeers h fun j => ?_
  rw [set_get]
  split
  · exact k _ (h.1 lane)
  · exact h.1 j

theorem lanesSafe_takeLaneFrame {s : State} (lane : Fin 16) (bytes : List Byte) (h : LanesSafe s) :
    LanesSafe (takeLaneFrame lane bytes s) := by
  unfold takeLaneFrame
  split
  · exact h
  · split
    · exact lanesSafe_modPeer h fun _ => Peer.safe_garbled
    · exact lanesSafe_modPeer h fun _ => Peer.safe_arrive _ _

/-- A boundary asks every peer and raises its fade, and of the transmitter replaces the pending B section at most (R60, R66, R42). -/
theorem BoundaryMade.lanesSafe {s v t : State} (h : BoundaryMade s v t) (safe : LanesSafe s) : LanesSafe t := by
  obtain ⟨peers, tx⟩ := lanesSafe_iff.mp safe
  refine lanesSafe_iff.mpr ⟨fun j => ?_, ?_⟩
  · rw [h.done.peers, readyToSum_peers, h.peers]
    split
    · exact peers j
    · exact Peer.safe_rise (Peer.safe_request _ (peers j))
  · rw [h.done.tx, h.tx]
    split
    · exact tx
    · exact tx

/-- ENGINE RESTART resets every peer record and cuts the transmitter short (R54, R71). -/
theorem lanesSafe_restartWork {s : State} (h : LanesSafe s) : LanesSafe (restartWork s) := by
  have restarted := engineRestarted s
  refine lanesSafe_iff.mpr ⟨fun j => ?_, ?_⟩
  · rw [restarted.peers, restartAudio_peer]
    split
    · exact h.1 j
    · exact Peer.safe_reset
  · rw [restarted.tx, restartAudio_tx]
    exact LaneTx.safe_idle _ _

/-! ### The commands that act on the lanes -/

theorem lanesSafe_onEvent {s t : State} {f : State → State} (safe : LanesSafe s) (k : LanesSafe (f s)) (h : onEvent s f = .next t) :
    LanesSafe t := by
  obtain rfl := Host.Outcome.next.inj h
  split
  · exact safe
  · exact k

theorem lanesSafe_readPeers {address : BitVec 16} {data : List Byte} {s t : State} (safe : LanesSafe s)
    (h : execReadPeers address data s = .next t) : LanesSafe t := by
  obtain rfl := Host.Outcome.next.inj h
  have replied {u : State} (status : Status) (bytes : List Byte) (safe : LanesSafe u) : LanesSafe (respond status bytes u) :=
    (sameLanes_respond status bytes u).lanesSafe safe
  split
  · exact SameLanes.lanesSafe ⟨rfl, rfl⟩ safe
  · split
    · dsimp only
      split
      · exact replied _ _ safe
      · refine replied _ _ (lanesSafe_setPeers safe fun j => ?_)
        rw [mapFin_get]
        split
        · exact Peer.safe_cleared (safe.1 j)
        · exact safe.1 j
    · exact replied _ _ safe

theorem lanesSafe_engineRestart {address : BitVec 16} {data : List Byte} {s t : State} (safe : LanesSafe s)
    (h : execEngineRestart address data s = .next t) : LanesSafe t := by
  obtain rfl := Host.Outcome.next.inj h
  split
  · exact SameLanes.lanesSafe ⟨rfl, rfl⟩ safe
  · split
    · exact (sameLanes_respond _ _ _).lanesSafe (lanesSafe_restartWork safe)
    · exact (sameLanes_refuse _ s).lanesSafe safe

theorem exec_actsOnLanes {c : Instr} {s t : State} (acts : actsOnLanes c) (safe : LanesSafe s) (h : exec c s = .next t) :
    LanesSafe t := by
  cases c with
  | stripFrameProcess =>
    rw [exec, execStripFrameProcess] at h
    refine lanesSafe_onEvent safe ?_ h
    split
    · exact safe
    · next samples _ =>
      rw [processFrame_eq]
      exact lanesSafe_handOverA _ (SameLanes.lanesSafe (t := s.formed samples) ⟨rfl, rfl⟩ safe)
  | laneFrameCompletion readBack clean => exact lanesSafe_onEvent safe (lanesSafe_completeLaneFrame readBack clean safe) h
  | frameArrival lane bytes => exact lanesSafe_onEvent safe (lanesSafe_takeLaneFrame lane bytes safe) h
  | readPeers => exact lanesSafe_readPeers safe h
  | engineRestart => exact lanesSafe_engineRestart safe h
  | _ => exact acts.elim

/-! ### The resets (R173) and every command -/

/-- A reset idles the transmitter and resets every record; the assertion of RESET cuts the frames short (R54, R56). -/
theorem exec_reset_lanesSafe {c : Instr} {s t : State} (reset : isReset c) (safe : LanesSafe s) (h : exec c s = .next t) :
    LanesSafe t := by
  cases c with
  | powerOnReset straps | resetPinRelease straps =>
    obtain rfl := Host.Outcome.next.inj h
    exact SameLanes.lanesSafe ⟨rfl, rfl⟩ (lanesSafe_resetWith straps)
  | resetPinAssert =>
    obtain rfl := Host.Outcome.next.inj h
    obtain ⟨peers, -, few, silent⟩ := lanesSafe_iff.mp safe
    exact lanesSafe_iff.mpr ⟨peers, fun waits => absurd rfl waits, few, fun drive => ⟨rfl, (silent drive).2⟩⟩
  | _ => exact reset.elim

theorem exec_lanesSafe {c : Instr} {s t : State} (safe : LanesSafe s) (h : exec c s = .next t) : LanesSafe t := by
  by_cases reset : isReset c
  · exact exec_reset_lanesSafe reset safe h
  by_cases acts : actsOnLanes c
  · exact exec_actsOnLanes acts safe h
  by_cases bound : makesBoundary s c
  · cases pin : s.resetPin with
    | true =>
      obtain rfl := Host.Outcome.next.inj ((exec_boundary_pinned pin bound).symm.trans h)
      exact safe
    | false =>
      obtain ⟨v, u, ran, made⟩ := exec_boundaryMade pin bound
      obtain rfl := Host.Outcome.next.inj (ran.symm.trans h)
      exact made.lanesSafe safe
  · exact (exec_sameLanes h bound reset acts).lanesSafe safe

/-- Settles O28: resets, boundaries and the commands that act on the lanes each keep them safe, and no other command touches them. -/
theorem stepKeepsLanesSafe : Obligations.StepKeepsLanesSafe := by
  intro s t safe h
  unfold step at h
  split at h
  · obtain rfl := Host.Outcome.next.inj h
    exact safe
  · next c rest _ =>
    have taken : SameLanes s (s.setPending rest) := ⟨rfl, rfl⟩
    exact exec_lanesSafe (taken.lanesSafe safe) h

end Sys2Proof.Machine
end

section
/-! A lane frame as its bytes, and its bytes read back (R40, R41, R47, R48, R176). -/

namespace Sys2Proof.Machine

/-! ### The check (R47, R175) -/

theorem length_beBytes (n v : Nat) : (beBytes n v).length = n := by
  rw [beBytes, List.length_map, List.length_reverse, List.length_range]

/-- Bytes that end in two check bytes give the body before them where the check is the one recomputed, and none otherwise. -/
theorem checkedBody_append {body check : List Byte} (two : check.length = 2) :
    checkedBody (body ++ check) = if check = beBytes 2 (crc16 body).toNat then some body else none := by
  have cut : (body ++ check).take ((body ++ check).length - 2) = body := by
    rw [List.length_append, two, Nat.add_sub_cancel, List.take_left']
    rfl
  rw [checkedBody, cut, withCheck]
  simp only [List.append_cancel_left_eq, eq_comm]

theorem checkedBody_withCheck (body : List Byte) : checkedBody (withCheck body) = some body := by
  rw [withCheck, checkedBody_append (length_beBytes 2 _), if_pos rfl]

/-! ### The owned set (R41, R176) -/

/-- A byte of marks, the first in its most significant bit. -/
theorem testBit_marks (mark : Nat → Bool) {n i : Nat} (hi : i < n) :
    ((List.range n).foldl (fun acc i => acc * 2 + if mark i then 1 else 0) 0).testBit (n - 1 - i) = mark i := by
  induction n with
  | zero => cases hi
  | succ n ih =>
    have shifted (acc : Nat) (b : Bool) : (acc * 2 + if b then 1 else 0) = Nat.bit b acc := by
      cases b <;> simp [Nat.bit, Nat.mul_comm]
    rw [List.range_succ, List.foldl_append, List.foldl_cons, List.foldl_nil, shifted, Nat.add_sub_cancel]
    obtain before | rfl := Nat.lt_succ_iff_lt_or_eq.mp hi
    · have place : n - i = (n - 1 - i).succ := by omega
      rw [place, Nat.testBit_bit_succ]
      exact ih before
    · rw [Nat.sub_self, Nat.testBit_bit_zero]

theorem length_setBytes (n : Nat) (members : List Nat) : (setBytes n members).length = n := by
  rw [setBytes, List.length_map, List.length_range]

/-- The bit of a number in a field of marks says whether it is a member. -/
theorem setBytes_bit {n p : Nat} (members : List Nat) (hp : p < 8 * n) :
    ((setBytes n members).getD (p / 8) 0).getLsbD (7 - p % 8) = members.contains p := by
  have byte_ : p / 8 < n := by omega
  have bit : p % 8 < 8 := Nat.mod_lt _ (by decide)
  have place : 8 * (p / 8) + p % 8 = p := Nat.div_add_mod p 8
  rw [List.getD_eq_getElem?_getD, setBytes, List.getElem?_map, List.getElem?_range byte_]
  simp only [Option.map_some, Option.getD_some, BitVec.getLsbD_ofNat]
  rw [testBit_marks (fun i => members.contains (8 * (p / 8) + i)) bit, place, decide_eq_true (by omega), Bool.true_and]

/-- A set written in ascending order is read back from its marks. -/
theorem readSet_setBytes {n : Nat} {members : List Nat} (ascends : members.Pairwise (· < ·)) (below : ∀ p ∈ members, p < 8 * n) :
    readSet (setBytes n members) = members := by
  refine List.Pairwise.eq_of_mem_iff (r := (· < ·)) (List.pairwise_lt_range.filter _) ascends fun p => ?_
  rw [readSet, List.mem_filter, List.mem_range, length_setBytes]
  constructor
  · rintro ⟨hp, marked⟩
    rwa [setBytes_bit members hp, List.contains_iff_mem] at marked
  · intro member
    have hp := below p member
    exact ⟨hp, by rwa [setBytes_bit members hp, List.contains_iff_mem]⟩

/-! ### The entries (R41, R176) -/

/-- The four bytes of a word, put together again. -/
theorem append_extractLsb'_four (x : BitVec 32) :
    x.extractLsb' 24 8 ++ x.extractLsb' 16 8 ++ x.extractLsb' 8 8 ++ x.extractLsb' 0 8 = x := by
  rw [BitVec.extractLsb'_append_extractLsb'_eq_extractLsb' (show 24 = 16 + 8 from rfl),
    BitVec.extractLsb'_append_extractLsb'_eq_extractLsb' (show 16 = 8 + 8 from rfl),
    BitVec.extractLsb'_append_extractLsb'_eq_extractLsb' (show 8 = 0 + 8 from rfl)]
  exact BitVec.extractLsb'_eq_self

/-- The four bytes of a value of the wide range, and the value they give back. -/
theorem beSigned_four {v : Int} (low : -2147483648 ≤ v) (high : v ≤ 2147483647) :
    ∃ b3 b2 b1 b0 : Byte, beSigned 4 v = [b3, b2, b1, b0] ∧ (b3 ++ b2 ++ b1 ++ b0).toInt = v := by
  refine ⟨(BitVec.ofInt 32 v).extractLsb' 24 8, (BitVec.ofInt 32 v).extractLsb' 16 8, (BitVec.ofInt 32 v).extractLsb' 8 8,
    (BitVec.ofInt 32 v).extractLsb' 0 8, rfl, ?_⟩
  rw [append_extractLsb'_four, BitVec.toInt_ofInt, Int.bmod_eq_of_le] <;> omega

theorem entryBytes_cons (e : Nat × Int) (entries : BusList) :
    entryBytes (e :: entries) = BitVec.ofNat 8 e.1 :: (beSigned 4 e.2 ++ entryBytes entries) := rfl

theorem length_entryBytes (entries : BusList) : (entryBytes entries).length = 5 * entries.length := by
  induction entries with
  | nil => rfl
  | cons e entries ih =>
    rw [entryBytes_cons, List.length_cons, List.length_append, beSigned, length_beBytes, ih, List.length_cons]
    omega

theorem toNat_byte {n : Nat} (h : n < 256) : (BitVec.ofNat 8 n).toNat = n := BitVec.toNat_ofNat n 8 ▸ Nat.mod_eq_of_lt h

/-- Entries whose bus fits a byte and whose value is in the wide range are read back from their bytes. -/
theorem readEntries_entryBytes {entries : BusList} (buses : ∀ e ∈ entries, e.1 < 256)
    (values : ∀ e ∈ entries, -2147483648 ≤ e.2 ∧ e.2 ≤ 2147483647) : readEntries (entryBytes entries) = entries := by
  induction entries with
  | nil => rfl
  | cons e entries ih =>
    obtain ⟨low, high⟩ := values e List.mem_cons_self
    obtain ⟨b3, b2, b1, b0, bytes, value⟩ := beSigned_four low high
    have rest := ih (fun x hx => buses x (List.mem_cons_of_mem _ hx)) fun x hx => values x (List.mem_cons_of_mem _ hx)
    rw [entryBytes_cons, bytes]
    simp only [List.cons_append, List.nil_append, readEntries]
    rw [toNat_byte (buses e List.mem_cons_self), value, rest]

/-! ### The fields (R40, R176) -/

/-- The first byte of a lane frame: slot and clock state (R176). -/
def LaneFrame.head (f : LaneFrame) : Byte := BitVec.ofNat 8 (16 * f.slot.val + 4 * f.clock.code)

/-- Slot and clock state are read back from the first byte. -/
theorem LaneFrame.head_fields (f : LaneFrame) :
    (f.head.extractLsb' 4 4).toFin = f.slot ∧ ClockState.ofBits (f.head.extractLsb' 2 2) = f.clock := by
  have fields (slot : Fin 16) (clock : ClockState) :
      ((BitVec.ofNat 8 (16 * slot.val + 4 * clock.code)).extractLsb' 4 4).toFin = slot ∧
        ClockState.ofBits ((BitVec.ofNat 8 (16 * slot.val + 4 * clock.code)).extractLsb' 2 2) = clock := by
    cases clock <;> decide +revert
  exact fields f.slot f.clock

theorem laneFrameBody_eq (f : LaneFrame) : laneFrameBody f =
    f.head :: f.tag :: (setBytes 8 f.owned ++
      BitVec.ofNat 8 f.a.length :: (entryBytes f.a ++ BitVec.ofNat 8 f.b.length :: entryBytes f.b)) := by
  simp only [laneFrameBody, LaneFrame.head, List.append_assoc, List.cons_append, List.nil_append]

theorem length_laneFrameBytes (f : LaneFrame) : (laneFrameBytes f).length = 14 + 5 * (f.a.length + f.b.length) := by
  rw [laneFrameBytes, withCheck, laneFrameBody_eq]
  simp only [List.length_append, List.length_cons, length_setBytes, length_entryBytes, length_beBytes]
  omega

/-- The fields of a frame are found in its body where each section's count fits its byte. -/
theorem readLaneFields_body {f : LaneFrame} (ha : f.a.length < 256) (hb : f.b.length < 256) :
    readLaneFields (laneFrameBody f) = some ⟨f.slot, f.clock, f.tag, readSet (setBytes 8 f.owned), readEntries (entryBytes f.a),
      readEntries (entryBytes f.b)⟩ := by
  obtain ⟨slot, clock⟩ := f.head_fields
  have eight : ∃ o0 o1 o2 o3 o4 o5 o6 o7, setBytes 8 f.owned = [o0, o1, o2, o3, o4, o5, o6, o7] := ⟨_, _, _, _, _, _, _, _, rfl⟩
  obtain ⟨o0, o1, o2, o3, o4, o5, o6, o7, owned⟩ := eight
  have lengthA := length_entryBytes f.a
  have lengthB := length_entryBytes f.b
  rw [laneFrameBody_eq, owned]
  simp only [readLaneFields, List.cons_append, List.nil_append, toNat_byte ha, ← lengthA, List.drop_left, List.take_left,
    toNat_byte hb, ← lengthB, slot, clock]
  rw [if_pos (by rw [List.length_append, List.length_cons]; omega)]

/-! ### Frames in order and within the capacity (R41, R48) -/

/-- A frame that a station may send: owned set and sections in order, on their buses and within the capacity, values in the wide
range (R40, R41). -/
structure LaneFrame.sendable (rate : Rate) (f : LaneFrame) : Prop where
  owned : f.owned.Pairwise (· < ·)
  channels : ∀ p ∈ f.owned, p < 64
  orderA : (f.a.map Prod.fst).Pairwise (· < ·)
  busesA : ∀ e ∈ f.a, e.1 < 64
  roomA : f.a.length ≤ rate.capacity
  orderB : (f.b.map Prod.fst).Pairwise (· < ·)
  busesB : ∀ e ∈ f.b, 64 ≤ e.1 ∧ e.1 < 128
  roomB : f.b.length ≤ rate.capacity
  values : ∀ e ∈ f.a ++ f.b, -2147483648 ≤ e.2 ∧ e.2 ≤ 2147483647

theorem ascending_of_pairwise {l : List Nat} (h : l.Pairwise (· < ·)) : ascending l = true := by
  induction l with
  | nil => rfl
  | cons a l ih =>
    cases l with
    | nil => rfl
    | cons b rest =>
      have first : a < b := List.rel_of_pairwise_cons h List.mem_cons_self
      rw [ascending, decide_eq_true first, ih h.of_cons, Bool.and_true]

theorem sectionOk_of {capacity lo hi : Nat} {entries : BusList} (room : entries.length ≤ capacity)
    (order : (entries.map Prod.fst).Pairwise (· < ·)) (buses : ∀ e ∈ entries, lo ≤ e.1 ∧ e.1 < hi) :
    sectionOk capacity lo hi entries = true := by
  rw [sectionOk, decide_eq_true room, ascending_of_pairwise order, Bool.true_and, Bool.true_and, List.all_eq_true]
  exact fun e he => decide_eq_true (buses e he)

theorem capacity_lt_byte (rate : Rate) : rate.capacity < 256 := by cases rate <;> decide

theorem LaneFrame.sendable.readLaneFields {rate : Rate} {f : LaneFrame} (h : f.sendable rate) :
    readLaneFields (laneFrameBody f) = some f := by
  have short := capacity_lt_byte rate
  rw [readLaneFields_body (h.roomA.trans_lt short) (h.roomB.trans_lt short), readSet_setBytes h.owned h.channels,
    readEntries_entryBytes (fun e he => (h.busesA e he).trans (by decide)) fun e he => h.values e (List.mem_append_left _ he),
    readEntries_entryBytes (fun e he => (h.busesB e he).2.trans (by decide)) fun e he => h.values e (List.mem_append_right _ he)]

/-- The bytes of a frame that may be sent, read on a lane: the frame on its own lane, and malformed on every other (R48). -/
theorem LaneFrame.sendable.readLaneFrame {rate : Rate} {f : LaneFrame} (h : f.sendable rate) (lane : Fin 16) :
    readLaneFrame rate lane (laneFrameBytes f) = if lane = f.slot then some f else none := by
  have a : sectionOk rate.capacity 0 64 f.a = true := sectionOk_of h.roomA h.orderA fun e he => ⟨Nat.zero_le _, h.busesA e he⟩
  have b : sectionOk rate.capacity 64 128 f.b = true := sectionOk_of h.roomB h.orderB h.busesB
  rw [Machine.readLaneFrame, laneFrameBytes, checkedBody_withCheck]
  simp only [h.readLaneFields, a, b, and_self, and_true, eq_comm]

/-- Bytes whose check is not the one recomputed are malformed on every lane (R47, R48). -/
theorem readLaneFrame_badCheck (rate : Rate) (lane : Fin 16) {body check : List Byte} (two : check.length = 2)
    (bad : check ≠ beBytes 2 (crc16 body).toNat) : readLaneFrame rate lane (body ++ check) = none := by
  rw [readLaneFrame, checkedBody_append two, if_neg bad]

/-- Settles O24: the check, the marks, the entries and the fields of a frame are each read back from their bytes. -/
theorem laneFrameReadsBack : Obligations.LaneFrameReadsBack := by
  intro rate f owned channels orderA busesA roomA orderB busesB roomB values
  have sendable : f.sendable rate := ⟨owned, channels, orderA, busesA, roomA, orderB, busesB, roomB, values⟩
  refine ⟨?_, fun lane other => ?_, fun high low bad => readLaneFrame_badCheck rate f.slot rfl bad, length_laneFrameBytes f⟩
  · rw [sendable.readLaneFrame, if_pos rfl]
  · rw [sendable.readLaneFrame, if_neg other]

end Sys2Proof.Machine
end

section
/-! A frame arrival and the peer queue it meets (R38, R55, R58, R59). -/

namespace Sys2Proof.Machine

/-! ### A well-formed arrival, by the queue it meets (R59) -/

section
variable {p : Peer} {due : Tag} {f : LaneFrame}

theorem Peer.arrive_late (late : tagDiff f.tag due < 0) : p.arrive due f = { p with stale := count16 p.stale 1 } := if_pos late

theorem Peer.arrive_empty (inTime : 0 ≤ tagDiff f.tag due) (empty : p.queue = []) : p.arrive due f = { p with queue := [f] } := by
  rw [Peer.arrive, if_neg (not_lt.mpr inTime), empty]
  rfl

/-- An arrival in time is judged against the newest frame queued, which stands last. -/
theorem Peer.arrive_behind {older : List LaneFrame} {newest : LaneFrame} (inTime : 0 ≤ tagDiff f.tag due)
    (queued : p.queue = older ++ [newest]) :
    p.arrive due f =
      if tagDiff f.tag newest.tag ≤ 0 then { p with queue := [f], realign := count16 p.realign 1 }
      else if 4 ≤ p.queue.length then { p with queue := p.queue.tail ++ [f], overrun := count16 p.overrun 1 }
      else { p with queue := p.queue ++ [f] } := by
  have last : p.queue.getLast? = some newest := by rw [queued, List.getLast?_concat]
  simp only [Peer.arrive, if_neg (not_lt.mpr inTime), last, decide_eq_true_eq]

end

/-! ### An arrival by its lane (R38, R55, R58) -/

section
variable {s : State} {lane : Fin 16} {bytes : List Byte}

theorem takeLaneFrame_own (own : lane = s.straps.slot) : takeLaneFrame lane bytes s = s := if_pos own

theorem takeLaneFrame_malformed (peer : lane ≠ s.straps.slot) (read : readLaneFrame s.rate lane bytes = none) :
    takeLaneFrame lane bytes s = modPeer lane Peer.garbled s := by
  rw [takeLaneFrame, if_neg peer, read]

theorem takeLaneFrame_read {f : LaneFrame} (peer : lane ≠ s.straps.slot) (read : readLaneFrame s.rate lane bytes = some f) :
    takeLaneFrame lane bytes s = modPeer lane (Peer.arrive s.clock.tag f) s := by
  rw [takeLaneFrame, if_neg peer, read]

end

/-- Settles O25: the own lane, a malformed frame, a late one, and one in time by the newest frame it finds queued. -/
theorem frameArrivalIsTakenByItsPeer : Obligations.FrameArrivalIsTakenByItsPeer := by
  intro s lane bytes pin
  have ran : exec (.frameArrival lane bytes) s = .next (takeLaneFrame lane bytes s) := onEvent_next pin _
  refine ⟨fun own => by rw [ran, takeLaneFrame_own own], fun peer => ?_⟩
  intro p becomes
  refine ⟨fun malformed => ran.trans (congrArg _ (takeLaneFrame_malformed peer malformed)), fun f read => ?_⟩
  have arrives {q : Peer} (h : p.arrive s.clock.tag f = q) : becomes q := by
    rw [← h]
    exact ran.trans (congrArg _ (takeLaneFrame_read peer read))
  refine ⟨fun late => arrives (Peer.arrive_late late), fun inTime older newest queued => ?_,
    fun inTime empty => arrives (Peer.arrive_empty inTime empty)⟩
  have behind := Peer.arrive_behind inTime queued
  refine ⟨fun jumps => arrives ?_, fun newer room => arrives ?_, fun newer full => arrives ?_⟩
  · rw [behind, if_pos jumps, count16]
  · rw [behind, if_neg (not_le.mpr newer), if_neg (not_le.mpr room)]
  · rw [behind, if_neg (not_le.mpr newer), if_pos full, count16]

end Sys2Proof.Machine
end

section
/-! The due requests of a frame boundary: what each peer record becomes, and PEER CHANGE (R60 to R67, R70). -/

namespace Sys2Proof.Machine

/-! ### Which frame is taken on time (R60) -/

/-- A frame of the tag requested that a due request leaves is the one at the head, and is taken. -/
theorem Peer.onTime_of_mem {p : Peer} {tag : Tag} {f : LaneFrame} (mem : f ∈ p.dueQueue tag) (due : f.tag = tag) :
    p.onTime tag = some f := by
  obtain ⟨taken, newer, -⟩ := p.onTime_spec tag
  obtain ⟨-, ascends, -⟩ := p.dueQueue_spec tag
  cases found : p.onTime tag with
  | none => exact absurd (newer found f mem) (by rw [due, tagDiff_self]; exact lt_irrefl 0)
  | some g =>
    obtain ⟨sameTag, head⟩ := taken g found
    rw [head] at mem ascends
    obtain rfl | behind := List.mem_cons.mp mem
    · rfl
    · have later := List.rel_of_pairwise_cons ascends behind
      rw [due, sameTag] at later
      exact absurd later (lt_irrefl _)

/-- Where no frame of the tag requested is left, the request is missed. -/
theorem Peer.onTime_eq_none {p : Peer} {tag : Tag} (noneDue : ∀ f ∈ p.dueQueue tag, f.tag ≠ tag) : p.onTime tag = none := by
  cases found : p.onTime tag with
  | none => rfl
  | some g =>
    obtain ⟨sameTag, head⟩ := (p.onTime_spec tag).1 g found
    exact absurd sameTag (noneDue g (head ▸ List.mem_cons_self))

/-! ### The request by its answer (R60, R62, R63) -/

/-- A peer record with its stale counter risen by the frames a due request discards (R60). -/
def Peer.discarded (tag : Tag) (p : Peer) : Peer :=
  { p with stale := count16 p.stale (p.queue.length - (p.dueQueue tag).length) }

section
variable {p : Peer} {tag : Tag} {f : LaneFrame}

theorem Peer.request_onTime (found : p.onTime tag = some f) :
    p.request tag = (p.discarded tag).answered f (p.dueQueue tag).tail := by
  simp only [Peer.request, found, Peer.discarded]

theorem Peer.request_missed (found : p.onTime tag = none) : p.request tag = (p.discarded tag).unanswered (p.dueQueue tag) := by
  simp only [Peer.request, found, Peer.discarded]

/-- The counters that no due request moves (R60, R68). -/
theorem Peer.request_counters (tag : Tag) (p : Peer) :
    (p.request tag).overrun = p.overrun ∧ (p.request tag).malformed = p.malformed ∧ (p.request tag).realign = p.realign := by
  cases found : p.onTime tag with
  | none => rw [request_missed found]; exact ⟨rfl, rfl, rfl⟩
  | some f => rw [request_onTime found]; exact ⟨rfl, rfl, rfl⟩

/-- The rise after the summer's use moves the fade position alone (R66). -/
theorem Peer.rise_eq (p : Peer) :
    p.rise = { p with fade := if p.state = .live ∨ p.state = .hold then min 256 (p.fade + 1) else p.fade } := by
  unfold Peer.rise
  split
  · next live => rw [if_pos (.inl live)]
  · next hold => rw [if_pos (.inr hold)]
  all_goals next state => rw [if_neg (by simp [state])]

/-! ### The state after a request (R63) -/

theorem Peer.agrees_of_safe (h : p.safe) : p.state.agrees p.good p.miss p.fade p.last := by
  obtain ⟨-, -, -, -, -, -, agrees⟩ := safe_iff.mp h
  exact agrees

/-- In a consistent record, ACQUIRING becomes LIVE at the 16th on-time answer in a row exactly (R63). -/
theorem Peer.afterOnTime_eq (h : p.safe) :
    p.state.afterOnTime (min 16 (p.good + 1)) =
      match p.state with
      | .absent => .acquiring
      | .acquiring => if p.good + 1 = 16 then .live else .acquiring
      | .live => .live
      | .hold => .live
      | .gap => .live := by
  have held := agrees_of_safe h
  generalize p.state = state at held ⊢
  cases state with
  | acquiring =>
    have full : 16 ≤ min 16 (p.good + 1) ↔ p.good + 1 = 16 := by have := held.1; omega
    exact if_congr full rfl rfl
  | absent | live | hold | gap => rfl

/-- In a consistent record, HOLD becomes GAP at the third missed answer in a row, and ACQUIRING and GAP become ABSENT at the eighth,
each exactly (R63). -/
theorem Peer.afterMiss_eq (h : p.safe) :
    p.state.afterMiss (min 8 (p.miss + 1)) =
      match p.state with
      | .absent => .absent
      | .acquiring => if p.miss + 1 = 8 then .absent else .acquiring
      | .live => .hold
      | .hold => if p.miss + 1 = 2 then .hold else .gap
      | .gap => if p.miss + 1 = 8 then .absent else .gap := by
  have held := agrees_of_safe h
  generalize p.state = state at held ⊢
  cases state with
  | acquiring | gap =>
    have eighth : 8 ≤ min 8 (p.miss + 1) ↔ p.miss + 1 = 8 := by have := held.2.1; omega
    exact if_congr eighth rfl rfl
  | hold =>
    have third : 3 ≤ min 8 (p.miss + 1) ↔ ¬ p.miss + 1 = 2 := by have := held.1; omega
    exact (if_congr third rfl rfl).trans (ite_not ..)
  | absent | live => rfl

/-! ### The fade position and the last used frame (R62, R65, R66) -/

theorem Peer.absent_of_safe (h : p.safe) (absent : p.state = .absent) : p.fade = 0 ∧ p.last = none := by
  obtain ⟨-, fade, last⟩ : PeerState.absent.agrees p.good p.miss p.fade p.last := absent ▸ agrees_of_safe h
  exact ⟨fade, last⟩

/-- A request sets the fade position only where it leaves the peer LIVE or ABSENT (R65, R66). -/
theorem Peer.request_fade_kept (live : (p.request tag).state ≠ .live) (absent : (p.request tag).state ≠ .absent) :
    (p.request tag).fade = p.fade := by
  cases found : p.onTime tag with
  | none =>
    rw [request_missed found] at absent ⊢
    exact if_neg fun entered => absent entered.2
  | some f =>
    rw [request_onTime found] at live ⊢
    exact if_neg fun entered => live entered.2

/-- The fade position after a request and the rise behind it (R65, R66). -/
theorem Peer.risen_fade (tag : Tag) (h : p.safe) :
    (p.request tag).rise.fade =
      if (p.request tag).state = .absent then 0
      else if (p.request tag).state = .live ∨ (p.request tag).state = .hold then
        (if p.state = .acquiring then 1 else min 256 (p.fade + 1))
      else p.fade := by
  rw [rise_eq]
  dsimp only
  by_cases absent : (p.request tag).state = .absent
  · rw [if_pos absent, if_neg (by simp [absent]), (absent_of_safe (safe_request tag h) absent).1]
  rw [if_neg absent]
  by_cases heard : (p.request tag).state = .live ∨ (p.request tag).state = .hold
  · rw [if_pos heard, if_pos heard, request_fade heard]
    split <;> rfl
  · rw [if_neg heard, if_neg heard, request_fade_kept (fun live => heard (.inl live)) absent]

/-- A missed request empties the last used frame exactly where it leaves the peer ABSENT (R62). -/
theorem Peer.request_missed_last (h : p.safe) (found : p.onTime tag = none) :
    (p.request tag).last = if (p.request tag).state = .absent then none else p.last := by
  by_cases absent : (p.request tag).state = .absent
  · rw [if_pos absent, (absent_of_safe (safe_request tag h) absent).2]
  · rw [if_neg absent]
    rw [request_missed found] at absent ⊢
    exact if_neg fun entered => absent entered.2

end

/-! ### PEER CHANGE (R67) -/

/-- The transitions that R67 names: into ABSENT, out of it, and into LIVE from ACQUIRING. -/
theorem peerChanged_iff (before after : PeerState) : peerChanged before after = true ↔
    (before = .absent ∧ after ≠ .absent) ∨ (before ≠ .absent ∧ after = .absent) ∨ (before = .acquiring ∧ after = .live) := by
  cases before <;> cases after <;> decide

theorem causeSet_of_control {s t : State} (same : t.control = s.control) (c : Cause) : t.causeSet c = s.causeSet c := by
  rw [State.causeSet, same, State.causeSet]

theorem causeSet_raiseIf_other {c d : Cause} (other : d ≠ c) (b : Bool) (s : State) : (raiseIf b c s).causeSet d = s.causeSet d := by
  rw [causeSet_raiseIf, beq_eq_false_iff_ne.mpr other, Bool.and_false, Bool.or_false]

theorem putInForce_peerChange (s : State) : (putInForce s).causeSet .peerChange = s.causeSet .peerChange := by
  unfold putInForce
  dsimp only
  split
  · rfl
  · rw [causeSet_raiseIf_other (by decide), causeSet_of_control (State.setSummer_control _ _)]

theorem requestPeers_peerChange (tag : Tag) (s : State) :
    (requestPeers tag s).causeSet .peerChange = (s.causeSet .peerChange ||
      (List.finRange 16).any fun j => peerChanged s.peers[j].state (requestPeers tag s).peers[j].state) := by
  simp only [requestPeers, eachPeer, causeSet_raiseIf, BEq.rfl, Bool.and_true, raiseIf_peers,
    causeSet_of_control (State.setPeers_control _ _)]

theorem decideSuspensions_peerChange (given : List (Fin 16 × LaneFrame × Nat)) (s : State) :
    (decideSuspensions given s).causeSet .peerChange = s.causeSet .peerChange := by
  unfold decideSuspensions
  dsimp only
  rw [causeSet_raiseIf_other (by decide), causeSet_of_control (State.setSummer_control _ _)]

theorem updateMeters_peerChange (totals : BusList) (s : State) :
    (updateMeters totals s).causeSet .peerChange = s.causeSet .peerChange := by
  unfold updateMeters
  dsimp only
  rw [causeSet_raiseIf_other (by decide), causeSet_of_control (State.setSummer_control _ _)]

/-- Of the stages of the summer's work, the due requests alone raise PEER CHANGE (R67, R79). -/
theorem summed_peerChange (tag : Tag) (sample : Nat) (s : State) :
    (s.summed tag sample).causeSet .peerChange = (s.causeSet .peerChange ||
      (List.finRange 16).any fun j => peerChanged s.peers[j].state (s.answered tag).peers[j].state) := by
  have advanced (u : State) : (advancePremix u).causeSet .peerChange = u.causeSet .peerChange :=
    causeSet_of_control (State.setSummer_control _ _) _
  have risen (u : State) : (eachPeer Peer.rise u).causeSet .peerChange = u.causeSet .peerChange :=
    causeSet_of_control (State.setPeers_control _ _) _
  rw [State.summed, updateMeters_peerChange, State.readyToSum, advanced, decideSuspensions_peerChange, risen, State.answered,
    requestPeers_peerChange, putInForce_peerChange, putInForce_peers]

/-- Nothing of a boundary's work behind the summer's stages raises PEER CHANGE. -/
theorem boundaryWork_peerChange (tag : Tag) (sample : Nat) (s : State) :
    (boundaryWork tag sample s).causeSet .peerChange = (s.entered.summed tag sample).causeSet .peerChange := by
  have counted (u : State) : (advanceCounts u).causeSet .peerChange = u.causeSet .peerChange := causeSet_of_control rfl _
  have handed (totals : BusList) (u : State) : (handTotals totals u).causeSet .peerChange = u.causeSet .peerChange :=
    causeSet_of_control (State.setPorts_control _ _) _
  have completed (terms : BusList) (u : State) : (completeStems sample terms u).causeSet .peerChange = u.causeSet .peerChange := by
    obtain ⟨-, -, -, -, control, -⟩ := completeStems_blocks sample terms u
    exact causeSet_of_control control _
  rw [boundaryWork_eq, (mergeBoundary_playback _).2 _ (by decide), counted, summerBoundary_eq, completed, handed]

/-- A boundary asks every peer but the own slot's place, and a LIVE or HOLD one then fades on (R60, R66). -/
theorem BoundaryMade.peer {s v t : State} (h : BoundaryMade s v t) (j : Fin 16) :
    t.peers[j] = if j = s.straps.slot then s.peers[j] else (s.peers[j].request s.clock.tag).rise := by
  rw [h.done.peers, readyToSum_peers, h.straps, h.peers]

/-- Every boundary raises PEER CHANGE exactly where a peer's state has made a transition of R67. -/
theorem Bounds.peerChange {s t : State} (h : Bounds s t) :
    t.causeSet .peerChange = (s.causeSet .peerChange ||
      (List.finRange 16).any fun j => peerChanged s.peers[j].state t.peers[j].state) := by
  obtain ⟨v, made⟩ := h.made
  obtain ⟨u, clock, moved, eq⟩ := h
  obtain ⟨straps, -, -, -, peers, -⟩ := moved.blocks
  obtain ⟨enteredStraps, -, enteredPeers, -⟩ := entered_keeps u
  have answered (j : Fin 16) : (u.entered.answered s.clock.tag).peers[j].state = t.peers[j].state := by
    rw [made.peer, answered_peers, enteredStraps, enteredPeers, straps, peers]
    split
    · rfl
    · exact (Peer.rise_state _).1.symm
  have before : u.entered.causeSet .peerChange = s.causeSet .peerChange := by
    rw [entered_causes, moved.causes _ (by decide), beq_eq_false_iff_ne.mpr (by decide), Bool.and_false, Bool.or_false]
  have work : t.control = (boundaryWork s.clock.tag s.clock.serial u).control := by rw [eq, State.setClock_control]
  rw [causeSet_of_control work, boundaryWork_peerChange, summed_peerChange, before, enteredPeers, peers]
  simp only [answered]

/-- Settles O27: the queue a due request leaves, the answer it takes from it, and the transition it makes, peer by peer. -/
theorem dueRequestMovesEveryPeer : Obligations.DueRequestMovesEveryPeer := by
  intro c s pin bound safe
  obtain ⟨t, ran, bounds⟩ := exec_boundary pin bound
  obtain ⟨v, made⟩ := bounds.made
  refine ⟨t, ran, ?_, ?_, fun j other => ⟨s.peers[j].dueQueue s.clock.tag, ?_⟩⟩
  · rw [bounds.peerChange, Bool.or_eq_true, List.any_eq_true]
    simp only [List.mem_finRange, true_and, peerChanged_iff]
  · rw [made.peer, if_pos rfl]
  · obtain ⟨sub, ascends, latest, -, unique⟩ := s.peers[j].dueQueue_spec s.clock.tag
    obtain ⟨overrun, malformed, realign⟩ := s.peers[j].request_counters s.clock.tag
    have fade := Peer.risen_fade s.clock.tag (safe j)
    have asked : t.peers[j] = (s.peers[j].request s.clock.tag).rise := (made.peer j).trans (if_neg other)
    dsimp only
    rw [asked, fade, Peer.rise_eq]
    refine ⟨sub, ascends, latest, (Peer.request_queue _ _).1, unique, overrun, malformed, realign, fun f mem due => ?_,
      fun noneDue => ?_, rfl⟩
    · have found := Peer.onTime_of_mem mem due
      have state := Peer.afterOnTime_eq (safe j)
      rw [Peer.request_onTime found]
      exact ⟨((Peer.onTime_spec _ _).1 f found).2, rfl, rfl, rfl, rfl, rfl, state⟩
    · have found := Peer.onTime_eq_none noneDue
      have last := Peer.request_missed_last (safe j) found
      have state := Peer.afterMiss_eq (safe j)
      rw [Peer.request_missed found] at last ⊢
      exact ⟨rfl, rfl, rfl, rfl, rfl, state, last⟩

end Sys2Proof.Machine
end

section
/-! The reads that clear: READ METERS, READ PEERS and READ STATUS (R68, R69, R88, R104, R119, R135, R151, R173, R182). -/

namespace Sys2Proof.Machine

/-! ### Values in a report (R182) -/

/-- The fields of a report stand one after another. -/
theorem fields_cons (part : List Byte) (parts : List (List Byte)) : fields (part :: parts) = part ++ fields parts :=
  List.flatten_cons

theorem fields_nil : fields [] = [] := rfl

/-- A run of equal layouts, one after another. -/
theorem fields_map {α : Type} (f : α → List Byte) (l : List α) : fields (l.map f) = l.flatMap f := by
  rw [fields, List.flatMap_def]

theorem listed_map {α : Type} (f : α → List Byte) (l : List α) : listed (l.map f) = counted f l := by
  rw [listed, counted, List.length_map, List.flatMap_def]
  rfl

/-- A value that may be none, its place filled with zeros. -/
theorem orNone_map {α : Type} {f : α → List Byte} {width : Nat} {zero : List Byte} (zeros : zero = List.replicate width 0)
    (v : Option α) : orNone width (v.map f) = optional f zero v := by
  subst zeros
  cases v <;> rfl

theorem placeOf_rate (v : Rate) : placeOf [.khz48, .khz96] v = byte (rateCode v) := by cases v <;> rfl

theorem placeOf_clock (v : ClockState) : placeOf [.free, .locking, .locked, .holdover] v = byte v.code := by cases v <;> rfl

theorem placeOf_drive (v : Drive) : placeOf [.driving, .strapSilent, .conflictSilent] v = byte v.code := by cases v <;> rfl

theorem placeOf_peer (v : PeerState) : placeOf [.absent, .acquiring, .live, .hold, .gap] v = byte v.code := by cases v <;> rfl

theorem placeOf_line (v : LineState) : placeOf [.seeking, .idle, .message] v = byte v.code := by cases v <;> rfl

theorem placeOf_kind (v : MsgKind) : placeOf [.passOpen, .passClose, .groupCut, .groupLevel] v = byte v.code := by cases v <;> rfl

theorem placeOf_link (v : Link) : placeOf [.silent, .active] v = byte v.code := by cases v <;> rfl

theorem placeOf_transport (v : Transport) : placeOf [.stopped, .playing, .shuttling] v = byte v.code := by cases v <;> rfl

theorem placeOf_pass (v : PassState) : placeOf [.idle, .recording, .review, .merging] v = byte v.code := by cases v <;> rfl

theorem zeros_two : two 0 = List.replicate 2 0 := by decide

/-- A count that may be none, sent as the two-byte value it is. -/
theorem orNone_two (v : Option Nat) : orNone 2 (v.map fun x => two x) = optional (fun x : Nat => two x) (two 0) v := by
  cases v with
  | none => exact congrArg (0 :: ·) zeros_two.symm
  | some x => rfl

/-! ### READ METERS and READ PEERS, entry by entry (R69, R88) -/

theorem meterReport_eq (s : State) (b : Fin 128) :
    s.meterReport b =
      if b.val ∈ s.summer.config.buses then fields [[1], four s.summer.meters[b].peak, two s.summer.meters[b].overCount]
      else List.replicate 7 0 := by
  by_cases member : b.val ∈ s.summer.config.buses
  · rw [State.meterReport, if_pos (List.contains_iff_mem.mpr member), if_pos member]
    simp only [fields_cons, fields_nil, List.append_nil, List.append_assoc]
    rfl
  · rw [State.meterReport, if_neg fun h => member (List.contains_iff_mem.mp h), if_neg member]
    decide

theorem Peer.report_eq (p : Peer) :
    p.report = fields [placeOf [.absent, .acquiring, .live, .hold, .gap] p.state, two p.good, two p.miss, two p.fade,
      listed (p.queue.map fun f => [f.tag]),
      orNone 2 (p.last.map fun f => f.tag :: placeOf [.free, .locking, .locked, .holdover] f.clock),
      setBytes 8 ((p.last.map LaneFrame.owned).getD []), listed (((p.last.map LaneFrame.a).getD []).map fun e => beBytes 1 e.1),
      listed (((p.last.map LaneFrame.b).getD []).map fun e => beBytes 1 e.1),
      two p.used, two p.missed, two p.stale, two p.overrun, two p.malformed, two p.realign] := by
  have last : orNone 2 (p.last.map fun f => f.tag :: placeOf [.free, .locking, .locked, .holdover] f.clock) =
      optional (fun f : LaneFrame => [f.tag] ++ byte f.clock.code) (byte 0 ++ byte 0) p.last := by
    simp only [placeOf_clock]
    exact orNone_map (by decide) p.last
  simp only [fields_cons, fields_nil, List.append_nil, List.append_assoc, beBytes_one, placeOf_peer, listed_map, last, Peer.report]

/-- The own slot gives the mark OWN and as many zeros as the entry of a reset peer has bytes after its state (R69, R182). -/
theorem slotReport_eq (s : State) (j : Fin 16) :
    s.slotReport j = if j = s.straps.slot then 5 :: List.replicate 32 0 else s.peers[j].report := by
  have own : byte 5 ++ Peer.reset.report.tail = 5 :: List.replicate 32 0 := by decide +kernel
  rw [State.slotReport, own]

/-! ### READ STATUS, block by block (R173) -/

theorem strapsReport_eq (p : Straps) :
    strapsReport p = fields [beBytes 1 p.slot, placeOf [.khz48, .khz96] p.rate, flagByte p.listenOnly] := by
  simp only [fields_cons, fields_nil, List.append_nil, List.append_assoc, beBytes_one, placeOf_rate, flagByte_eq, strapsReport]

theorem Ports.report_eq (p : Ports) : p.report = fields (p.inputs.toList.map fun i => [if i.running then 0 else 1]) := by
  have status (i : InputPort) : byte (if i.running then 0 else 1) = [if i.running then 0 else 1] := by cases i.running <;> rfl
  simp only [fields_map, Ports.report, status]

theorem Clock.report_eq (c : Clock) :
    c.report = fields [placeOf [.free, .locking, .locked, .holdover] c.state, [c.tag], two c.acquisition, four c.window.sum,
      four c.frameLength, two c.realigns, two c.edgeFaults] := by
  simp only [fields_cons, fields_nil, List.append_nil, List.append_assoc, placeOf_clock, Clock.report, Clock.measured]

theorem summerReport_eq (s : State) :
    s.summerReport = fields [setBytes 8 s.summer.config.owned, setBytes 16 s.summer.config.buses, setBytes 8 s.summer.suspended,
      flagByte (decide (s.summer.pending ≠ s.summer.config)), flagByte s.listenOnly] := by
  have differ : (s.summer.pending != s.summer.config) = decide (s.summer.pending ≠ s.summer.config) :=
    Bool.eq_iff_iff.mpr (bne_iff_ne.trans decide_eq_true_iff.symm)
  simp only [fields_cons, fields_nil, List.append_nil, List.append_assoc, flagByte_eq, State.summerReport, differ]

/-- One mark covers the kind, the number and the value of the entry in flight (log entry 23). -/
theorem entryInFlight_layout (v : Option QueueEntry) :
    orNone 4 (v.map fun e => fields
      [placeOf [.passOpen, .passClose, .groupCut, .groupLevel] e.kind, beBytes 1 e.number, two e.value]) =
    optional (fun e : QueueEntry => byte e.kind.code ++ byte e.number ++ two e.value) (byte 0 ++ byte 0 ++ two 0) v := by
  simp only [fields_cons, fields_nil, List.append_nil, List.append_assoc, beBytes_one, placeOf_kind]
  exact orNone_map (by decide) v

theorem TableEntry.report_eq (e : TableEntry) :
    e.report = fields [two e.offset, flagByte e.cut, orNone 1 (e.sender.map fun j => beBytes 1 j.val), flagByte e.heard] := by
  simp only [fields_cons, fields_nil, List.append_nil, List.append_assoc, beBytes_one, flagByte_eq, orNone_byte, TableEntry.report]

theorem groupReport_eq (s : State) :
    s.groupReport = fields [two s.group.sent, two s.group.taken, two s.group.lineErrors, two s.group.losses, two s.group.drops,
      placeOf [.seeking, .idle, .message] s.group.line, two s.group.queue.length,
      orNone 4 (s.group.sending.map fun e => fields
        [placeOf [.passOpen, .passClose, .groupCut, .groupLevel] e.kind, beBytes 1 e.number, two e.value]),
      setBytes 4 (s.group.mastered.map fun m => m.group.val), fields (s.group.table.toList.map TableEntry.report),
      flagByte s.soloDrive, flagByte s.group.soloLevel] := by
  rw [entryInFlight_layout, fields_map]
  simp only [fields_cons, fields_nil, List.append_nil, List.append_assoc, placeOf_line, flagByte_eq, State.groupReport]

theorem Fader.report_eq (f : Fader) :
    f.report = fields [flagByte f.present, flagByte f.touched, orNone 2 (f.baseline.map fun v => two v), two f.lastCode, two f.low,
      two f.high, two f.onThreshold, two f.offThreshold] := by
  simp only [fields_cons, fields_nil, List.append_nil, List.append_assoc, flagByte_eq, orNone_two, Fader.report, mark]

theorem surfaceReport_eq (s : State) :
    s.surfaceReport = fields [placeOf [.silent, .active] s.surface.link, two s.surface.scanErrors,
      listed ((s.surface.faders.toList.take s.rate.strips).map Fader.report)] := by
  rw [listed_map]
  simp only [fields_cons, fields_nil, List.append_nil, List.append_assoc, placeOf_link, State.surfaceReport]

theorem playbackReport_eq (s : State) :
    s.playbackReport = fields [beBytes 6 s.playback.position, placeOf [.stopped, .playing, .shuttling] s.playback.transport,
      two s.storeCount, two s.playback.positionErrors, two s.playback.jumps] := by
  simp only [fields_cons, fields_nil, List.append_nil, List.append_assoc, placeOf_transport, State.playbackReport, six]

theorem Pass.report_eq (p : Pass) :
    p.report = fields [placeOf [.idle, .recording, .review, .merging] p.state, orNone 1 (p.number.map fun v => beBytes 1 v),
      two p.journal.length, two (moveRecords p.journal), two (punchInRecords p.journal), two p.openPunches, two p.free,
      flagByte p.incomplete, orNone 1 (p.missed.map fun v => beBytes 1 v), two p.mergeList.length, two p.stripsDone] := by
  have number (v : Option Nat) : orNone 1 (v.map fun v => byte v) = optional (fun v : Nat => byte v) (byte 0) v := orNone_byte id v
  simp only [fields_cons, fields_nil, List.append_nil, List.append_assoc, beBytes_one, placeOf_pass, flagByte_eq, number, Pass.report]

theorem statusReport_eq (s : State) :
    s.statusReport = fields [strapsReport s.straps, s.ports.report, s.clock.report,
      placeOf [.driving, .strapSilent, .conflictSilent] s.tx.drive, s.summerReport, s.groupReport, s.surfaceReport, s.playbackReport,
      s.pass.report] := by
  simp only [fields_cons, fields_nil, List.append_nil, List.append_assoc, placeOf_drive, State.statusReport]

/-! ### The reads as commands (R69, R88, R170) -/

section
variable {s : State} {address : BitVec 16} {n : Byte}

theorem exec_readMeters (pin : s.resetPin = false) (named : 1 ≤ n.toNat) (fits : address.toNat + n.toNat ≤ 128) :
    exec (.readMeters address [n]) s = .next (respond .ok
      (counted (fun k => s.meterReport (busAt (address.toNat + k))) (List.range n.toNat))
      (s.setSummer { s.summer with meters := mapFin s.summer.meters fun b m =>
        if address.toNat ≤ b.val ∧ b.val < address.toNat + n.toNat then ⟨0, 0⟩ else m })) := by
  rw [exec, execReadMeters, onCommand_next pin]
  dsimp only [readCount]
  rw [if_neg (by omega)]

theorem exec_readMeters_refused (pin : s.resetPin = false) (bad : n.toNat = 0 ∨ 128 < address.toNat + n.toNat) :
    exec (.readMeters address [n]) s = .next (s.setControl { s.control with reply := some ⟨.range, []⟩ }) := by
  rw [exec, execReadMeters, onCommand_next pin]
  dsimp only [readCount]
  rw [if_pos bad, refuse_eq]

theorem exec_readPeers (pin : s.resetPin = false) (named : 1 ≤ n.toNat) (fits : address.toNat + n.toNat ≤ 16) :
    exec (.readPeers address [n]) s = .next (respond .ok
      (counted (fun k => s.slotReport (Fin.ofNat 16 (address.toNat + k))) (List.range n.toNat))
      (s.setPeers (mapFin s.peers fun j p =>
        if j ≠ s.straps.slot ∧ address.toNat ≤ j.val ∧ j.val < address.toNat + n.toNat then p.cleared else p))) := by
  rw [exec, execReadPeers, onCommand_next pin]
  dsimp only [readCount]
  rw [if_neg (by omega)]

theorem exec_readPeers_refused (pin : s.resetPin = false) (bad : n.toNat = 0 ∨ 16 < address.toNat + n.toNat) :
    exec (.readPeers address [n]) s = .next (s.setControl { s.control with reply := some ⟨.range, []⟩ }) := by
  rw [exec, execReadPeers, onCommand_next pin]
  dsimp only [readCount]
  rw [if_pos bad, refuse_eq]

/-- A run of as many entries as a byte counts begins with that byte. -/
theorem counted_range (f : Nat → List Byte) (n : Byte) :
    counted f (List.range n.toNat) = n :: (List.range n.toNat).flatMap f := by
  rw [counted, List.length_range, byte, BitVec.ofNat_toNat, BitVec.setWidth_eq]
  rfl

end

/-- READ STATUS reports and clears (R173). -/
theorem exec_readStatus {s : State} (pin : s.resetPin = false) :
    exec (.readStatus 0 []) s = .next (respond .ok s.statusReport (clearStatusCounters s)) := by
  rw [exec, execReadStatus, onBare_next pin]

/-- Settles O34: each read by the command it is, its report by the layout of each block, and what it clears. -/
theorem readsClearWhatTheyReport : Obligations.ReadsClearWhatTheyReport := by
  intro s address n pin
  refine ⟨fun named fits => ⟨_, exec_readMeters pin named fits, ?_, fun b => mapFin_get _ _ b, rfl⟩, exec_readMeters_refused pin,
    fun named fits => ⟨_, exec_readPeers pin named fits, ?_, fun j => mapFin_get _ _ j, rfl⟩, exec_readPeers_refused pin,
    ⟨_, exec_readStatus pin, ?_, rfl, rfl, rfl, rfl, rfl⟩⟩
  · rw [counted_range]
    simp only [meterReport_eq]
    rfl
  · rw [counted_range]
    simp only [slotReport_eq, Peer.report_eq]
    rfl
  · rw [statusReport_eq, strapsReport_eq, Ports.report_eq, Clock.report_eq, summerReport_eq, groupReport_eq, surfaceReport_eq,
      playbackReport_eq, Pass.report_eq, funext TableEntry.report_eq, funext Fader.report_eq]
    rfl

end Sys2Proof.Machine
end

section
/-! The summer's configuration: the windows, the accumulation set built from them, and what keeps a configuration safe (R73 to R75). -/

namespace Sys2Proof.Machine

/-! ### Windows (R73) -/

/-- A bit of the word a window tests: the bus differs from the base there, and the mask leaves the bit clear. -/
theorem Window.getLsbD_differing (w : Window) (b : Nat) {k : Nat} (hk : k < 7) :
    ((BitVec.ofNat 7 b ^^^ w.base) &&& ~~~w.mask).getLsbD k = ((b.testBit k != w.base.getLsbD k) && !w.mask.getLsbD k) := by
  simp only [BitVec.getLsbD_and, BitVec.getLsbD_xor, BitVec.getLsbD_not, BitVec.getLsbD_ofNat, hk, decide_true, Bool.true_and,
    Bool.bne_eq_xor]

/-- An enabled window selects the buses that agree with its base in every bit its mask leaves clear. -/
theorem Window.selects_iff (w : Window) (b : Nat) :
    w.selects b = true ↔ w.enabled = true ∧ ∀ k : Nat, k < 7 → w.mask.getLsbD k = false → b.testBit k = w.base.getLsbD k := by
  rw [Window.selects, Bool.and_eq_true, beq_iff_eq]
  refine and_congr_right fun _ => ⟨fun none k hk clear => ?_, fun agree => BitVec.eq_of_getLsbD_eq fun k hk => ?_⟩
  · have same := w.getLsbD_differing b hk
    rw [none, clear] at same
    simpa using same
  · rw [w.getLsbD_differing b hk]
    cases clear : w.mask.getLsbD k with
    | true => simp
    | false => simp [agree k hk clear]

/-! ### Ascending lists cut at a length -/

section
variable {l : List Nat} {n b : Nat}

/-- A cut of an ascending list leaves out what lies above all it keeps. -/
theorem lt_of_mem_drop (ascends : l.Pairwise (· < ·)) (cut : b ∈ l.drop n) : ∀ r ∈ l.take n, r < b := by
  rw [← List.take_append_drop n l] at ascends
  obtain ⟨-, -, across⟩ := List.pairwise_append.mp ascends
  exact fun r kept => across r kept b cut

/-- An element of an ascending list is either kept by a cut or left out by it. -/
theorem mem_drop_iff (ascends : l.Pairwise (· < ·)) : b ∈ l.drop n ↔ b ∈ l ∧ b ∉ l.take n := by
  constructor
  · exact fun cut => ⟨List.mem_of_mem_drop cut, fun kept => lt_irrefl b (lt_of_mem_drop ascends cut b kept)⟩
  · rintro ⟨mem, lost⟩
    rw [← List.take_append_drop n l] at mem
    exact (List.mem_append.mp mem).resolve_left lost

end

/-! ### The accumulation set (R75) -/

/-- The window-selected buses that are not owned, ascending (R75). -/
def selectedBeside (owned : List Nat) (windows : Vector Window 4) : List Nat :=
  (List.range 128).filter fun b => !owned.contains b && windows.toList.any fun w => w.selects b

theorem wantedBuses_eq (owned : List Nat) (windows : Vector Window 4) :
    wantedBuses owned windows = owned ++ selectedBeside owned windows := rfl

theorem mem_selectedBeside {owned : List Nat} {windows : Vector Window 4} {b : Nat} :
    b ∈ selectedBeside owned windows ↔ b < 128 ∧ b ∉ owned ∧ ∃ n : Fin 4, windows[n].selects b = true := by
  rw [selectedBeside, toList_eq_map]
  simp

theorem pairwise_selectedBeside (owned : List Nat) (windows : Vector Window 4) : (selectedBeside owned windows).Pairwise (· < ·) :=
  List.pairwise_lt_range.filter _

/-- The accumulation set: the owned channels, and behind them the selected buses cut at the room they leave. -/
theorem buildConfig_buses {rate : Rate} {owned : List Nat} (windows : Vector Window 4) (fits : owned.length ≤ rate.capacity) :
    (buildConfig rate owned windows).buses = owned ++ (selectedBeside owned windows).take (rate.capacity - owned.length) := by
  rw [buildConfig, wantedBuses_eq, List.take_append, List.take_of_length_le fits]

/-- The set is oversubscribed where the cut leaves a bus out. -/
theorem buildConfig_oversubscribed {rate : Rate} {owned : List Nat} (windows : Vector Window 4) (fits : owned.length ≤ rate.capacity) :
    (buildConfig rate owned windows).oversubscribed = true ↔
      ∃ b, b ∈ (selectedBeside owned windows).drop (rate.capacity - owned.length) := by
  rw [buildConfig, wantedBuses_eq, decide_eq_true_iff, List.length_append, ← List.length_pos_iff_exists_mem, List.length_drop]
  omega

/-- Settles O30. -/
theorem accumulationSetHoldsOwnedThenLowestSelected : Obligations.AccumulationSetHoldsOwnedThenLowestSelected := by
  refine ⟨fun w b _ => w.selects_iff b, fun rate owned windows _ _ fits => ?_⟩
  have ascends := pairwise_selectedBeside owned windows
  have cut (b : Nat) : b ∈ (selectedBeside owned windows).drop (rate.capacity - owned.length) ↔
      b ∈ selectedBeside owned windows ∧ b ∉ (selectedBeside owned windows).take (rate.capacity - owned.length) :=
    mem_drop_iff ascends
  refine ⟨_, buildConfig_buses windows fits, ascends.take, ?_, fun b kept => mem_selectedBeside.mp (List.mem_of_mem_take kept),
    fun b n low selected free lost => ?_, ?_⟩
  · rw [List.length_append, List.length_take]
    omega
  · have out := (cut b).mpr ⟨mem_selectedBeside.mpr ⟨low, free, n, selected⟩, lost⟩
    have := List.length_pos_of_mem out
    rw [List.length_drop] at this
    refine ⟨lt_of_mem_drop ascends out, ?_⟩
    rw [List.length_append, List.length_take]
    omega
  · rw [buildConfig_oversubscribed windows fits]
    simp only [cut, mem_selectedBeside]
    constructor
    · rintro ⟨b, ⟨low, free, n, selected⟩, lost⟩
      exact ⟨b, n, low, selected, free, lost⟩
    · rintro ⟨b, n, low, selected, free, lost⟩
      exact ⟨b, ⟨low, free, n, selected⟩, lost⟩

/-! ### What keeps a configuration safe (R74, R75) -/

/-- A configuration built anew is safe where its owned set is. -/
theorem SumConfig.safe_buildConfig {rate : Rate} {owned : List Nat} (windows : Vector Window 4) (ascends : owned.Pairwise (· < ·))
    (premix : ∀ p ∈ owned, p < 64) (fits : owned.length ≤ rate.capacity) : (buildConfig rate owned windows).safe rate :=
  ⟨rfl, ascends, premix, fits⟩

theorem mem_markOwned {p : Fin 64} {owned : Bool} {set : List Nat} (premix : ∀ q ∈ set, q < 64) (q : Nat) :
    q ∈ markOwned p owned set ↔ if q = p.val then owned = true else q ∈ set := by
  rw [markOwned, mem_busesFrom]
  by_cases same : q = p.val
  · have := p.isLt
    simp only [same, ↓reduceIte, Nat.zero_le, true_and, and_iff_right_iff_imp]
    omega
  · simp only [same, ↓reduceIte, List.contains_iff_mem]
    exact ⟨fun h => h.2.2, fun mem => ⟨Nat.zero_le q, by have := premix q mem; omega, mem⟩⟩

/-- A channel marked owned lengthens the owned set by one at most, and only where it was not owned (R74). -/
theorem length_markOwned_le {p : Fin 64} {owned : Bool} {set : List Nat} {capacity : Nat} (premix : ∀ q ∈ set, q < 64)
    (fits : set.length ≤ capacity) (room : owned = true → p.val ∉ set → set.length < capacity) :
    (markOwned p owned set).length ≤ capacity := by
  have distinct : (markOwned p owned set).Nodup := (pairwise_busesFrom _ _).imp fun lt => ne_of_lt lt
  by_cases fresh : owned = true ∧ p.val ∉ set
  · have inside : markOwned p owned set ⊆ p.val :: set := fun q mem => by
      have := (mem_markOwned premix q).mp mem
      grind
    have := (distinct.subperm inside).length_le
    have := room fresh.1 fresh.2
    rw [List.length_cons] at *
    omega
  · have inside : markOwned p owned set ⊆ set := fun q mem => by
      have := (mem_markOwned premix q).mp mem
      grind
    exact (distinct.subperm inside).length_le.trans fits

theorem SumConfig.safe_markOwned {rate : Rate} {c : SumConfig} {p : Fin 64} {owned : Bool} (windows : Vector Window 4)
    (h : c.safe rate) (room : owned = true → p.val ∉ c.owned → c.owned.length < rate.capacity) :
    (buildConfig rate (markOwned p owned c.owned) windows).safe rate := by
  obtain ⟨-, -, premix, fits⟩ := h
  refine safe_buildConfig windows (pairwise_busesFrom _ _) (fun q mem => ?_) (length_markOwned_le premix fits room)
  have := (mem_busesFrom.mp mem).2.1
  omega

theorem SumConfig.safe_rewindow {rate : Rate} {c : SumConfig} (windows : Vector Window 4) (h : c.safe rate) :
    (buildConfig rate c.owned windows).safe rate := by
  obtain ⟨-, ascends, premix, fits⟩ := h
  exact safe_buildConfig windows ascends premix fits

end Sys2Proof.Machine
end

section
/-! What leaves the bus summer alone: every command but those whose rules name it. -/

namespace Sys2Proof.Machine

variable {s t u : State}

theorem summer_ite {c : Prop} [Decidable c] (h : t.summer = s.summer) (k : u.summer = s.summer) :
    (if c then t else u).summer = s.summer := by
  split
  · exact h
  · exact k

/-! ### The frames of the commands (R169, R173) -/

theorem summer_onEvent {f : State → State} (k : (f s).summer = s.summer) (h : onEvent s f = .next t) : t.summer = s.summer := by
  obtain rfl := Host.Outcome.next.inj h
  exact summer_ite rfl k

theorem summer_onCommand {f : State → State} (k : (f s).summer = s.summer) (h : onCommand s f = .next t) : t.summer = s.summer := by
  obtain rfl := Host.Outcome.next.inj h
  exact summer_ite rfl k

theorem summer_onBare {address : BitVec 16} {data : List Byte} {f : State → State} (k : (f s).summer = s.summer)
    (h : onBare address data s f = .next t) : t.summer = s.summer := by
  refine summer_onCommand ?_ h
  exact summer_ite k rfl

theorem summer_onGlobal {α : Type} {address : BitVec 16} {d : Option α} {f : α → State → State}
    (k : ∀ v, (f v s).summer = s.summer) (h : onGlobal address d s f = .next t) : t.summer = s.summer := by
  refine summer_onCommand ?_ h
  split
  · exact summer_ite (k _) rfl
  · rfl

theorem summer_onStrip {α : Type} {address : BitVec 16} {d : Option α} {f : Fin 64 → α → State → State}
    (k : ∀ i v, (f i v s).summer = s.summer) (h : onStrip address d s f = .next t) : t.summer = s.summer := by
  refine summer_onCommand ?_ h
  split
  · exact k _ _
  · rfl

theorem summer_onEdit {α : Type} {address : BitVec 16} {d : Option α} {f : Fin 64 → α → State → State}
    (k : ∀ i v, (f i v s).summer = s.summer) (h : onEdit address d s f = .next t) : t.summer = s.summer := by
  refine summer_onCommand ?_ h
  split
  · rfl
  · refine summer_ite rfl ?_
    split
    · exact k _ _
    · rfl

theorem respond_summer (status : Status) (data : List Byte) (s : State) : (respond status data s).summer = s.summer := rfl

theorem ok_summer (s : State) : (ok s).summer = s.summer := rfl

/-! ### The lanes -/

theorem completeLaneFrame_summer (readBack : List Byte) (clean : Bool) (s : State) :
    (completeLaneFrame readBack clean s).summer = s.summer := by
  unfold completeLaneFrame
  split
  · rfl
  · exact summer_ite rfl rfl

theorem takeLaneFrame_summer (lane : Fin 16) (bytes : List Byte) (s : State) : (takeLaneFrame lane bytes s).summer = s.summer := by
  unfold takeLaneFrame
  refine summer_ite rfl ?_
  split <;> rfl

/-! ### The surface port -/

theorem takeCode_summer (i : Fin 64) (raw : Nat) (s : State) : (takeCode i raw s).summer = s.summer := by
  unfold takeCode
  refine summer_ite ?_ rfl
  rw [(ride_evalStrip i _).inner.summer]
  rfl

theorem handTouch_summer (i : Fin 64) (e : TouchEvent) (s : State) : (handTouch i e s).summer = s.summer := by
  cases e with
  | none => rfl
  | touch => exact (ride_touchStrip i s).inner.summer
  | release => exact (ride_releaseStrip i s).inner.summer
  | stuck => exact (ride_releaseStrip i s).inner.summer

theorem takeTouch_summer (i : Fin 64) (count : Nat) (s : State) : (takeTouch i count s).summer = s.summer := by
  unfold takeTouch
  rw [handTouch_summer]
  rfl

theorem setPresence_summer (i : Fin 64) (present : Bool) (s : State) : (setPresence i present s).summer = s.summer := by
  unfold setPresence
  rw [(ride_evalStrip i _).inner.summer]
  rfl

theorem losePresence_summer (i : Fin 64) (s : State) : (losePresence i s).summer = s.summer := by
  have gone := setPresence_summer i false s
  unfold losePresence
  refine summer_ite ?_ gone
  rw [(ride_releaseStrip i _).inner.summer]
  exact gone

theorem takeFader_summer (readings : List Reading) (i : Fin 64) (s : State) : (takeFader readings i s).summer = s.summer := by
  unfold takeFader
  split
  · rw [takeTouch_summer, takeCode_summer]
    exact summer_ite rfl (setPresence_summer i true s)
  · exact summer_ite (losePresence_summer i s) rfl

theorem forStrips_summer {f : Fin 64 → State → State} (h : ∀ i t, (f i t).summer = t.summer) (s : State) :
    (forStrips f s).summer = s.summer :=
  forStrips_induct (P := fun t => t.summer = s.summer) rfl fun i t _ same => (h i t).trans same

theorem scanWork_summer (bytes : List Byte) (s : State) : (scanWork bytes s).summer = s.summer := by
  unfold scanWork
  split
  · rfl
  · next readings _ =>
    unfold takeScan sendMotorReturn
    rw [State.setSurface_summer, forStrips_summer (takeFader_summer readings)]
    rfl

theorem silenceExpiry_summer (s : State) : (silenceExpiry s).summer = s.summer := by
  unfold silenceExpiry
  split
  · rfl
  · rw [forStrips_summer fun i t => summer_ite (losePresence_summer i t) rfl]
    rfl

/-! ### Passes and the group line -/

theorem startIfIdle_summer (s : State) : (startIfIdle s).summer = s.summer := (lineFrame_startIfIdle s).inner.summer

theorem sendPass_summer {kind : MsgKind} {n : Nat} {atOnce : State → State} (k : RideFrame s (atOnce s)) :
    (sendPass kind n atOnce s).summer = s.summer := by
  unfold sendPass
  refine summer_ite k.inner.summer (summer_ite rfl ?_)
  exact startIfIdle_summer _

theorem keepWork_summer (s : State) : (keepWork s).summer = s.summer := by
  unfold keepWork
  exact summer_ite rfl rfl

/-! ### Command by command -/

/-- The commands whose own rules name the bus summer (R78, R73, R83, R88, R91). -/
def actsOnSummer : Instr → Prop
  | .stripFrameProcess => True
  | .writePremix _ _ => True
  | .writeWindow _ _ => True
  | .readMeters _ _ => True
  | .engineRestart _ _ => True
  | _ => False

/-- A command that makes no boundary, is no reset and has no rule about the summer leaves it alone. -/
theorem exec_summer {c : Instr} (h : exec c s = .next t) (noBoundary : ¬ makesBoundary s c) (noReset : ¬ isReset c)
    (noSummer : ¬ actsOnSummer c) : t.summer = s.summer := by
  cases c with
  | powerOnReset | resetPinAssert | resetPinRelease => exact absurd trivial noReset
  | stripFrameProcess | writePremix | writeWindow | readMeters | engineRestart => exact absurd trivial noSummer
  | dividerBoundary => rw [exec_noBoundary (.inl rfl) h noBoundary]
  | lossWindowExpiry => rw [exec_noBoundary (.inr (.inl rfl)) h noBoundary]
  | holdoverBoundary => rw [exec_noBoundary (.inr (.inr rfl)) h noBoundary]
  | referenceEdge marked time =>
    refine summer_onEvent (f := referenceEdgeWork marked time) ?_ h
    have early : time - s.clock.latestBoundary < s.rate.half := not_le.mp noBoundary
    unfold referenceEdgeWork
    dsimp only
    rw [if_pos (decide_eq_true early), setClockState, raiseIf_summer, State.setClock_summer]
  | automationStep =>
    have step := (ride_setPlayback s { s.playback with stepDue := false }).trans (ride_automationStepWork _)
    exact summer_onEvent (summer_ite step.inner.summer rfl) h
  | groupRefresh =>
    rw [exec, execGroupRefresh] at h
    refine summer_onEvent ?_ h
    split
    · rfl
    · exact (lineFrame_refreshGroup _ _).inner.summer
  | silenceWindowExpiry => exact summer_onEvent (summer_ite (silenceExpiry_summer s) rfl) h
  | laneFrameCompletion readBack clean => exact summer_onEvent (completeLaneFrame_summer readBack clean s) h
  | outputPortFrameStart =>
    rw [exec, execOutputPortFrameStart] at h
    refine summer_onEvent ?_ h
    split <;> rfl
  | frameArrival lane bytes => exact summer_onEvent (takeLaneFrame_summer lane bytes s) h
  | portFrameArrival =>
    rw [exec, execPortFrameArrival] at h
    refine summer_onEvent ?_ h
    rfl
  | scanArrival bytes => exact summer_onEvent (scanWork_summer bytes s) h
  | positionRecordArrival bytes => exact summer_onEvent (ride_positionWork bytes s).inner.summer h
  | lineRest =>
    rw [exec, execLineRest] at h
    refine summer_onEvent ?_ h
    split
    · exact startIfIdle_summer _
    · rfl
    · rfl
  | dominantBitSeen =>
    rw [exec, execDominantBitSeen] at h
    refine summer_onEvent ?_ h
    split
    · rfl
    · exact (lineFrame_markInFlight _).inner.summer
    · rfl
  | arbitrationLoss => exact summer_onEvent (summer_ite (lineFrame_loseArbitration s).inner.summer rfl) h
  | lineFault => exact summer_onEvent (summer_ite (lineFrame_meetFault s).inner.summer rfl) h
  | groupMessageEnd bits => exact summer_onEvent (ride_messageEndWork bits s).inner.summer h
  | soloLineChange active =>
    rw [exec, execSoloLineChange] at h
    refine summer_onEvent ?_ h
    exact summer_ite rfl (lineFrame_retuneWhere _ _).inner.summer
  | controlRequestAbandoned =>
    obtain rfl := Host.Outcome.next.inj h
    rfl
  | readStatus =>
    rw [exec, execReadStatus] at h
    refine summer_onBare ?_ h
    rfl
  | readCauses =>
    rw [exec, execReadCauses] at h
    refine summer_onBare ?_ h
    rfl
  | clearCauses =>
    rw [exec, execClearCauses] at h
    refine summer_onGlobal (fun _ => ?_) h
    rfl
  | writeAttentionMask =>
    rw [exec, execWriteAttentionMask] at h
    refine summer_onGlobal (fun _ => ?_) h
    rfl
  | readStrip =>
    rw [exec, execReadStrip] at h
    refine summer_onStrip (fun _ _ => ?_) h
    rfl
  | writeSend =>
    rw [exec, execWriteSend] at h
    refine summer_onStrip (fun _ _ => ?_) h
    rfl
  | writeStrip =>
    rw [exec, execWriteStrip] at h
    refine summer_onStrip (fun i d => ?_) h
    exact summer_ite rfl (inner_writeStripWork i d s).summer
  | writeOutput =>
    rw [exec, execWriteOutput] at h
    refine summer_onStrip (fun _ _ => ?_) h
    exact summer_ite rfl rfl
  | writeCalibration =>
    rw [exec, execWriteCalibration] at h
    refine summer_onStrip (fun _ _ => ?_) h
    exact summer_ite rfl rfl
  | writeTouch =>
    rw [exec, execWriteTouch] at h
    refine summer_onStrip (fun _ _ => ?_) h
    exact summer_ite rfl rfl
  | readPeers =>
    rw [exec, execReadPeers] at h
    refine summer_onCommand ?_ h
    split
    · refine summer_ite rfl ?_
      rw [respond_summer, State.setPeers_summer]
    · rfl
  | insertMove =>
    rw [exec, execInsertMove] at h
    refine summer_onEdit (fun _ _ => ?_) h
    split
    · rfl
    · exact summer_ite rfl rfl
  | deleteMoves =>
    rw [exec, execDeleteMoves] at h
    refine summer_onEdit (fun _ _ => ?_) h
    split
    · rfl
    · exact summer_ite rfl rfl
  | clearStrip =>
    rw [exec, execClearStrip] at h
    refine summer_onEdit (fun _ _ => ?_) h
    rfl
  | clearStore =>
    rw [exec, execClearStore] at h
    refine summer_onBare ?_ h
    refine summer_ite rfl ?_
    rw [ok_summer, State.setPlayback_summer]
  | readMoves =>
    rw [exec, execReadMoves] at h
    refine summer_onStrip (fun _ _ => ?_) h
    dsimp only
    split <;> exact respond_summer _ _ s
  | passOpen =>
    rw [exec, execPassOpen] at h
    refine summer_onCommand ?_ h
    refine summer_ite rfl ?_
    split
    · exact sendPass_summer (ride_takePassOpen _ s)
    all_goals rfl
  | passClose =>
    rw [exec, execPassClose] at h
    refine summer_onCommand ?_ h
    refine summer_ite rfl ?_
    split
    · exact summer_ite (sendPass_summer (ride_takePassClose _ s)) rfl
    all_goals rfl
  | passKeep =>
    rw [exec, execPassKeep] at h
    refine summer_onBare ?_ h
    split
    · exact summer_ite rfl (keepWork_summer s)
    all_goals rfl
  | passDrop =>
    rw [exec, execPassDrop] at h
    refine summer_onBare ?_ h
    split <;> rfl
  | commandByteNamesNoCommand => exact summer_onCommand rfl h

end Sys2Proof.Machine
end

section
/-! WRITE PREMIX and WRITE WINDOW: what of their data is taken, and what of the summer they write (R73 to R75, R83). -/

namespace Sys2Proof.Machine

/-! ### Operands (R182) -/

/-- A target byte names a stem channel, or none with FFh. -/
theorem optionalPlace_of_allowed {b : Byte} (allowed : b.toNat ≤ 63 ∨ b = 0xFF#8) :
    ∃ place, optionalPlace b = some place ∧ place.map Fin.val = if b = 0xFF#8 then none else some b.toNat := by
  unfold optionalPlace
  by_cases absent : b = 0xFF#8
  · exact ⟨none, if_pos absent, (if_pos absent).symm⟩
  · have low : b.toNat < 64 := Nat.lt_succ_of_le (allowed.resolve_right absent)
    refine ⟨some ⟨b.toNat, low⟩, ?_, (if_neg absent).symm⟩
    rw [if_neg absent, index_of_eq (i := ⟨b.toNat, low⟩) rfl]
    rfl

theorem optionalPlace_eq_none {b : Byte} (refused : ¬ (b.toNat ≤ 63 ∨ b = 0xFF#8)) : optionalPlace b = none := by
  obtain ⟨high, named⟩ := not_or.mp refused
  rw [optionalPlace, if_neg named, index_of_le (by omega)]
  rfl

section
variable {flags l1 l0 x a1 a0 y b1 b0 : Byte}

theorem readPremixData_of_allowed (allowedX : x.toNat ≤ 63 ∨ x = 0xFF#8) (allowedY : y.toNat ≤ 63 ∨ y = 0xFF#8) :
    ∃ d, readPremixData [flags, l1, l0, x, a1, a0, y, b1, b0] = some d ∧ d.owned = flags.getLsbD 0 ∧ d.cut = flags.getLsbD 1 ∧
      d.code = min 1020 (256 * l1.toNat + l0.toNat) ∧
      d.send0.target.map Fin.val = (if x = 0xFF#8 then none else some x.toNat) ∧
      d.send1.target.map Fin.val = (if y = 0xFF#8 then none else some y.toNat) ∧
      d.send0.code = min 1020 (256 * a1.toNat + a0.toNat) ∧ d.send1.code = min 1020 (256 * b1.toNat + b0.toNat) := by
  obtain ⟨place0, read0, target0⟩ := optionalPlace_of_allowed allowedX
  obtain ⟨place1, read1, target1⟩ := optionalPlace_of_allowed allowedY
  simp only [readPremixData, read0, read1, storedCode, ofBytes_pair]
  exact ⟨_, rfl, rfl, rfl, rfl, target0, target1, rfl, rfl⟩

theorem readPremixData_eq_none (refused : ¬ (x.toNat ≤ 63 ∨ x = 0xFF#8) ∨ ¬ (y.toNat ≤ 63 ∨ y = 0xFF#8)) :
    readPremixData [flags, l1, l0, x, a1, a0, y, b1, b0] = none := by
  obtain refused | refused := refused
  · simp only [readPremixData, optionalPlace_eq_none refused]
  · simp only [readPremixData, optionalPlace_eq_none refused]
    cases optionalPlace x <;> rfl

end

section
variable {base mask enable : Byte}

theorem readWindowData_of_le (hb : base.toNat ≤ 127) (hm : mask.toNat ≤ 127) (he : enable.toNat ≤ 1) :
    readWindowData [base, mask, enable] = some ⟨base.extractLsb' 0 7, mask.extractLsb' 0 7, enable.getLsbD 0⟩ := by
  rw [readWindowData, if_pos ⟨hb, hm, he⟩]

theorem readWindowData_eq_none (bad : 127 < base.toNat ∨ 127 < mask.toNat ∨ 1 < enable.toNat) :
    readWindowData [base, mask, enable] = none := by
  rw [readWindowData, if_neg (by omega)]

theorem toNat_lowBits (h : base.toNat ≤ 127) : (base.extractLsb' 0 7).toNat = base.toNat := by
  rw [BitVec.extractLsb'_toNat, Nat.shiftRight_zero, Nat.mod_eq_of_lt (by omega)]

theorem flag_iff (h : enable.toNat ≤ 1) : enable.getLsbD 0 = true ↔ enable = 1 := by
  rw [BitVec.getLsbD, Nat.testBit_zero, decide_eq_true_iff, ← BitVec.toNat_inj]
  change _ ↔ enable.toNat = 1
  omega

end

/-! ### The writes -/

/-- The summer after a WRITE PREMIX is taken (R74, R75, R83). -/
def Summer.premixWritten (rate : Rate) (p : Fin 64) (d : PremixData) (m : Summer) : Summer :=
  { m with
    pending := buildConfig rate (markOwned p d.owned m.pending.owned) m.pending.windows
    premix := m.premix.set p (m.premix[p].store d) }

/-- The summer after a WRITE WINDOW is taken (R73, R75). -/
def Summer.windowWritten (rate : Rate) (n : Fin 4) (w : Window) (m : Summer) : Summer :=
  { m with pending := buildConfig rate m.pending.owned (m.pending.windows.set n w) }

/-- Whether a WRITE PREMIX keeps to the ownership limit (R74). -/
def State.roomFor (s : State) (p : Fin 64) (d : PremixData) : Prop :=
  d.owned = true → p.val ∉ s.summer.pending.owned → s.summer.pending.owned.length < s.rate.capacity

section
variable {s t : State} {address : BitVec 16} {data : List Byte} {p : Fin 64} {d : PremixData} {n : Fin 4} {w : Window}

theorem not_roomFor_iff : (d.owned && s.ownershipFull p) = true ↔ ¬ s.roomFor p d := by
  simp [State.ownershipFull, State.roomFor]

theorem exec_writePremix (pin : s.resetPin = false) (named : address.toNat = p.val) (read : readPremixData data = some d)
    (room : s.roomFor p d) :
    exec (.writePremix address data) s = .next (ok (s.setSummer (s.summer.premixWritten s.rate p d))) := by
  rw [exec, execWritePremix, onCommand_next pin, index_of_eq named, read]
  dsimp only
  rw [if_neg fun full => not_roomFor_iff.mp full room]
  rfl

theorem exec_writePremix_refused (pin : s.resetPin = false) (bad : 64 ≤ address.toNat ∨ readPremixData data = none ∨
      ∃ p d, address.toNat = p.val ∧ readPremixData data = some d ∧ ¬ s.roomFor p d) :
    exec (.writePremix address data) s = .next (s.setControl { s.control with reply := some ⟨.range, []⟩ }) := by
  rw [exec, execWritePremix, onCommand_next pin, ← refuse_eq]
  obtain unnamed | unread | ⟨p, d, named, read, full⟩ := bad
  · rw [index_of_le unnamed]
  · rw [unread]
    cases index 64 address.toNat <;> rfl
  · rw [index_of_eq named, read]
    exact congrArg _ (if_pos (not_roomFor_iff.mpr full))

/-- All that WRITE PREMIX can do to the summer: nothing, or the write of one master within the ownership limit. -/
theorem summer_of_writePremix (h : exec (.writePremix address data) s = .next t) :
    t.summer = s.summer ∨ ∃ p d, s.roomFor p d ∧ t.summer = s.summer.premixWritten s.rate p d := by
  rw [exec, execWritePremix] at h
  obtain rfl := Host.Outcome.next.inj h
  split
  · exact .inl rfl
  · split
    · next p d _ _ =>
      dsimp only
      split
      · exact .inl rfl
      · next room => exact .inr ⟨p, d, not_not.mp fun full => room (not_roomFor_iff.mpr full), rfl⟩
    · exact .inl rfl

theorem exec_writeWindow (pin : s.resetPin = false) (named : address.toNat = n.val) (read : readWindowData data = some w) :
    exec (.writeWindow address data) s = .next (ok (s.setSummer (s.summer.windowWritten s.rate n w))) := by
  rw [exec, execWriteWindow, onCommand_next pin, index_of_eq named, read]
  rfl

theorem exec_writeWindow_refused (pin : s.resetPin = false) (bad : 4 ≤ address.toNat ∨ readWindowData data = none) :
    exec (.writeWindow address data) s = .next (s.setControl { s.control with reply := some ⟨.range, []⟩ }) := by
  rw [exec, execWriteWindow, onCommand_next pin, ← refuse_eq]
  obtain unnamed | unread := bad
  · rw [index_of_le unnamed]
  · rw [unread]
    cases index 4 address.toNat <;> rfl

/-- All that WRITE WINDOW can do to the summer: nothing, or the write of one window. -/
theorem summer_of_writeWindow (h : exec (.writeWindow address data) s = .next t) :
    t.summer = s.summer ∨ ∃ n w, t.summer = s.summer.windowWritten s.rate n w := by
  rw [exec, execWriteWindow] at h
  obtain rfl := Host.Outcome.next.inj h
  split
  · exact .inl rfl
  · split
    · next n w _ _ => exact .inr ⟨n, w, rfl⟩
    · exact .inl rfl

end

/-- The masters after a WRITE PREMIX: the one named is written, and no other (R83). -/
theorem premixWritten_master (rate : Rate) (p q : Fin 64) (d : PremixData) (m : Summer) :
    (m.premixWritten rate p d).premix[q] = if p = q then m.premix[p].store d else m.premix[q] := set_get ..

/-- The windows after a WRITE WINDOW: the one named is written, and no other (R73). -/
theorem windowWritten_window (rate : Rate) (n k : Fin 4) (w : Window) (m : Summer) :
    (m.windowWritten rate n w).pending.windows[k] = if n = k then w else m.pending.windows[k] := set_get ..

/-- Settles O29: the data read, the master or window it names written, and the pending copy built anew. -/
theorem premixAndWindowWritesReachThePendingCopy : Obligations.PremixAndWindowWritesReachThePendingCopy := by
  constructor
  · intro s address flags l1 l0 x a1 a0 y b1 b0 pin safe write allowed full
    have ⟨_, _, premix, _⟩ := safe
    refine ⟨fun p named allowedX allowedY withinLimit => ?_, fun bad => ?_⟩
    · obtain ⟨d, read, owned, cut, code, target0, target1, code0, code1⟩ := readPremixData_of_allowed allowedX allowedY
      have room : s.roomFor p d := fun marked fresh => not_le.mp fun filled => withinLimit ⟨owned ▸ marked, named ▸ fresh, filled⟩
      refine ⟨_, exec_writePremix pin named read room, rfl, ?_, fun q other => ?_, fun q => ?_, rfl,
        SumConfig.safe_markOwned _ safe room, rfl, rfl, rfl⟩
      · have master : (s.summer.premixWritten s.rate p d).premix[p] = s.summer.premix[p].store d :=
          (premixWritten_master ..).trans (if_pos rfl)
        rw [ok_summer, State.setSummer_summer, master, ← code, ← cut]
        exact ⟨rfl, rfl, rfl, rfl, target0, target1, code0, code1⟩
      · exact (premixWritten_master ..).trans (if_neg other.symm)
      · rw [← owned]
        exact mem_markOwned premix q
    · refine exec_writePremix_refused pin ?_
      by_cases named : address.toNat < 64
      · by_cases ok : allowed x ∧ allowed y
        · obtain ⟨d, read, owned, -⟩ := readPremixData_of_allowed ok.1 ok.2
          obtain ⟨marked, fresh, filled⟩ : full := by grind
          exact .inr (.inr ⟨⟨_, named⟩, d, rfl, read, fun room => absurd filled (not_le.mpr (room (owned ▸ marked) fresh))⟩)
        · exact .inr (.inl (readPremixData_eq_none (not_and_or.mp ok)))
      · exact .inl (not_lt.mp named)
  · intro s address base mask enable pin safe
    refine ⟨fun n named hb hm he => ?_, fun bad => ?_⟩
    · have window (k : Fin 4) := windowWritten_window s.rate n k ⟨base.extractLsb' 0 7, mask.extractLsb' 0 7, enable.getLsbD 0⟩ s.summer
      refine ⟨_, exec_writeWindow pin named (readWindowData_of_le hb hm he), rfl, ?_, ?_, ?_, fun k other => ?_, rfl,
        SumConfig.safe_rewindow _ safe, rfl, rfl, rfl⟩
      · rw [ok_summer, State.setSummer_summer, window, if_pos rfl, toNat_lowBits hb]
      · rw [ok_summer, State.setSummer_summer, window, if_pos rfl, toNat_lowBits hm]
      · rw [ok_summer, State.setSummer_summer, window, if_pos rfl, flag_iff he]
      · rw [ok_summer, State.setSummer_summer, window, if_neg other.symm]
    · exact exec_writeWindow_refused pin (bad.imp_right readWindowData_eq_none)

end Sys2Proof.Machine
end

section
/-! What a frame boundary makes of the suspensions, the meters and the causes of the summer (R76, R77, R85 to R87). -/

namespace Sys2Proof.Machine

/-! ### The stages of the summer's work (R79) -/

section
variable {c : Cause} {s : State} {tag : Tag}

theorem putInForce_same (same : s.summer.pending = s.summer.config) : putInForce s = s := if_pos same

/-- A pending configuration that differs is put in force: meters and decisions of the channels that stay are kept (R76, R77, R86). -/
theorem putInForce_differs (differs : s.summer.pending ≠ s.summer.config) :
    putInForce s = raiseIf s.summer.pending.oversubscribed .windowOversubscribed (s.setSummer { s.summer with
      config := s.summer.pending
      meters := keepMeters s.summer.config.buses s.summer.pending.buses s.summer.meters
      suspended := s.summer.suspended.filter fun p => s.summer.pending.owned.contains p }) := if_neg differs

theorem putInForce_summer (differs : s.summer.pending ≠ s.summer.config) :
    (putInForce s).summer = { s.summer with
      config := s.summer.pending
      meters := keepMeters s.summer.config.buses s.summer.pending.buses s.summer.meters
      suspended := s.summer.suspended.filter fun p => s.summer.pending.owned.contains p } := by
  rw [putInForce_differs differs, raiseIf_summer, State.setSummer_summer]

/-- Of the channels pending as owned, putting them in force keeps every decision (R86). -/
theorem mem_putInForce_suspended {p : Nat} (owned : p ∈ s.summer.pending.owned) :
    p ∈ (putInForce s).summer.suspended ↔ p ∈ s.summer.suspended := by
  by_cases same : s.summer.pending = s.summer.config
  · rw [putInForce_same same]
  · rw [putInForce_summer same, List.mem_filter, List.contains_iff_mem, and_iff_left owned]

theorem putInForce_causes (s : State) (c : Cause) : (putInForce s).causeSet c = (s.causeSet c ||
    ((s.summer.pending != s.summer.config && s.summer.pending.oversubscribed) && c == .windowOversubscribed)) := by
  by_cases same : s.summer.pending = s.summer.config
  · rw [putInForce_same same, bne_eq_false_iff_eq.mpr same, Bool.false_and, Bool.false_and, Bool.or_false]
  · rw [putInForce_differs same, causeSet_raiseIf, causeSet_of_control (State.setSummer_control _ _), bne_iff_ne.mpr same, Bool.true_and]

theorem requestPeers_causes (tag : Tag) (s : State) (other : c ≠ .peerChange) :
    (requestPeers tag s).causeSet c = s.causeSet c := by
  rw [requestPeers, eachPeer, causeSet_raiseIf_other other, causeSet_of_control (State.setPeers_control _ _)]

/-- The channels suspended at a boundary: those of the owned set in force that a lower slot announces (R85). -/
def State.suspends (tag : Tag) (s : State) : List Nat :=
  s.summer.pending.owned.filter (announcedBelow s.straps.slot (s.answered tag).given)

/-- The due requests leave the summer as the configuration in force has made it. -/
theorem answered_summer (tag : Tag) (s : State) :
    (s.answered tag).summer = (putInForce s).summer := requestPeers_summer tag (putInForce s)

theorem readyToSum_suspended (tag : Tag) (s : State) : (s.readyToSum tag).summer.suspended = s.suspends tag := by
  have straps := (sumStage_answered tag s).straps
  simp only [State.readyToSum, advancePremix, decideSuspensions, eachPeer, State.setSummer_summer, raiseIf_summer,
    State.setPeers_summer, State.setPeers_straps, straps, answered_summer, putInForce_config, State.suspends]

theorem readyToSum_meters (tag : Tag) (s : State) : (s.readyToSum tag).summer.meters = (putInForce s).summer.meters := by
  simp only [State.readyToSum, advancePremix, decideSuspensions, eachPeer, State.setSummer_summer, raiseIf_summer,
    State.setPeers_summer, State.answered, requestPeers_summer]

theorem readyToSum_causes (tag : Tag) (s : State) (other : c ≠ .peerChange) : (s.readyToSum tag).causeSet c =
    ((putInForce s).causeSet c ||
      ((s.suspends tag).any (fun p => !(putInForce s).summer.suspended.contains p) && c == .premixConflict)) := by
  have straps := (sumStage_answered tag s).straps
  rw [State.readyToSum, advancePremix, causeSet_of_control (State.setSummer_control _ _), decideSuspensions, causeSet_raiseIf,
    causeSet_of_control (State.setSummer_control _ _), eachPeer, causeSet_of_control (State.setPeers_control _ _),
    State.setPeers_summer, State.setPeers_straps, straps, answered_summer, putInForce_config, State.answered,
    requestPeers_causes tag _ other]
  rfl

/-- The meter of a bus under the accumulation set of a boundary, before its total: kept where the bus stays in the set (R77). -/
def State.meterKept (s : State) (b : Fin 128) : Meter :=
  if b.val ∈ s.summer.config.buses ∧ b.val ∈ s.summer.pending.buses then s.summer.meters[b] else ⟨0, 0⟩

/-- The meter of a bus after its total, or untouched where it has none (R87). -/
def Meter.after (m : Meter) (total : Option Int) : Meter := total.elim m m.update

/-- Putting a configuration in force keeps the meters of R77, also where it is the one in force, as no bus outside has a meter. -/
theorem putInForce_meter {b : Fin 128} (unmetered : b.val ∉ s.summer.config.buses → s.summer.meters[b] = ⟨0, 0⟩) :
    (putInForce s).summer.meters[b] = s.meterKept b := by
  unfold State.meterKept
  by_cases same : s.summer.pending = s.summer.config
  · simp only [putInForce_same same, same, and_self]
    split
    · rfl
    · next outside => exact unmetered outside
  · simp only [putInForce_summer same, keepMeters, mapFin_get, Bool.and_eq_true, List.contains_iff_mem]

theorem summed_meter (sample : Nat) {b : Fin 128} (unmetered : b.val ∉ s.summer.config.buses → s.summer.meters[b] = ⟨0, 0⟩) :
    (s.summed tag sample).summer.meters[b] = (s.meterKept b).after ((s.totals tag sample).lookup b.val) := by
  rw [State.summed, updateMeters, raiseIf_summer, State.setSummer_summer, mapFin_get, readyToSum_meters, putInForce_meter unmetered]
  cases (s.totals tag sample).lookup b.val <;> rfl

/-- A kept meter counts no over exactly where the bus counted none, or does not stay. -/
theorem meterKept_overCount_eq_zero {b : Fin 128} (unmetered : b.val ∉ s.summer.config.buses → s.summer.meters[b] = ⟨0, 0⟩) :
    (s.meterKept b).overCount = 0 ↔ s.summer.meters[b].overCount = 0 ∨ b.val ∉ s.summer.pending.buses := by
  unfold State.meterKept
  split
  · next stays => exact (or_iff_left fun left => left stays.2).symm
  · next leaves =>
    refine iff_of_true rfl ?_
    by_cases metered : b.val ∈ s.summer.config.buses
    · exact .inr fun pending => leaves ⟨metered, pending⟩
    · exact .inl (congrArg Meter.overCount (unmetered metered))

/-! ### The causes of the summer (R76, R85, R87) -/

theorem summed_causes (sample : Nat) : (s.summed tag sample).causeSet c =
    ((s.readyToSum tag).causeSet c || ((List.finRange 128).any (fun b => (putInForce s).summer.meters[b].overCount == 0 &&
      (s.summed tag sample).summer.meters[b].overCount != 0) && c == .busOver)) := by
  rw [State.summed, updateMeters, causeSet_raiseIf, causeSet_of_control (State.setSummer_control _ _), raiseIf_summer,
    State.setSummer_summer, readyToSum_meters]

/-- WINDOW OVERSUBSCRIBED is raised for an oversubscribed copy newly in force. -/
theorem summed_windowOversubscribed (tag : Tag) (sample : Nat) (s : State) :
    (s.summed tag sample).causeSet .windowOversubscribed = true ↔ s.causeSet .windowOversubscribed = true ∨
      (s.summer.pending ≠ s.summer.config ∧ s.summer.pending.oversubscribed = true) := by
  rw [summed_causes, readyToSum_causes tag s (by decide), putInForce_causes]
  simp

/-- PREMIX CONFLICT is raised for a channel newly suspended. -/
theorem summed_premixConflict (tag : Tag) (sample : Nat) (s : State) :
    (s.summed tag sample).causeSet .premixConflict = true ↔ s.causeSet .premixConflict = true ∨
      ∃ p ∈ s.suspends tag, p ∉ s.summer.suspended := by
  have newly (p : Nat) : p ∈ s.suspends tag ∧ p ∉ (putInForce s).summer.suspended ↔
      p ∈ s.suspends tag ∧ p ∉ s.summer.suspended :=
    and_congr_right fun now => not_congr (mem_putInForce_suspended (List.mem_of_mem_filter now))
  rw [summed_causes, readyToSum_causes tag s (by decide), putInForce_causes]
  simp [newly]

/-- OVER is raised where an over count leaves 0. -/
theorem summed_busOver (tag : Tag) (sample : Nat) {s : State}
    (unmetered : ∀ b : Fin 128, b.val ∉ s.summer.config.buses → s.summer.meters[b] = ⟨0, 0⟩) :
    (s.summed tag sample).causeSet .busOver = true ↔ s.causeSet .busOver = true ∨
      ∃ b : Fin 128, (s.summed tag sample).summer.meters[b].overCount ≠ 0 ∧
        (s.summer.meters[b].overCount = 0 ∨ b.val ∉ s.summer.pending.buses) := by
  rw [summed_causes, readyToSum_causes tag s (by decide), putInForce_causes]
  simp only [putInForce_meter (unmetered _), ← meterKept_overCount_eq_zero (unmetered _)]
  simp [and_comm]

/-! ### The channels suspended (R85) -/

theorem mem_given {s : State} {j : Fin 16} {f : LaneFrame} {k : Nat} :
    (j, f, k) ∈ s.given ↔ j ≠ s.straps.slot ∧ s.peers[j].contribution = some (f, k) := by
  rw [State.given, List.mem_filterMap]
  constructor
  · rintro ⟨i, -, gives⟩
    split at gives
    · cases gives
    · next other =>
      obtain ⟨⟨f', k'⟩, gives, eq⟩ := Option.map_eq_some_iff.mp gives
      cases eq
      exact ⟨other, gives⟩
  · rintro ⟨other, gives⟩
    exact ⟨j, List.mem_finRange j, by rw [if_neg other, gives]; rfl⟩

/-- A peer that is LIVE or HOLD gives the frame it used last (R64). -/
theorem Peer.gives_iff {p : Peer} {f : LaneFrame} :
    (∃ k, p.contribution = some (f, k)) ↔ (p.state = .live ∨ p.state = .hold) ∧ p.last = some f := by
  rw [contribution_eq]
  by_cases heard : p.state = .live ∨ p.state = .hold
  · simp [heard]
  · simp [heard]

/-- A channel is suspended where a lower slot, LIVE or HOLD once asked, announces it. -/
theorem mem_suspends {p : Nat} : p ∈ s.suspends tag ↔ p ∈ s.summer.pending.owned ∧ ∃ (j : Fin 16) (f : LaneFrame), j < s.straps.slot ∧
    ((s.peers[j].request tag).state = .live ∨ (s.peers[j].request tag).state = .hold) ∧ (s.peers[j].request tag).last = some f ∧
    p ∈ f.owned := by
  have straps := (sumStage_answered tag s).straps
  rw [State.suspends, List.mem_filter, announcedBelow, List.any_eq_true]
  refine and_congr_right fun _ => ⟨?_, ?_⟩
  · rintro ⟨⟨j, f, k⟩, gives, announced⟩
    obtain ⟨other, gives⟩ := mem_given.mp gives
    obtain ⟨below, announced⟩ : j < s.straps.slot ∧ p ∈ f.owned := by simpa using announced
    rw [straps] at other
    rw [answered_peers, if_neg other] at gives
    obtain ⟨heard, last⟩ := Peer.gives_iff.mp ⟨k, gives⟩
    exact ⟨j, f, below, heard, last, announced⟩
  · rintro ⟨j, f, below, heard, last, announced⟩
    obtain ⟨k, gives⟩ := Peer.gives_iff.mpr ⟨heard, last⟩
    have other : j ≠ s.straps.slot := ne_of_lt below
    refine ⟨(j, f, k), mem_given.mpr ⟨straps ▸ other, ?_⟩, by simp [below, announced]⟩
    rw [answered_peers, if_neg other, gives]

end

/-! ### The boundary as a whole -/

/-- What a frame boundary makes of the summer of a part `s`: `v` is the part as its summer finds it (R79, R117). -/
structure BoundarySummed (s v t : State) : Prop where
  straps : v.straps = s.straps
  peers : v.peers = s.peers
  summer : v.summer = s.summer
  before : ∀ c, c ∉ [.clockChange, .inputSilent] → v.causeSet c = s.causeSet c
  done : SummerDone s.clock.tag s.clock.serial v t
  meters : t.summer.meters = (v.summed s.clock.tag s.clock.serial).summer.meters
  causes : ∀ c, c ≠ .mergeDone → t.causeSet c = (v.summed s.clock.tag s.clock.serial).causeSet c

/-- Behind the summer's stages a boundary moves no meter, and raises MERGE DONE alone. -/
theorem boundaryWork_summed (tag : Tag) (sample : Nat) (s : State) :
    (boundaryWork tag sample s).summer.meters = (s.entered.summed tag sample).summer.meters ∧
      ∀ c, c ≠ .mergeDone → (boundaryWork tag sample s).causeSet c = (s.entered.summed tag sample).causeSet c := by
  have handed (totals : BusList) (u : State) : (handTotals totals u).control = u.control ∧ (handTotals totals u).summer = u.summer :=
    ⟨State.setPorts_control _ _, State.setPorts_summer _ _⟩
  have counted (u : State) : (advanceCounts u).control = u.control ∧ (advanceCounts u).summer = u.summer := ⟨rfl, rfl⟩
  rw [boundaryWork_eq, summerBoundary_eq]
  generalize (s.entered.readyToSum tag).premixTerms (s.entered.premixTotals tag sample) = terms
  generalize s.entered.totals tag sample = totals
  generalize s.entered.summed tag sample = v
  obtain ⟨-, -, -, -, control, summer⟩ := completeStems_blocks sample terms (handTotals totals v)
  generalize completeStems sample terms (handTotals totals v) = w at control summer ⊢
  obtain ⟨-, -, -, -, -, -, -, -, merged, -⟩ := mergeBoundary_keeps (advanceCounts w)
  refine ⟨?_, fun c merge => ?_⟩
  · rw [merged, (counted w).2, summer, (handed totals v).2]
  · rw [(mergeBoundary_playback _).2 c merge, causeSet_of_control ((counted w).1.trans (control.trans (handed totals v).1))]

theorem Bounds.summed {s t : State} (h : Bounds s t) : ∃ v, BoundarySummed s v t := by
  obtain ⟨u, clock, moved, eq⟩ := h
  obtain ⟨straps, -, -, -, peers, summer, -⟩ := moved.blocks
  obtain ⟨enteredStraps, -, enteredPeers, enteredSummer, -⟩ := entered_keeps u
  have done := (boundaryDone s.clock.tag s.clock.serial u).summer
  obtain ⟨meters, causes⟩ := boundaryWork_summed s.clock.tag s.clock.serial u
  have before (c : Cause) (hc : c ∉ [.clockChange, .inputSilent]) : u.entered.causeSet c = s.causeSet c := by
    obtain ⟨clockChange, inputSilent⟩ : c ≠ .clockChange ∧ c ≠ .inputSilent := by simpa using hc
    rw [entered_causes, moved.causes c clockChange, beq_eq_false_iff_ne.mpr inputSilent, Bool.and_false, Bool.or_false]
  generalize boundaryWork s.clock.tag s.clock.serial u = w at *
  generalize u.entered = v at *
  subst eq
  exact ⟨v, enteredStraps.trans straps, enteredPeers.trans peers, enteredSummer.trans summer, before,
    ⟨done.engine, done.tx, done.ports, done.peers, done.config, done.pending, done.premix, done.suspended, done.ownPremix,
      done.ownStem⟩, meters, causes⟩

end Sys2Proof.Machine
end

section
/-! Suspensions, meters and the summer's causes at a frame boundary, as the part shows them after it (R76, R77, R85 to R87). -/

namespace Sys2Proof.Machine

section
variable {s v t : State}

/-- A channel of the owned set in force is suspended where a peer of a lower slot, LIVE or HOLD after its due request, announces it. -/
theorem BoundarySummed.mem_suspended (h : BoundarySummed s v t) (p : Nat) :
    p ∈ t.summer.suspended ↔ p ∈ s.summer.pending.owned ∧ ∃ (j : Fin 16) (f : LaneFrame), j < s.straps.slot ∧
      (t.peers[j].state = .live ∨ t.peers[j].state = .hold) ∧ t.peers[j].last = some f ∧ p ∈ f.owned := by
  rw [h.done.suspended, readyToSum_suspended, mem_suspends, h.summer, h.straps, h.peers]
  refine and_congr_right fun _ => exists_congr fun j => exists_congr fun f => and_congr_right fun below => ?_
  have risen : t.peers[j] = (s.peers[j].request s.clock.tag).rise := by
    rw [h.done.peers, readyToSum_peers, h.straps, if_neg (ne_of_lt below), h.peers]
  obtain ⟨state, last⟩ := (s.peers[j].request s.clock.tag).rise_state
  rw [risen, state, last]

/-- A bus's meter is the one kept, after the total that the part shows. -/
theorem BoundarySummed.meter (h : BoundarySummed s v t) {b : Fin 128}
    (unmetered : b.val ∉ s.summer.config.buses → s.summer.meters[b] = ⟨0, 0⟩) :
    t.summer.meters[b] = (s.meterKept b).after (t.ports.totals.lookup b.val) := by
  have kept : v.meterKept b = s.meterKept b := by rw [State.meterKept, h.summer, State.meterKept]
  have totals : t.ports.totals = v.totals s.clock.tag s.clock.serial := by rw [h.done.ports]
  rw [h.meters, summed_meter _ (h.summer ▸ unmetered), kept, totals]

end

/-- Settles O32: each decision and each meter read off the part after the boundary, and each cause by the one stage that raises it. -/
theorem boundaryJudgesOwnersAndMeters : Obligations.BoundaryJudgesOwnersAndMeters := by
  rintro c s pin bound ⟨-, -, -, unmetered, -⟩
  obtain ⟨t, ran, bounds⟩ := exec_boundary pin bound
  obtain ⟨v, made⟩ := bounds.summed
  have raised (c : Cause) (hc : c ≠ .mergeDone) := made.causes c hc
  refine ⟨t, ran, made.mem_suspended, ?_, ?_, fun b => ?_, ?_⟩
  · rw [raised _ (by decide), summed_premixConflict, made.before _ (by decide), ← readyToSum_suspended, ← made.done.suspended,
      made.summer]
  · rw [raised _ (by decide), summed_windowOversubscribed, made.before _ (by decide), made.summer]
  · rw [made.meter (unmetered b)]
    cases t.ports.totals.lookup b.val <;> rfl
  · rw [raised _ (by decide), summed_busOver _ _ (made.summer ▸ unmetered), made.before _ (by decide), ← made.meters, made.summer]

end Sys2Proof.Machine
end

section
/-! What a frame boundary keeps of the bus summer (R77, R78, R87). -/

namespace Sys2Proof.Machine

variable {s t : State}

/-! ### Meters and held lists (R78, R87) -/

/-- A meter within its ranges (R87). -/
def Meter.inRange (m : Meter) : Prop := m.peak ≤ 2147483648 ∧ m.overCount ≤ 65535

theorem satWide_natAbs_le (v : Int) : (satWide v).natAbs ≤ 2147483648 := by
  unfold satWide
  omega

/-- A saturated total leaves a meter within its ranges. -/
theorem Meter.inRange_update {m : Meter} (h : m.inRange) (v : Int) : (m.update (satWide v)).inRange := by
  obtain ⟨peak, overCount⟩ := h
  refine ⟨max_le peak (satWide_natAbs_le v), ?_⟩
  unfold Meter.update count16
  dsimp only
  split <;> omega

/-- At most two lists of a kind are held, however many were (R78). -/
theorem length_holdList_le (sample : Nat) (l : BusList) (held : List (Nat × BusList)) : (holdList sample l held).length ≤ 2 := by
  rw [holdList, List.length_drop, List.length_append, List.length_singleton]
  omega

/-! ### A frame boundary -/

theorem inRange_meterKept (ranges : ∀ b : Fin 128, s.summer.meters[b].inRange) (b : Fin 128) : (s.meterKept b).inRange := by
  unfold State.meterKept
  split
  · exact ranges b
  · exact ⟨Nat.zero_le _, Nat.zero_le _⟩

/-- A bus has a total, and a saturated one, only where it lies in the set in force (R79). -/
theorem BoundarySummed.total {v : State} (h : BoundarySummed s v t) (b : Nat) :
    (b ∉ t.summer.config.buses → t.ports.totals.lookup b = none) ∧
      (t.ports.totals.lookup b = none ∨ ∃ w, t.ports.totals.lookup b = some (satWide w)) := by
  have totals : t.ports.totals = v.totals s.clock.tag s.clock.serial := by rw [h.done.ports]
  rw [totals, lookup_totals, h.done.config]
  split
  · next member => exact ⟨fun outside => absurd member outside, .inr ⟨_, rfl⟩⟩
  · exact ⟨fun _ => rfl, .inl rfl⟩

/-- A boundary puts a safe configuration in force, judges its own channels alone, and meters its buses alone. -/
theorem BoundarySummed.summerSafe {v : State} (h : BoundarySummed s v t) (straps : t.straps = s.straps) (safe : SummerSafe s) :
    SummerSafe t := by
  obtain ⟨-, pending, -, unmetered, ranges, ownPremix, -⟩ := safe
  have rate : t.rate = s.rate := congrArg Straps.rate straps
  have config : t.summer.config = s.summer.pending := by rw [h.done.config, h.summer]
  refine ⟨?_, ?_, fun p suspended => ?_, fun b outside => ?_, fun b => ?_, ?_, ?_⟩
  · rwa [config, rate]
  · rwa [h.done.pending, h.summer, rate]
  · rw [config]
    exact ((h.mem_suspended p).mp suspended).1
  · rw [h.meter (unmetered b), (h.total b).1 outside]
    exact if_neg fun stays => outside (config ▸ stays.2)
  · have kept := inRange_meterKept ranges b
    rw [h.meter (unmetered b)]
    obtain none | ⟨w, some⟩ := (h.total b).2
    · rwa [none]
    · rw [some]
      exact Meter.inRange_update kept w
  · rwa [h.done.ownPremix, h.summer]
  · rw [h.done.ownStem]
    exact length_holdList_le _ _ _

end Sys2Proof.Machine
end

section
/-! What every step keeps of the bus summer (R74, R75, R77, R78, R86, R87). -/

namespace Sys2Proof.Machine

section
variable {s t : State}

theorem SummerSafe.congr (safe : SummerSafe s) (straps : t.straps = s.straps) (summer : t.summer = s.summer) : SummerSafe t := by
  have rate : t.rate = s.rate := congrArg Straps.rate straps
  rw [SummerSafe, rate, summer]
  exact safe

theorem SummerSafe.pending (safe : SummerSafe s) : s.summer.pending.safe s.rate := by
  obtain ⟨-, pending, -⟩ := safe
  exact pending

/-- A write that reaches the pending copy and the master records alone keeps the summer safe where the copy is. -/
theorem SummerSafe.pendingWritten {pending : SumConfig} {premix : Vector PremixMaster 64} (safe : SummerSafe s)
    (straps : t.straps = s.straps) (copy : pending.safe s.rate)
    (summer : t.summer = { s.summer with pending := pending, premix := premix }) : SummerSafe t := by
  obtain ⟨config, -, rest⟩ := safe
  have rate : t.rate = s.rate := congrArg Straps.rate straps
  rw [SummerSafe, rate, summer]
  exact ⟨config, copy, rest⟩

/-- A list joins the own premix lists held, and of the summer nothing else changes (R78). -/
theorem SummerSafe.holdPremix (safe : SummerSafe s) (straps : t.straps = s.straps) (sample : Nat) (l : BusList)
    (summer : t.summer = { s.summer with ownPremix := holdList sample l s.summer.ownPremix }) : SummerSafe t := by
  obtain ⟨config, pending, suspended, unmetered, ranges, -, ownStem⟩ := safe
  have rate : t.rate = s.rate := congrArg Straps.rate straps
  rw [SummerSafe, rate, summer]
  exact ⟨config, pending, suspended, unmetered, ranges, length_holdList_le sample l s.summer.ownPremix, ownStem⟩

theorem SummerSafe.processFrame (safe : SummerSafe s) (samples : Vector Int 64) : SummerSafe (processFrame samples s) := by
  rw [processFrame_eq]
  obtain ⟨straps, -, -, -, -, summer, -⟩ := handOverA_blocks (premixContributions (s.sendTerms samples)) (s.formed samples)
  exact safe.holdPremix straps _ _ summer

/-- Meters that are cleared or stand keep the summer safe (R88). -/
theorem SummerSafe.clearMeters {meters : Vector Meter 128} (safe : SummerSafe s) (straps : t.straps = s.straps)
    (cleared : ∀ b : Fin 128, meters[b] = ⟨0, 0⟩ ∨ meters[b] = s.summer.meters[b])
    (summer : t.summer = { s.summer with meters := meters }) : SummerSafe t := by
  obtain ⟨config, pending, suspended, unmetered, ranges, own⟩ := safe
  have rate : t.rate = s.rate := congrArg Straps.rate straps
  rw [SummerSafe, rate, summer]
  refine ⟨config, pending, suspended, fun b outside => ?_, fun b => ?_, own⟩
  · exact (cleared b).elim id fun stands => stands.trans (unmetered b outside)
  · obtain zero | stands := cleared b
    · rw [zero]
      exact ⟨Nat.zero_le _, Nat.zero_le _⟩
    · rw [stands]
      exact ranges b

/-- ENGINE RESTART keeps both configurations, and discards decisions, meters and own lists (R91). -/
theorem SummerSafe.restartWork (safe : SummerSafe s) : SummerSafe (restartWork s) := by
  obtain ⟨config, pending, -⟩ := safe
  have restarted := engineRestarted s
  have made := restartAudio_summer s
  rw [← restarted.summer] at made
  obtain ⟨sameConfig, samePending, suspended, ownPremix, ownStem, meters, -⟩ := made
  have rate : (Machine.restartWork s).rate = s.rate := congrArg Straps.rate restarted.straps
  rw [SummerSafe, rate, sameConfig, samePending, suspended, ownPremix, ownStem]
  refine ⟨config, pending, fun p mem => absurd mem List.not_mem_nil, fun b _ => meters b, fun b => ?_, Nat.zero_le 2, Nat.zero_le 2⟩
  rw [meters]
  exact ⟨Nat.zero_le _, Nat.zero_le _⟩

/-! ### The commands that act on the summer -/

theorem SummerSafe.onEvent {f : State → State} (safe : SummerSafe s) (k : SummerSafe (f s)) (h : onEvent s f = .next t) :
    SummerSafe t := by
  obtain rfl := Host.Outcome.next.inj h
  split
  · exact safe
  · exact k

theorem SummerSafe.onCommand {f : State → State} (safe : SummerSafe s) (k : SummerSafe (f s)) (h : onCommand s f = .next t) :
    SummerSafe t := by
  obtain rfl := Host.Outcome.next.inj h
  split
  · exact safe.congr rfl rfl
  · exact k

theorem SummerSafe.respond (safe : SummerSafe s) (status : Status) (data : List Byte) : SummerSafe (respond status data s) :=
  safe.congr rfl rfl

theorem exec_actsOnSummer {c : Instr} (acts : actsOnSummer c) (safe : SummerSafe s) (h : exec c s = .next t) : SummerSafe t := by
  cases c with
  | stripFrameProcess =>
    rw [exec, execStripFrameProcess] at h
    refine safe.onEvent ?_ h
    split
    · exact safe
    · exact safe.processFrame _
  | writePremix =>
    have straps := (exec_settled h id).straps
    obtain same | ⟨p, d, room, written⟩ := summer_of_writePremix h
    · exact safe.congr straps same
    · exact safe.pendingWritten straps (SumConfig.safe_markOwned _ safe.pending room) written
  | writeWindow =>
    have straps := (exec_settled h id).straps
    obtain same | ⟨n, w, written⟩ := summer_of_writeWindow h
    · exact safe.congr straps same
    · exact safe.pendingWritten straps (SumConfig.safe_rewindow _ safe.pending) written
  | readMeters =>
    rw [exec, execReadMeters] at h
    refine safe.onCommand ?_ h
    split
    · dsimp only
      split
      · exact safe.respond _ _
      · refine SummerSafe.respond (safe.clearMeters (State.setSummer_straps _ _) (fun b => ?_) (State.setSummer_summer _ _)) _ _
        rw [mapFin_get]
        exact ite_eq_or_eq ..
    · exact safe.respond _ _
  | engineRestart =>
    rw [exec, execEngineRestart, onBare] at h
    refine safe.onCommand ?_ h
    split
    · exact safe.restartWork.respond _ _
    · exact safe.respond _ _
  | _ => exact acts.elim

/-! ### Every command -/

theorem exec_reset_summerSafe {c : Instr} (reset : isReset c) (safe : SummerSafe s) (h : exec c s = .next t) : SummerSafe t := by
  cases c with
  | powerOnReset straps | resetPinRelease straps =>
    obtain rfl := Host.Outcome.next.inj h
    exact (summerSafe_resetWith straps).congr rfl rfl
  | resetPinAssert =>
    obtain rfl := Host.Outcome.next.inj h
    exact safe.congr rfl rfl
  | _ => exact reset.elim

theorem exec_summerSafe {c : Instr} (safe : SummerSafe s) (h : exec c s = .next t) : SummerSafe t := by
  by_cases reset : isReset c
  · exact exec_reset_summerSafe reset safe h
  have straps := (exec_settled h reset).straps
  by_cases acts : actsOnSummer c
  · exact exec_actsOnSummer acts safe h
  by_cases bound : makesBoundary s c
  · cases pin : s.resetPin with
    | true =>
      obtain rfl := Host.Outcome.next.inj ((exec_boundary_pinned pin bound).symm.trans h)
      exact safe
    | false =>
      obtain ⟨u, ran, bounds⟩ := exec_boundary pin bound
      obtain rfl := Host.Outcome.next.inj (ran.symm.trans h)
      obtain ⟨v, made⟩ := bounds.summed
      exact made.summerSafe straps safe
  · exact safe.congr straps (exec_summer h bound reset acts)

end

/-- Settles O35: resets, boundaries and the commands that act on the summer each keep it safe, and no other command touches it. -/
theorem stepKeepsSummerSafe : Obligations.StepKeepsSummerSafe := by
  intro s t safe h
  unfold step at h
  split at h
  · obtain rfl := Host.Outcome.next.inj h
    exact safe
  · next c rest _ =>
    have taken : SummerSafe (s.setPending rest) := safe.congr rfl rfl
    exact exec_summerSafe taken h

end Sys2Proof.Machine
end

section
/-! What keeps the send queue and the group table within their rules (R95, R100, R101, R106): the operations of the group line itself. -/

namespace Sys2Proof.Machine

/-! ### A safe group line -/

/-- What `GroupSafe` asks of the group line of a station, given whether it is listen-only. -/
structure GroupLine.Safe (lo : Bool) (g : GroupLine) : Prop where
  length : g.queue.length ≤ 40
  keys : (g.queue.map QueueEntry.key).Nodup
  single : (g.queue.filter fun e => e.inFlight.isSome).length ≤ 1
  sending : (∃ e ∈ g.queue, e.inFlight ≠ none) → g.line = .message
  silent : lo = true → g.queue = []
  offsets : ∀ h : Fin 32, -1020 ≤ g.table[h].offset ∧ g.table[h].offset ≤ 120

theorem groupSafe_iff {s : State} : GroupSafe s ↔ s.group.Safe s.listenOnly :=
  ⟨fun ⟨length, keys, single, sending, silent, offsets⟩ => ⟨length, keys, single, sending, silent, offsets⟩,
    fun ⟨length, keys, single, sending, silent, offsets⟩ => ⟨length, keys, single, sending, silent, offsets⟩⟩

/-- No entry of the queue is in flight. -/
def GroupLine.quiet (g : GroupLine) : Prop := ∀ e ∈ g.queue, e.inFlight = none

variable {lo : Bool} {g : GroupLine}

theorem GroupLine.quiet_iff_sending : g.quiet ↔ g.sending = none := by
  simp [GroupLine.quiet, GroupLine.sending]

theorem GroupLine.Safe.quiet (h : g.Safe lo) (line : g.line ≠ .message) : g.quiet := fun e he => by
  by_contra flies
  exact line (h.sending ⟨e, he, flies⟩)

/-- A queue cut short, with the line state kept or nothing in flight. -/
theorem GroupLine.Safe.shortened {g' : GroupLine} (h : g.Safe lo) (queue : g'.queue.Sublist g.queue)
    (line : g'.line = g.line ∨ g'.quiet) (table : g'.table = g.table) : g'.Safe lo where
  length := queue.length_le.trans h.length
  keys := h.keys.sublist (queue.map _)
  single := (queue.filter _).length_le.trans h.single
  sending := fun ⟨e, he, flies⟩ =>
    line.elim (fun same => same.trans (h.sending ⟨e, queue.mem he, flies⟩)) fun quiet => (flies (quiet e he)).elim
  silent := fun only => List.sublist_nil.mp (h.silent only ▸ queue)
  offsets := by rw [table]; exact h.offsets

/-- Only what the rules do not speak of has changed. -/
theorem GroupLine.Safe.congr {g' : GroupLine} (h : g.Safe lo) (queue : g'.queue = g.queue) (line : g'.line = g.line)
    (table : g'.table = g.table) : g'.Safe lo := h.shortened (queue ▸ .refl _) (.inl line) table

/-- With nothing in flight the line state may be any. -/
theorem GroupLine.Safe.relined {g' : GroupLine} (h : g.Safe lo) (quiet : g.quiet) (queue : g'.queue = g.queue)
    (table : g'.table = g.table) : g'.Safe lo :=
  h.shortened (queue ▸ .refl _) (.inr fun e he => quiet e (queue ▸ he)) table

/-! ### The mark of an entry in flight (R95 to R97) -/

/-- Every mark of a queue is cleared. -/
def clearMarks (queue : List QueueEntry) : List QueueEntry := queue.map fun e => { e with inFlight := none }

theorem clearMarks_unmarked {queue : List QueueEntry} {e : QueueEntry} (he : e ∈ clearMarks queue) : e.inFlight = none := by
  obtain ⟨x, -, rfl⟩ := List.mem_map.mp he
  rfl

theorem clearMarks_keys (queue : List QueueEntry) : (clearMarks queue).map QueueEntry.key = queue.map QueueEntry.key := by
  rw [clearMarks, List.map_map]
  rfl

/-- Some of the entries stay, and none in flight. -/
theorem GroupLine.Safe.unmarked {g' : GroupLine} {kept : List QueueEntry} (h : g.Safe lo) (stay : kept.Sublist g.queue)
    (queue : g'.queue = clearMarks kept) (table : g'.table = g.table) : g'.Safe lo where
  length := by
    rw [queue, clearMarks, List.length_map]
    exact stay.length_le.trans h.length
  keys := by
    rw [queue, clearMarks_keys]
    exact h.keys.sublist (stay.map _)
  single := by
    rw [queue, List.filter_eq_nil_iff.mpr fun e he => by rw [clearMarks_unmarked he]; decide]
    exact Nat.zero_le 1
  sending := fun ⟨e, he, flies⟩ => (flies (clearMarks_unmarked (queue ▸ he))).elim
  silent := fun only => by
    have empty : kept = [] := List.sublist_nil.mp (h.silent only ▸ stay)
    rw [queue, empty]
    rfl
  offsets := by rw [table]; exact h.offsets

theorem GroupLine.Safe.withdraw (h : g.Safe lo) : g.withdraw.Safe lo := h.unmarked List.filter_sublist rfl rfl

theorem GroupLine.quiet_withdraw (g : GroupLine) : g.withdraw.quiet := fun _ he => clearMarks_unmarked he

theorem GroupLine.Safe.settle (h : g.Safe lo) : g.settle.Safe lo := h.unmarked List.filter_sublist rfl rfl

theorem GroupLine.quiet_settle (g : GroupLine) : g.settle.quiet := fun _ he => clearMarks_unmarked he

theorem QueueEntry.hasKey_iff {kind : MsgKind} {number : Nat} {e : QueueEntry} : e.hasKey kind number = true ↔ e.key = (kind, number) := by
  simp [QueueEntry.hasKey, QueueEntry.key]

/-- One entry of a quiet queue is marked in flight, and the line is in MESSAGE (R95, log entry 12). -/
theorem GroupLine.Safe.marked (h : g.Safe lo) (quiet : g.quiet) (kind : MsgKind) (number : Nat) :
    ({ g with
      line := .message
      queue := g.queue.map fun e => if e.hasKey kind number then { e with inFlight := some e.value } else e } : GroupLine).Safe lo where
  length := by
    rw [List.length_map]
    exact h.length
  keys := by
    rw [List.map_map]
    refine (congrArg List.Nodup (List.map_congr_left fun e _ => ?_)).mpr h.keys
    dsimp only [Function.comp_apply]
    split <;> rfl
  single := by
    rw [List.filter_map, List.length_map, ← List.countP_eq_length_filter]
    have flies : ∀ e ∈ g.queue, ((fun e : QueueEntry => e.inFlight.isSome) ∘ fun e : QueueEntry =>
        if e.hasKey kind number then { e with inFlight := some e.value } else e) e = true ↔ (e.key == (kind, number)) = true := by
      intro e he
      rw [beq_iff_eq, ← QueueEntry.hasKey_iff, Function.comp_apply]
      split
      · next has => simp [has]
      · next other => simp [quiet e he, other]
    rw [List.countP_congr flies]
    have once := List.nodup_iff_count_le_one.mp h.keys (kind, number)
    rwa [List.count, List.countP_map] at once
  sending := fun _ => rfl
  silent := fun only => by
    dsimp only
    rw [h.silent only]
    rfl
  offsets := h.offsets

/-! ### An enqueue (R101) -/

theorem MsgKind.room_le (kind : MsgKind) : kind.room ≤ 40 := by cases kind <;> decide

theorem GroupLine.Safe.enqueue (h : g.Safe false) (kind : MsgKind) (number : Nat) (value : Int) :
    (g.enqueue kind number value).Safe false := by
  unfold GroupLine.enqueue
  split
  · have same (e : QueueEntry) : (if e.hasKey kind number then { e with value := value } else e).key = e.key ∧
        (if e.hasKey kind number then { e with value := value } else e).inFlight = e.inFlight := by
      split <;> exact ⟨rfl, rfl⟩
    refine ⟨?_, ?_, ?_, fun ⟨e, he, flies⟩ => ?_, (fun only => nomatch only), h.offsets⟩
    · rw [List.length_map]
      exact h.length
    · rw [List.map_map]
      exact (congrArg List.Nodup (List.map_congr_left fun e _ => (same e).1)).mpr h.keys
    · have flies : ((fun e : QueueEntry => e.inFlight.isSome) ∘ fun e : QueueEntry =>
          if e.hasKey kind number then { e with value := value } else e) = fun e => e.inFlight.isSome :=
        funext fun e => congrArg Option.isSome (same e).2
      rw [List.filter_map, List.length_map, flies]
      exact h.single
    · obtain ⟨x, hx, rfl⟩ := List.mem_map.mp he
      rw [(same x).2] at flies
      exact h.sending ⟨x, hx, flies⟩
  · next new =>
    split
    · exact h.congr rfl rfl rfl
    · next room =>
      have fresh : ∀ e ∈ g.queue, e.key ≠ (kind, number) := fun e he same =>
        new (List.any_eq_true.mpr ⟨e, he, QueueEntry.hasKey_iff.mpr same⟩)
      refine ⟨?_, ?_, ?_, fun ⟨e, he, flies⟩ => ?_, (fun only => nomatch only), h.offsets⟩
      · have := kind.room_le
        rw [List.length_append, List.length_singleton]
        omega
      · rw [List.map_append]
        refine List.nodup_append.mpr ⟨h.keys, List.nodup_singleton _, fun key hkey own hown => ?_⟩
        obtain ⟨e, he, rfl⟩ := List.mem_map.mp hkey
        obtain rfl := List.mem_singleton.mp hown
        exact fresh e he
      · rw [List.filter_append]
        exact (List.append_nil _).symm ▸ h.single
      · rcases List.mem_append.mp he with he | he
        · exact h.sending ⟨e, he, flies⟩
        · obtain rfl := List.mem_singleton.mp he
          exact (flies rfl).elim

/-! ### The table (R100) -/

/-- A taken offset is clamped (R100). -/
theorem GroupLine.Safe.taken (h : g.Safe lo) (kind : Kind) (k : Fin 32) (value : Int) (slot : Fin 16) :
    ({ g with table := g.table.set k (g.table[k].take kind value slot) } : GroupLine).Safe lo where
  length := h.length
  keys := h.keys
  single := h.single
  sending := h.sending
  silent := h.silent
  offsets := fun j => by
    have held := h.offsets k
    rw [set_get, TableEntry.take_eq]
    split
    · dsimp only
      split <;> omega
    · exact h.offsets j

end Sys2Proof.Machine
end

section
/-! What the work on strips, on the group line and on the automation engine keeps of the send queue and the group table. -/

namespace Sys2Proof.Machine

/-- Work after which the send queue and the group table are within their rules, if they were before. -/
structure KeepsGroup (s t : State) : Prop where
  safe : GroupSafe s → GroupSafe t

variable {s t u : State}

theorem KeepsGroup.refl (s : State) : KeepsGroup s s := ⟨id⟩

theorem KeepsGroup.trans (h : KeepsGroup s t) (k : KeepsGroup t u) : KeepsGroup s u := ⟨k.safe ∘ h.safe⟩

theorem KeepsGroup.either {c : Prop} [Decidable c] (h : KeepsGroup s t) (k : KeepsGroup s u) : KeepsGroup s (if c then t else u) := by
  split
  · exact h
  · exact k

theorem keepsGroup_of_line (tx : t.tx = s.tx) (line : s.group.Safe s.listenOnly → t.group.Safe s.listenOnly) : KeepsGroup s t where
  safe := fun safe => by
    rw [groupSafe_iff, State.listenOnly, tx]
    exact line (groupSafe_iff.mp safe)

theorem keepsGroup_same (tx : t.tx = s.tx) (group : t.group = s.group) : KeepsGroup s t :=
  keepsGroup_of_line tx fun safe => group ▸ safe

theorem keepsGroup_setGroup {v : GroupLine} (line : s.group.Safe s.listenOnly → v.Safe s.listenOnly) : KeepsGroup s (s.setGroup v) :=
  keepsGroup_of_line rfl line

theorem keepsGroup_setPlayback (s : State) (v : Playback) : KeepsGroup s (s.setPlayback v) := keepsGroup_same rfl rfl

theorem keepsGroup_setPass (s : State) (v : Pass) : KeepsGroup s (s.setPass v) := keepsGroup_same rfl rfl

theorem JournalFrame.keepsGroup (h : JournalFrame s t) : KeepsGroup s t := keepsGroup_same h.inner.tx h.group

theorem KeepsGroup.whenDone {c : Prop} [Decidable c] (h : KeepsGroup s t) (k : KeepsGroup t u) : KeepsGroup s (if c then u else t) :=
  (h.trans k).either h

theorem KeepsGroup.unlessDone {c : Prop} [Decidable c] (h : KeepsGroup s t) (k : KeepsGroup t u) : KeepsGroup s (if c then t else u) :=
  h.either (h.trans k)

theorem forStrips_keepsGroup {f : Fin 64 → State → State} (h : ∀ i t, KeepsGroup t (f i t)) (s : State) : KeepsGroup s (forStrips f s) :=
  forStrips_induct (P := KeepsGroup s) (.refl s) fun i t _ kept => kept.trans (h i t)

theorem foldl_keepsGroup {α : Type} {f : State → α → State} (h : ∀ t a, KeepsGroup t (f t a)) (l : List α) (s : State) :
    KeepsGroup s (l.foldl f s) := by
  induction l generalizing s with
  | nil => exact .refl s
  | cons a l ih => exact (h s a).trans (ih _)

/-! ### Messages sent and taken (R95, R100, R101, R106) -/

theorem GroupSafe.quiet (safe : GroupSafe s) (line : s.group.line ≠ .message) : s.group.quiet := (groupSafe_iff.mp safe).quiet line

/-- A message starts where none is in flight (R95). -/
theorem GroupSafe.markInFlight (safe : GroupSafe s) (quiet : s.group.quiet) : GroupSafe (markInFlight s) := by
  unfold Machine.markInFlight
  split
  · exact safe
  · split
    · exact safe
    · exact (keepsGroup_setGroup fun line => line.marked quiet _ _).safe safe

theorem keepsGroup_startIfIdle (s : State) : KeepsGroup s (startIfIdle s) := by
  refine ⟨fun safe => ?_⟩
  unfold startIfIdle
  split
  · next idle => exact safe.markInFlight (safe.quiet (by rw [idle]; decide))
  · exact safe
  · exact safe

theorem keepsGroup_retuneWhere (p : Strip → Bool) (s : State) : KeepsGroup s (retuneWhere p s) :=
  keepsGroup_same (lineFrame_retuneWhere p s).inner.tx (retuneWhere_group p s)

theorem keepsGroup_takeGroup (kind : Kind) (g : Fin 32) (value : Int) (slot : Fin 16) (s : State) :
    KeepsGroup s (takeGroup kind g value slot s) := by
  refine keepsGroup_of_line (lineFrame_takeGroup kind g value slot s).inner.tx fun safe => ?_
  rw [takeGroup_group]
  exact safe.taken kind g value slot

theorem keepsGroup_enqueueGroup (kind : Kind) (g : Fin 32) (value : Int) (s : State) : KeepsGroup s (enqueueGroup kind g value s) := by
  cases lo : s.listenOnly with
  | true => exact enqueueGroup_silent lo kind g value ▸ keepsGroup_takeGroup kind g value _ s
  | false =>
    rw [enqueueGroup_driving lo]
    have enqueued : KeepsGroup s (s.setGroup (s.group.enqueue kind.message g.val value)) := by
      refine keepsGroup_setGroup ?_
      rw [lo]
      exact fun line => line.enqueue _ _ _
    exact enqueued.trans (keepsGroup_startIfIdle _)

/-! ### The mastered set (R33, R34, R102, R103) -/

theorem keepsGroup_modMaster (g : Fin 32) (f : Master → Master) (s : State) : KeepsGroup s (modMaster g f s) :=
  keepsGroup_setGroup fun line => line.congr rfl rfl rfl

theorem keepsGroup_refreshGroup (g : Fin 32) (s : State) : KeepsGroup s (refreshGroup g s) := by
  unfold refreshGroup
  split
  · exact .refl s
  · exact ((keepsGroup_modMaster _ _ _).trans (keepsGroup_enqueueGroup _ _ _ _)).trans (keepsGroup_enqueueGroup _ _ _ _)

theorem keepsGroup_enqueueOffsets (s : State) : KeepsGroup s (enqueueOffsets s) :=
  foldl_keepsGroup (fun t _ => (KeepsGroup.refl t).either ((keepsGroup_modMaster _ _ _).trans (keepsGroup_enqueueGroup _ _ _ _))) _ s

theorem keepsGroup_handMaster (g : Fin 32) (offset : Int) (cut : Bool) (s : State) : KeepsGroup s (handMaster g offset cut s) := by
  cases found : s.group.master g with
  | none =>
    rw [handMaster_none found]
    exact .refl s
  | some m =>
    rw [handMaster_some found]
    exact (keepsGroup_modMaster _ _ _).either ((keepsGroup_modMaster _ _ _).trans (keepsGroup_enqueueGroup _ _ _ _))

theorem keepsGroup_modStrip (i : Fin 64) (f : Strip → Strip) (s : State) : KeepsGroup s (modStrip i f s) := keepsGroup_same rfl rfl

theorem keepsGroup_modAuto (i : Fin 64) (f : AutoStrip → AutoStrip) (s : State) : KeepsGroup s (modAuto i f s) := keepsGroup_same rfl rfl

theorem keepsGroup_evalStrip (i : Fin 64) (s : State) : KeepsGroup s (evalStrip i s) := by
  cases role : s.strips[i].role with
  | audio => exact evalStrip_audio role ▸ keepsGroup_modStrip i _ s
  | groupMaster g => exact evalStrip_master role ▸ keepsGroup_handMaster g _ _ s

theorem keepsGroup_modEval (i : Fin 64) (f : Strip → Strip) (s : State) : KeepsGroup s (evalStrip i (modStrip i f s)) :=
  (keepsGroup_modStrip i f s).trans (keepsGroup_evalStrip i _)

theorem keepsGroup_becomeMaster (i : Fin 64) (g : Fin 32) (s : State) : KeepsGroup s (becomeMaster i g s) := by
  unfold becomeMaster
  refine KeepsGroup.trans ?_ (keepsGroup_refreshGroup g _)
  exact keepsGroup_setGroup fun line => line.congr rfl rfl rfl

theorem keepsGroup_ceaseMaster (g : Fin 32) (s : State) : KeepsGroup s (ceaseMaster g s) :=
  keepsGroup_setGroup fun line => line.shortened List.filter_sublist (.inl rfl) rfl

theorem keepsGroup_changeRole (i : Fin 64) (before : Role) (s : State) : KeepsGroup s (changeRole i before s) := by
  have left : KeepsGroup s (match before with
      | .audio => s
      | .groupMaster g => modStrip i (Strip.retune (ceaseMaster g s).group.table (ceaseMaster g s).group.soloLevel)
          (ceaseMaster g s)) := by
    split
    · exact .refl s
    · exact (keepsGroup_ceaseMaster _ s).trans (keepsGroup_modStrip i _ _)
  unfold changeRole
  dsimp only
  split
  · exact left
  · exact left.trans (keepsGroup_becomeMaster _ _ _)

/-! ### The automation engine (R141 to R149) -/

theorem keepsGroup_handLevel (i : Fin 64) (s : State) : KeepsGroup s (handLevel i s) := keepsGroup_modEval i _ s

theorem keepsGroup_handCut (i : Fin 64) (s : State) : KeepsGroup s (handCut i s) := keepsGroup_modEval i _ s

theorem keepsGroup_handValues (i : Fin 64) (s : State) : KeepsGroup s (handValues i s) :=
  (keepsGroup_handLevel i s).trans (keepsGroup_handCut i _)

theorem keepsGroup_returnLevel (i : Fin 64) (s : State) : KeepsGroup s (returnLevel i s) :=
  KeepsGroup.either ((keepsGroup_modAuto i _ s).trans (keepsGroup_modEval i _ _)) ((keepsGroup_modAuto i _ s).trans (keepsGroup_handLevel i _))

/-- A strip is read, and its level and cut return to the store (R141, R145). -/
theorem keepsGroup_returned (i : Fin 64) (s : State) : KeepsGroup s (handCut i (returnLevel i (readStrip i s))) :=
  ((keepsGroup_modAuto i _ s).trans (keepsGroup_returnLevel i _)).trans (keepsGroup_handCut i _)

theorem keepsGroup_advanceGlide (i : Fin 64) (s : State) : KeepsGroup s (advanceGlide i s) := by
  unfold advanceGlide
  dsimp only
  split
  · exact .refl s
  · split
    · exact (keepsGroup_modAuto i _ s).trans (keepsGroup_handLevel i _)
    · exact (keepsGroup_modAuto i _ s).trans (keepsGroup_modEval i _ _)

theorem keepsGroup_touchStrip (i : Fin 64) (s : State) : KeepsGroup s (touchStrip i s) := by
  have touched := keepsGroup_modAuto i (fun a => { a with touched := true }) s
  have live := (touched.trans (keepsGroup_modAuto i (fun a => { a with phase := .live }) _)).trans (keepsGroup_handLevel i _)
  exact (live.trans (journalFrame_punchIn _ _ _ _).keepsGroup).either touched

theorem keepsGroup_releaseStrip (i : Fin 64) (s : State) : KeepsGroup s (releaseStrip i s) := by
  unfold releaseStrip
  dsimp only
  refine (keepsGroup_modAuto i (fun a => { a with touched := false }) s).trans ?_
  generalize modAuto i (fun a => { a with touched := false }) s = u
  have returned := keepsGroup_returned i u
  refine KeepsGroup.either (.refl u) (KeepsGroup.either ?_ (KeepsGroup.either ?_ ?_))
  · exact (keepsGroup_modAuto i _ u).trans (keepsGroup_handLevel i _)
  · exact returned.whenDone (journalFrame_recordGlideStart _ _ _ _).keepsGroup
  · exact returned.trans (journalFrame_closePunch _ _ _ _).keepsGroup

theorem keepsGroup_changeCut (i : Fin 64) (s : State) : KeepsGroup s (changeCut i s) :=
  KeepsGroup.either (KeepsGroup.whenDone ((keepsGroup_modAuto i _ s).trans (keepsGroup_handCut i _))
    (journalFrame_punchIn _ _ _ _).keepsGroup) (keepsGroup_evalStrip i s)

theorem keepsGroup_changeMode (i : Fin 64) (s : State) : KeepsGroup s (changeMode i s) := by
  rw [changeMode_eq]
  have handed : KeepsGroup s (modeHanded i s) := ((journalFrame_closePunches i _ s).keepsGroup.trans (keepsGroup_modAuto i _ _)).trans
    (keepsGroup_handValues i _)
  exact handed.trans (journalFrame_punches i _ _).keepsGroup

theorem keepsGroup_endLive (i : Fin 64) (s : State) : KeepsGroup s (endLive i s) :=
  ((KeepsGroup.refl s).whenDone (keepsGroup_returned i s)).whenDone ((keepsGroup_modAuto i _ _).trans (keepsGroup_handCut i _))

theorem keepsGroup_jumpTo (position : Nat) (s : State) : KeepsGroup s (jumpTo position s) := by
  unfold jumpTo
  exact ((keepsGroup_setPlayback s _).trans (journalFrame_closeAllPunches _ _).keepsGroup).trans (journalFrame_punchInAll _ _).keepsGroup

theorem keepsGroup_takePosition (position : Nat) (transport : Transport) (s : State) : KeepsGroup s (takePosition position transport s) := by
  have adopts (transport : Transport) (u : State) : KeepsGroup u (adopt position transport u) := keepsGroup_setPlayback u _
  unfold takePosition
  split
  · exact (adopts _ s).either (keepsGroup_jumpTo position s)
  · exact ((forStrips_keepsGroup keepsGroup_endLive s).trans (journalFrame_closeAllPunches _ _).keepsGroup).trans (adopts _ _)
  · exact (adopts _ s).trans (journalFrame_punchInAll _ _).keepsGroup
  · exact adopts _ s

theorem keepsGroup_automationStepWork (s : State) : KeepsGroup s (automationStepWork s) := by
  have read := forStrips_keepsGroup (fun i t => KeepsGroup.either ((keepsGroup_modAuto i _ t).trans (keepsGroup_handValues i _))
    (.refl t) : ∀ i t, KeepsGroup t (stepRead i t)) s
  have glided := read.trans (forStrips_keepsGroup keepsGroup_advanceGlide _)
  have recorded := glided.trans (forStrips_keepsGroup (fun i t => (journalFrame_stepRecord (forStrips stepRead s) i t).keepsGroup) _)
  exact recorded.trans (keepsGroup_enqueueOffsets _)

theorem keepsGroup_writeStripWork (i : Fin 64) (d : StripData) (s : State) : KeepsGroup s (writeStripWork i d s) := by
  unfold writeStripWork
  have stored := keepsGroup_modStrip i (Strip.store d) s
  exact (((stored.unlessDone (keepsGroup_changeRole _ _ _)).unlessDone (keepsGroup_changeCut _ _)).whenDone
    (keepsGroup_evalStrip _ _)).unlessDone (keepsGroup_changeMode _ _)

/-! ### The passes and the end of a message (R96 to R99, R154, R155) -/

theorem keepsGroup_takePassOpen (n : Nat) (s : State) : KeepsGroup s (takePassOpen n s) := by
  have missed (v : Pass) : KeepsGroup s (raise .passMissed (s.setPass v)) := keepsGroup_same rfl rfl
  unfold takePassOpen
  split
  · exact (keepsGroup_setPass s _).trans (journalFrame_punchInAll _ _).keepsGroup
  · exact (KeepsGroup.refl s).either (missed _)
  · exact missed _
  · exact missed _

theorem keepsGroup_takePassClose (n : Nat) (s : State) : KeepsGroup s (takePassClose n s) := by
  have closed := (journalFrame_closeAllPunches s.playback.position s).keepsGroup
  unfold takePassClose
  exact ((closed.trans (keepsGroup_setPass _ _)).trans (forStrips_keepsGroup keepsGroup_endLive _)).either (.refl s)

theorem keepsGroup_handMessage (m : Message) (s : State) : KeepsGroup s (handMessage m s) := by
  unfold handMessage
  split
  · exact keepsGroup_takePassOpen _ s
  · exact keepsGroup_takePassClose _ s
  all_goals
    split
    · exact keepsGroup_takeGroup _ _ _ _ s
    · exact .refl s

/-- The receive side leaves MESSAGE with nothing in flight (R98). -/
theorem GroupSafe.seek (safe : GroupSafe s) (quiet : s.group.quiet) : GroupSafe (seek s) := by
  have sought : KeepsGroup s (Machine.seek s) := by
    unfold Machine.seek
    exact keepsGroup_setGroup fun line => line.relined quiet rfl rfl
  exact sought.safe safe

theorem keepsGroup_lineError (s : State) : KeepsGroup s (lineError s) := by
  unfold lineError
  refine KeepsGroup.trans ?_ (keepsGroup_same (raise_tx _ _) (raise_group _ _))
  exact keepsGroup_setGroup fun line => line.congr rfl rfl rfl

theorem GroupSafe.judgeMessage (safe : GroupSafe s) (quiet : s.group.quiet) (bits : BitVec 38) : GroupSafe (judgeMessage bits s) := by
  have sought := safe.seek quiet
  unfold Machine.judgeMessage
  dsimp only
  split
  · exact (keepsGroup_lineError _).safe sought
  · refine (keepsGroup_handMessage _ _).safe (KeepsGroup.safe ?_ sought)
    exact keepsGroup_setGroup fun line => line.congr rfl rfl rfl

theorem keepsGroup_loseArbitration (s : State) : KeepsGroup s (loseArbitration s) :=
  keepsGroup_setGroup fun line => line.withdraw.congr rfl rfl rfl

theorem keepsGroup_meetFault (s : State) : KeepsGroup s (meetFault s) := by
  have withdrawn : KeepsGroup s (lineError (s.setGroup s.group.withdraw)) :=
    (keepsGroup_setGroup fun line => line.withdraw).trans (keepsGroup_lineError _)
  exact ⟨fun safe => (withdrawn.safe safe).seek (GroupLine.quiet_withdraw s.group)⟩

theorem keepsGroup_messageEndWork (bits : BitVec 38) (s : State) : KeepsGroup s (messageEndWork bits s) := by
  refine ⟨fun safe => ?_⟩
  unfold messageEndWork
  split
  · exact safe
  · exact safe
  · split
    · next idle => exact safe.judgeMessage (GroupLine.quiet_iff_sending.mpr idle) bits
    · have settled : GroupSafe (s.setGroup s.group.settle) := (keepsGroup_setGroup fun line => line.settle).safe safe
      dsimp only
      split
      · exact settled.judgeMessage (GroupLine.quiet_settle s.group) bits
      · split
        · exact ((keepsGroup_loseArbitration s).safe safe).judgeMessage (GroupLine.quiet_withdraw s.group) bits
        · exact (keepsGroup_meetFault s).safe safe

/-- ENGINE RESTART empties the queue and clears the table before the mastered groups are refreshed (R107). -/
theorem keepsGroup_restartGroup (s : State) : KeepsGroup s (restartGroup s) := by
  have cleared : KeepsGroup s (s.setGroup s.group.cleared) :=
    keepsGroup_setGroup fun _ => ⟨Nat.zero_le _, .nil, Nat.zero_le _, (fun ⟨_, he, _⟩ => nomatch he), fun _ => rfl, fun k => by
      simp [GroupLine.cleared, TableEntry.reset]⟩
  rw [restartGroup_eq]
  exact (cleared.trans (keepsGroup_retuneWhere _ _)).trans
    (foldl_keepsGroup (fun t (m : Master) => keepsGroup_refreshGroup m.group t) _ _)

end Sys2Proof.Machine
end

section
/-! Every step keeps the send queue and the group table within their rules (R95, R100, R101, R106). -/

namespace Sys2Proof.Machine

section
variable {s t : State}

/-! ### Work outside the group line -/

/-- Work that leaves the group line, and makes no station listen-only. -/
theorem keepsGroup_drives (group : t.group = s.group) (drives : t.listenOnly = true → s.listenOnly = true) : KeepsGroup s t where
  safe := fun safe => by
    obtain ⟨length, keys, single, sending, silent, offsets⟩ := groupSafe_iff.mp safe
    rw [groupSafe_iff, group]
    exact ⟨length, keys, single, sending, silent ∘ drives, offsets⟩

theorem keepsGroup_setSurface (s : State) (v : Surface) : KeepsGroup s (s.setSurface v) := keepsGroup_same rfl rfl

theorem keepsGroup_setSummer (s : State) (v : Summer) : KeepsGroup s (s.setSummer v) := keepsGroup_same rfl rfl

theorem keepsGroup_setPeers (s : State) (v : Vector Peer 16) : KeepsGroup s (s.setPeers v) := keepsGroup_same rfl rfl

theorem keepsGroup_setControl (s : State) (v : Control) : KeepsGroup s (s.setControl v) := keepsGroup_same rfl rfl

theorem keepsGroup_raise (c : Cause) (s : State) : KeepsGroup s (raise c s) := keepsGroup_setControl s _

theorem keepsGroup_raiseIf (b : Bool) (c : Cause) (s : State) : KeepsGroup s (raiseIf b c s) :=
  keepsGroup_same (raiseIf_tx b c s) (raiseIf_group b c s)

/-! ### The surface port (R121 to R133) -/

theorem keepsGroup_modFader (i : Fin 64) (f : Fader → Fader) (s : State) : KeepsGroup s (modFader i f s) := keepsGroup_setSurface s _

theorem keepsGroup_takeCode (i : Fin 64) (raw : Nat) (s : State) : KeepsGroup s (takeCode i raw s) :=
  KeepsGroup.either ((keepsGroup_modFader i _ s).trans (keepsGroup_modEval i _ _)) (.refl s)

theorem keepsGroup_handTouch (i : Fin 64) (e : TouchEvent) (s : State) : KeepsGroup s (handTouch i e s) := by
  cases e with
  | none => exact .refl s
  | touch => exact keepsGroup_touchStrip i s
  | release => exact keepsGroup_releaseStrip i s
  | stuck => exact (keepsGroup_releaseStrip i s).trans (keepsGroup_raise _ _)

theorem keepsGroup_setPresence (i : Fin 64) (present : Bool) (s : State) : KeepsGroup s (setPresence i present s) :=
  (keepsGroup_modFader i _ s).trans (keepsGroup_modEval i _ _)

theorem keepsGroup_losePresence (i : Fin 64) (s : State) : KeepsGroup s (losePresence i s) :=
  KeepsGroup.whenDone ((keepsGroup_setPresence i false s).trans (keepsGroup_modFader i _ _)) (keepsGroup_releaseStrip i _)

theorem keepsGroup_takeFader (readings : List Reading) (i : Fin 64) (s : State) : KeepsGroup s (takeFader readings i s) := by
  unfold takeFader
  split
  · next r _ =>
    have carried := (KeepsGroup.refl s).unlessDone (c := s.surface.faders[i].present = true) (keepsGroup_setPresence i true s)
    have coded := carried.trans (keepsGroup_takeCode i r.raw _)
    exact coded.trans ((keepsGroup_modFader i _ _).trans (keepsGroup_handTouch i _ _))
  · exact (keepsGroup_losePresence i s).either (.refl s)

theorem keepsGroup_scanWork (bytes : List Byte) (s : State) : KeepsGroup s (scanWork bytes s) := by
  unfold scanWork
  split
  · exact keepsGroup_setSurface s _
  · unfold takeScan sendMotorReturn
    exact ((keepsGroup_setSurface s _).trans (forStrips_keepsGroup (keepsGroup_takeFader _) _)).trans (keepsGroup_setSurface _ _)

theorem keepsGroup_silenceExpiry (s : State) : KeepsGroup s (silenceExpiry s) := by
  unfold silenceExpiry
  split
  · exact keepsGroup_setSurface s _
  · exact (keepsGroup_setSurface s _).trans (forStrips_keepsGroup (fun i t => (keepsGroup_losePresence i t).either (.refl t)) _)

/-! ### Lanes, passes, positions and ENGINE RESTART -/

/-- A slot conflict empties the queue of the station it makes listen-only (R52, R106). -/
theorem keepsGroup_declareConflict (s : State) : KeepsGroup s (declareConflict s) := by
  obtain ⟨-, group, -⟩ := declareConflict_blocks s
  refine ⟨fun safe => groupSafe_iff.mpr ?_⟩
  rw [group]
  exact ⟨Nat.zero_le _, .nil, Nat.zero_le _, (fun ⟨_, he, _⟩ => nomatch he), fun _ => rfl, (groupSafe_iff.mp safe).offsets⟩

theorem keepsGroup_completeLaneFrame (readBack : List Byte) (clean : Bool) (s : State) :
    KeepsGroup s (completeLaneFrame readBack clean s) := by
  have advanced (count : Nat) : KeepsGroup s (s.setTx (s.tx.advanced count)) := keepsGroup_drives rfl id
  cases sent : s.tx.inFlight with
  | none =>
    rw [completeLaneFrame_idle sent]
    exact .refl s
  | some f =>
    cases same : isMatch f readBack clean with
    | true => exact completeLaneFrame_match sent same ▸ advanced 0
    | false => exact completeLaneFrame_mismatch sent same ▸ (keepsGroup_declareConflict s).either (advanced _)

theorem keepsGroup_processFrame (samples : Vector Int 64) (s : State) : KeepsGroup s (processFrame samples s) := by
  rw [processFrame_eq]
  refine KeepsGroup.trans (t := s.formed samples) (keepsGroup_same rfl rfl) ?_
  unfold handOverA
  dsimp only
  split
  · exact .refl _
  · refine KeepsGroup.trans ?_ (keepsGroup_raiseIf _ _ _)
    split <;> exact keepsGroup_drives rfl id

theorem keepsGroup_positionWork (bytes : List Byte) (s : State) : KeepsGroup s (positionWork bytes s) := by
  unfold positionWork
  split
  · exact keepsGroup_setPlayback s _
  · exact keepsGroup_takePosition _ _ s

theorem keepsGroup_restartAutoStrip (i : Fin 64) (s : State) : KeepsGroup s (restartAutoStrip i s) := by
  have ended := keepsGroup_modAuto i (fun a => { a with touched := false, phase := .follow, cutLive := false }) s
  exact (ended.whenDone (keepsGroup_modAuto i _ _)).trans (keepsGroup_handValues i _)

theorem keepsGroup_restartWork (s : State) : KeepsGroup s (restartWork s) := by
  obtain ⟨-, -, -, -, group, -⟩ := restartAudio_keeps s
  have audio : KeepsGroup s (restartAudio s) := keepsGroup_drives group fun silent => by
    rw [restartAudio_listenOnly, decide_eq_true_eq] at silent
    rw [State.listenOnly, silent]
    rfl
  have line : KeepsGroup s (restartSurface (restartGroup (restartAudio s))) :=
    audio.trans ((keepsGroup_restartGroup _).trans (keepsGroup_setSurface _ _))
  have ride : KeepsGroup s (restartRide (restartAudio s)) := line.trans (forStrips_keepsGroup keepsGroup_restartAutoStrip _)
  rw [restartWork_eq, restartPorts]
  exact (ride.trans (journalFrame_restartPass _).keepsGroup).trans (keepsGroup_same (State.setPorts_tx _ _) (State.setPorts_group _ _))

/-- A frame boundary moves the refresh count alone of the group line (R103). -/
theorem BoundaryMade.keepsGroup {v : State} (h : BoundaryMade s v t) : KeepsGroup s t := by
  have drive : t.tx.drive = s.tx.drive := by
    rw [h.done.tx, h.tx]
    split <;> rfl
  refine KeepsGroup.trans (t := s.setGroup (s.group.boundary s.rate)) ?_ (keepsGroup_drives h.group fun silent => ?_)
  · exact keepsGroup_setGroup fun line => line.congr rfl rfl rfl
  · rwa [State.listenOnly, drive] at silent

/-! ### The frames of the commands (R169, R173) -/

theorem keepsGroup_respond (status : Status) (data : List Byte) (s : State) : KeepsGroup s (respond status data s) :=
  keepsGroup_setControl s _

theorem keepsGroup_refuse (status : Status) (s : State) : KeepsGroup s (refuse status s) := keepsGroup_respond _ _ s

theorem KeepsGroup.acknowledged (h : KeepsGroup s t) : KeepsGroup s (ok t) := h.trans (keepsGroup_respond _ _ t)

theorem keepsGroup_onEvent {f : State → State} (k : KeepsGroup s (f s)) (h : onEvent s f = .next t) : KeepsGroup s t := by
  obtain rfl := Host.Outcome.next.inj h
  exact (KeepsGroup.refl s).either k

theorem keepsGroup_onCommand {f : State → State} (k : KeepsGroup s (f s)) (h : onCommand s f = .next t) : KeepsGroup s t := by
  obtain rfl := Host.Outcome.next.inj h
  exact (keepsGroup_setControl s _).either k

theorem keepsGroup_onBare {address : BitVec 16} {data : List Byte} {f : State → State} (k : KeepsGroup s (f s))
    (h : onBare address data s f = .next t) : KeepsGroup s t := by
  refine keepsGroup_onCommand ?_ h
  exact k.either (keepsGroup_refuse _ s)

theorem keepsGroup_onGlobal {α : Type} {address : BitVec 16} {d : Option α} {f : α → State → State} (k : ∀ v, KeepsGroup s (f v s))
    (h : onGlobal address d s f = .next t) : KeepsGroup s t := by
  refine keepsGroup_onCommand ?_ h
  split
  · exact (k _).either (keepsGroup_refuse _ s)
  · exact keepsGroup_refuse _ s

theorem keepsGroup_onStrip {α : Type} {address : BitVec 16} {d : Option α} {f : Fin 64 → α → State → State}
    (k : ∀ i v, KeepsGroup s (f i v s)) (h : onStrip address d s f = .next t) : KeepsGroup s t := by
  refine keepsGroup_onCommand ?_ h
  split
  · exact k _ _
  · exact keepsGroup_refuse _ s

theorem keepsGroup_onEdit {α : Type} {address : BitVec 16} {d : Option α} {f : Fin 64 → α → State → State}
    (k : ∀ i v, KeepsGroup s (f i v s)) (h : onEdit address d s f = .next t) : KeepsGroup s t := by
  refine keepsGroup_onCommand ?_ h
  split
  · exact keepsGroup_refuse _ s
  · refine (keepsGroup_refuse _ s).either ?_
    split
    · exact k _ _
    · exact keepsGroup_refuse _ s

/-- A pass command enqueues its message where the station is not listen-only (R101, R106). -/
theorem keepsGroup_sendPass {kind : MsgKind} {n : Nat} {atOnce : State → State} (k : KeepsGroup s (atOnce s)) :
    KeepsGroup s (sendPass kind n atOnce s) := by
  unfold sendPass
  split
  · exact k.acknowledged
  · next driving =>
    have asked : KeepsGroup s (s.setGroup (s.group.enqueue kind n 0)) := by
      refine keepsGroup_setGroup ?_
      rw [Bool.eq_false_iff.mpr driving]
      exact fun line => line.enqueue kind n 0
    exact (asked.trans (keepsGroup_refuse _ _)).either (asked.trans (keepsGroup_startIfIdle _)).acknowledged

/-! ### Command by command -/

/-- A command that makes no boundary and is no reset keeps the group line safe. -/
theorem exec_keepsGroup {c : Instr} (h : exec c s = .next t) (noBoundary : ¬ makesBoundary s c) (noReset : ¬ isReset c) :
    KeepsGroup s t := by
  cases c with
  | powerOnReset | resetPinAssert | resetPinRelease => exact absurd trivial noReset
  | dividerBoundary => exact exec_noBoundary (.inl rfl) h noBoundary ▸ .refl s
  | lossWindowExpiry => exact exec_noBoundary (.inr (.inl rfl)) h noBoundary ▸ .refl s
  | holdoverBoundary => exact exec_noBoundary (.inr (.inr rfl)) h noBoundary ▸ .refl s
  | referenceEdge marked time =>
    refine keepsGroup_onEvent (f := referenceEdgeWork marked time) ?_ h
    have early : time - s.clock.latestBoundary < s.rate.half := not_le.mp noBoundary
    unfold referenceEdgeWork setClockState
    dsimp only
    rw [if_pos (decide_eq_true early)]
    refine KeepsGroup.trans ?_ (keepsGroup_raiseIf _ _ _)
    exact keepsGroup_same rfl rfl
  | automationStep =>
    exact keepsGroup_onEvent (((keepsGroup_setPlayback s _).trans (keepsGroup_automationStepWork _)).either (.refl s)) h
  | groupRefresh =>
    rw [exec, execGroupRefresh] at h
    refine keepsGroup_onEvent ?_ h
    split
    · exact .refl s
    · refine KeepsGroup.trans ?_ (keepsGroup_refreshGroup _ _)
      exact keepsGroup_setGroup fun line => line.congr rfl rfl rfl
  | silenceWindowExpiry => exact keepsGroup_onEvent ((keepsGroup_silenceExpiry s).either (.refl s)) h
  | stripFrameProcess =>
    rw [exec, execStripFrameProcess] at h
    refine keepsGroup_onEvent ?_ h
    split
    · exact .refl s
    · exact keepsGroup_processFrame _ s
  | laneFrameCompletion readBack clean => exact keepsGroup_onEvent (keepsGroup_completeLaneFrame readBack clean s) h
  | outputPortFrameStart =>
    rw [exec, execOutputPortFrameStart] at h
    refine keepsGroup_onEvent ?_ h
    split
    · exact keepsGroup_same rfl rfl
    · exact .refl s
  | frameArrival =>
    rw [exec, execFrameArrival] at h
    refine keepsGroup_onEvent ?_ h
    unfold takeLaneFrame
    split
    · exact .refl s
    · split <;> exact keepsGroup_same rfl rfl
  | portFrameArrival =>
    rw [exec, execPortFrameArrival] at h
    refine keepsGroup_onEvent ?_ h
    exact keepsGroup_same rfl rfl
  | scanArrival bytes => exact keepsGroup_onEvent (keepsGroup_scanWork bytes s) h
  | positionRecordArrival bytes => exact keepsGroup_onEvent (keepsGroup_positionWork bytes s) h
  | lineRest =>
    rw [exec, execLineRest] at h
    refine keepsGroup_onEvent ?_ h
    split
    · next seeking =>
      have rested : KeepsGroup s (s.setGroup { s.group with line := .idle, recessiveRun := 10 }) :=
        keepsGroup_setGroup fun line => line.relined (line.quiet (by rw [seeking]; decide)) rfl rfl
      exact rested.trans (keepsGroup_startIfIdle _)
    · exact .refl s
    · exact .refl s
  | dominantBitSeen =>
    rw [exec, execDominantBitSeen] at h
    refine keepsGroup_onEvent ?_ h
    split
    · exact keepsGroup_setGroup fun line => line.congr rfl rfl rfl
    · next idle =>
      refine ⟨fun safe => ?_⟩
      have quiet := safe.quiet (by rw [idle]; decide)
      have joined : KeepsGroup s (s.setGroup { s.group with line := .message }) :=
        keepsGroup_setGroup fun line => line.relined quiet rfl rfl
      exact (joined.safe safe).markInFlight quiet
    · exact .refl s
  | arbitrationLoss => exact keepsGroup_onEvent ((keepsGroup_loseArbitration s).either (.refl s)) h
  | lineFault => exact keepsGroup_onEvent ((keepsGroup_meetFault s).either (.refl s)) h
  | groupMessageEnd bits => exact keepsGroup_onEvent (keepsGroup_messageEndWork bits s) h
  | soloLineChange active =>
    rw [exec, execSoloLineChange] at h
    refine keepsGroup_onEvent ?_ h
    refine (KeepsGroup.refl s).either (KeepsGroup.trans ?_ (keepsGroup_retuneWhere _ _))
    exact keepsGroup_setGroup fun line => line.congr rfl rfl rfl
  | controlRequestAbandoned =>
    obtain rfl := Host.Outcome.next.inj h
    exact .refl _
  | readStatus =>
    rw [exec, execReadStatus] at h
    refine keepsGroup_onBare ?_ h
    exact keepsGroup_of_line rfl fun line => line.congr rfl rfl rfl
  | readCauses =>
    rw [exec, execReadCauses] at h
    exact keepsGroup_onBare (keepsGroup_respond _ _ s) h
  | clearCauses =>
    rw [exec, execClearCauses] at h
    refine keepsGroup_onGlobal (fun _ => ?_) h
    exact (keepsGroup_setControl s _).acknowledged
  | writeAttentionMask =>
    rw [exec, execWriteAttentionMask] at h
    refine keepsGroup_onGlobal (fun _ => ?_) h
    exact (keepsGroup_setControl s _).acknowledged
  | readStrip =>
    rw [exec, execReadStrip] at h
    refine keepsGroup_onStrip (fun _ _ => ?_) h
    exact keepsGroup_respond _ _ s
  | writeSend =>
    rw [exec, execWriteSend] at h
    refine keepsGroup_onStrip (fun i d => ?_) h
    exact (keepsGroup_modStrip i _ s).acknowledged
  | writeStrip =>
    rw [exec, execWriteStrip] at h
    refine keepsGroup_onStrip (fun i d => ?_) h
    exact (keepsGroup_refuse _ s).either (keepsGroup_writeStripWork i d s).acknowledged
  | writeOutput =>
    rw [exec, execWriteOutput] at h
    refine keepsGroup_onStrip (fun c source => ?_) h
    exact (keepsGroup_refuse _ s).either (keepsGroup_same rfl rfl)
  | writeCalibration =>
    rw [exec, execWriteCalibration] at h
    refine keepsGroup_onStrip (fun i d => ?_) h
    exact (keepsGroup_modFader i _ s).acknowledged.either (keepsGroup_refuse _ s)
  | writeTouch =>
    rw [exec, execWriteTouch] at h
    refine keepsGroup_onStrip (fun i d => ?_) h
    exact (keepsGroup_modFader i _ s).acknowledged.either (keepsGroup_refuse _ s)
  | writePremix =>
    rw [exec, execWritePremix] at h
    refine keepsGroup_onCommand ?_ h
    split
    · exact (keepsGroup_refuse _ s).either (keepsGroup_same rfl rfl)
    · exact keepsGroup_refuse _ s
  | writeWindow =>
    rw [exec, execWriteWindow] at h
    refine keepsGroup_onCommand ?_ h
    split
    · exact (keepsGroup_setSummer s _).acknowledged
    · exact keepsGroup_refuse _ s
  | readMeters =>
    rw [exec, execReadMeters] at h
    refine keepsGroup_onCommand ?_ h
    split
    · exact (keepsGroup_refuse _ s).either ((keepsGroup_setSummer s _).trans (keepsGroup_respond _ _ _))
    · exact keepsGroup_refuse _ s
  | readPeers =>
    rw [exec, execReadPeers] at h
    refine keepsGroup_onCommand ?_ h
    split
    · exact (keepsGroup_refuse _ s).either ((keepsGroup_setPeers s _).trans (keepsGroup_respond _ _ _))
    · exact keepsGroup_refuse _ s
  | insertMove =>
    rw [exec, execInsertMove] at h
    refine keepsGroup_onEdit (fun i d => ?_) h
    split
    · exact keepsGroup_refuse _ s
    · exact (keepsGroup_refuse _ s).either (keepsGroup_modAuto i _ s).acknowledged
  | deleteMoves =>
    rw [exec, execDeleteMoves] at h
    refine keepsGroup_onEdit (fun i d => ?_) h
    split
    · exact keepsGroup_refuse _ s
    · exact (keepsGroup_refuse _ s).either (keepsGroup_modAuto i _ s).acknowledged
  | clearStrip =>
    rw [exec, execClearStrip] at h
    refine keepsGroup_onEdit (fun i _ => ?_) h
    exact (keepsGroup_modAuto i _ s).acknowledged
  | clearStore =>
    rw [exec, execClearStore] at h
    refine keepsGroup_onBare ?_ h
    exact (keepsGroup_refuse _ s).either (keepsGroup_setPlayback s _).acknowledged
  | readMoves =>
    rw [exec, execReadMoves] at h
    refine keepsGroup_onStrip (fun i d => ?_) h
    dsimp only
    split <;> exact keepsGroup_respond _ _ s
  | passOpen =>
    rw [exec, execPassOpen] at h
    refine keepsGroup_onCommand ?_ h
    refine (keepsGroup_refuse _ s).either ?_
    split
    · exact keepsGroup_sendPass (keepsGroup_takePassOpen _ s)
    all_goals exact keepsGroup_refuse _ s
  | passClose =>
    rw [exec, execPassClose] at h
    refine keepsGroup_onCommand ?_ h
    refine (keepsGroup_refuse _ s).either ?_
    split
    · exact (keepsGroup_sendPass (keepsGroup_takePassClose _ s)).either (keepsGroup_refuse _ s)
    all_goals exact keepsGroup_refuse _ s
  | passKeep =>
    rw [exec, execPassKeep] at h
    refine keepsGroup_onBare ?_ h
    split
    · have kept : KeepsGroup s (keepWork s) := by
        unfold keepWork
        exact KeepsGroup.either (keepsGroup_same rfl rfl) (keepsGroup_same rfl rfl)
      exact (keepsGroup_refuse _ s).either kept.acknowledged
    all_goals exact keepsGroup_refuse _ s
  | passDrop =>
    rw [exec, execPassDrop] at h
    refine keepsGroup_onBare ?_ h
    split
    · exact (keepsGroup_setPass s _).acknowledged
    all_goals exact keepsGroup_refuse _ s
  | engineRestart =>
    rw [exec, execEngineRestart] at h
    refine keepsGroup_onBare ?_ h
    exact (keepsGroup_restartWork s).acknowledged
  | commandByteNamesNoCommand => exact keepsGroup_onCommand (keepsGroup_refuse _ s) h

/-! ### The resets (R173) and every command -/

/-- A reset empties the queue and clears the table; the assertion of RESET clears the mark of the message cut short (R107, R173). -/
theorem exec_reset_groupSafe {c : Instr} (reset : isReset c) (safe : GroupSafe s) (h : exec c s = .next t) : GroupSafe t := by
  cases c with
  | powerOnReset straps | resetPinRelease straps =>
    obtain rfl := Host.Outcome.next.inj h
    have queued : KeepsGroup (State.resetWith straps) (resetTo straps s) := keepsGroup_same rfl rfl
    exact queued.safe (groupSafe_resetWith straps)
  | resetPinAssert =>
    obtain rfl := Host.Outcome.next.inj h
    have cut : KeepsGroup s (s.setGroup { s.group with queue := clearMarks s.group.queue }) :=
      keepsGroup_setGroup fun line => line.unmarked (.refl _) rfl rfl
    exact (cut.trans (keepsGroup_drives rfl id)).safe safe
  | _ => exact reset.elim

theorem exec_groupSafe {c : Instr} (safe : GroupSafe s) (h : exec c s = .next t) : GroupSafe t := by
  by_cases reset : isReset c
  · exact exec_reset_groupSafe reset safe h
  by_cases bound : makesBoundary s c
  · cases pin : s.resetPin with
    | true =>
      obtain rfl := Host.Outcome.next.inj ((exec_boundary_pinned pin bound).symm.trans h)
      exact safe
    | false =>
      obtain ⟨v, u, ran, made⟩ := exec_boundaryMade pin bound
      obtain rfl := Host.Outcome.next.inj (ran.symm.trans h)
      exact made.keepsGroup.safe safe
  · exact (exec_keepsGroup h bound reset).safe safe

end

/-- Settles O41: resets and boundaries keep the group line safe, and so does every other command, operation by operation. -/
theorem stepKeepsGroupSafe : Obligations.StepKeepsGroupSafe := by
  intro s t safe h
  unfold step at h
  split at h
  · obtain rfl := Host.Outcome.next.inj h
    exact safe
  · next c rest _ =>
    have taken : KeepsGroup s (s.setPending rest) := keepsGroup_same rfl rfl
    exact exec_groupSafe (taken.safe safe) h

end Sys2Proof.Machine
end


section
/-! A group message and its bits (R93, R94, R98, R177): the fields of a word and the word of its fields. -/

namespace Sys2Proof.Machine

/-! ### The fields of a word -/

/-- Bits 2 to 29 of a message are its five fields, class first (R93). -/
theorem covered_eq_fields (bits : BitVec 38) : bits.extractLsb' 10 28 =
    bits.extractLsb' 36 2 ++ bits.extractLsb' 32 4 ++ bits.extractLsb' 30 2 ++ bits.extractLsb' 22 8 ++ bits.extractLsb' 10 12 := by
  rw [BitVec.extractLsb'_append_extractLsb'_eq_extractLsb' (by decide), BitVec.extractLsb'_append_extractLsb'_eq_extractLsb' (by decide),
    BitVec.extractLsb'_append_extractLsb'_eq_extractLsb' (by decide), BitVec.extractLsb'_append_extractLsb'_eq_extractLsb' (by decide)]

/-- A word is its covered bits, its check and its end bits (R93, R94). -/
theorem word_eq_parts (bits : BitVec 38) : bits = bits.extractLsb' 10 28 ++ bits.extractLsb' 2 8 ++ bits.extractLsb' 0 2 := by
  rw [BitVec.extractLsb'_append_extractLsb'_eq_extractLsb' (by decide), BitVec.extractLsb'_append_extractLsb'_eq_extractLsb' (by decide)]
  exact (BitVec.extractLsb'_eq_self ..).symm

/-- The low part of an appended word. -/
theorem extractLsb'_low {v w : Nat} (x : BitVec v) (y : BitVec w) : (x ++ y).extractLsb' 0 w = y := by
  rw [BitVec.extractLsb'_append_eq_of_add_le (Nat.zero_add w).le, BitVec.extractLsb'_eq_self]

section
variable (m : Message)

theorem messageBits_end : (messageBits m).extractLsb' 0 2 = 3#2 := extractLsb'_low _ _

theorem messageBits_above {start len : Nat} (h : 10 ≤ start) :
    (messageBits m).extractLsb' start len = (messageCovered m).extractLsb' (start - 10) len := by
  rw [messageBits, BitVec.extractLsb'_append_eq_of_le (by omega), BitVec.extractLsb'_append_eq_of_le (by omega)]
  congr 1

theorem messageBits_check : (messageBits m).extractLsb' 2 8 = crc8 (messageCovered m) := by
  rw [messageBits, BitVec.extractLsb'_append_eq_of_le le_rfl]
  exact extractLsb'_low _ _

theorem messageBits_covered : (messageBits m).extractLsb' 10 28 = messageCovered m := by
  rw [messageBits_above m le_rfl]
  exact BitVec.extractLsb'_eq_self ..

theorem messageBits_value : (messageBits m).extractLsb' 10 12 = BitVec.ofInt 12 m.value := by
  rw [messageBits_above m le_rfl]
  exact extractLsb'_low _ _

theorem messageBits_number : (messageBits m).extractLsb' 22 8 = BitVec.ofNat 8 m.number := by
  rw [messageBits_above m (by decide), messageCovered, BitVec.extractLsb'_append_eq_of_le le_rfl]
  exact extractLsb'_low _ _

theorem messageBits_kind : (messageBits m).extractLsb' 30 2 = BitVec.ofNat 2 m.kind.code := by
  rw [messageBits_above m (by decide), messageCovered, BitVec.extractLsb'_append_eq_of_le (by decide),
    BitVec.extractLsb'_append_eq_of_le le_rfl]
  exact extractLsb'_low _ _

theorem messageBits_slot : (messageBits m).extractLsb' 32 4 = BitVec.ofNat 4 m.slot.val := by
  rw [messageBits_above m (by decide), messageCovered, BitVec.extractLsb'_append_eq_of_le (by decide),
    BitVec.extractLsb'_append_eq_of_le (by decide), BitVec.extractLsb'_append_eq_of_le le_rfl]
  exact extractLsb'_low _ _

theorem messageBits_class : (messageBits m).extractLsb' 36 2 = BitVec.ofNat 2 m.kind.cls := by
  rw [messageBits_above m (by decide), messageCovered, BitVec.extractLsb'_append_eq_of_le (by decide),
    BitVec.extractLsb'_append_eq_of_le (by decide), BitVec.extractLsb'_append_eq_of_le (by decide),
    BitVec.extractLsb'_append_eq_of_le le_rfl]
  exact BitVec.extractLsb'_eq_self ..

end

/-! ### The codes of a kind (R93) -/

theorem MsgKind.ofBits_code (kind : MsgKind) : MsgKind.ofBits (BitVec.ofNat 2 kind.code) = kind := by cases kind <;> rfl

theorem MsgKind.code_ofBits (code : BitVec 2) : BitVec.ofNat 2 (MsgKind.ofBits code).code = code := by revert code; decide

theorem MsgKind.cls_toNat (kind : MsgKind) : (BitVec.ofNat 2 kind.cls).toNat = kind.cls := by cases kind <;> rfl

/-! ### There and back -/

/-- A message whose fields fit is taken back from its bits (R98). -/
theorem readMessage_messageBits {m : Message} (number : m.number < 256)
    (group : m.kind = .groupCut ∨ m.kind = .groupLevel → m.number < 32) (low : -2048 ≤ m.value) (high : m.value ≤ 2047) :
    readMessage (messageBits m) = some m := by
  have value : (BitVec.ofInt 12 m.value).toInt = m.value := BitVec.toInt_ofInt_eq_self (by decide) low (by omega)
  have named : (BitVec.ofNat 8 m.number).toNat = m.number := Nat.mod_eq_of_lt number
  have slot : (BitVec.ofNat 4 m.slot.val).toFin = m.slot := Fin.ext (Nat.mod_eq_of_lt m.slot.isLt)
  unfold readMessage
  dsimp only
  rw [messageBits_end, messageBits_check, messageBits_covered, messageBits_class, messageBits_kind, messageBits_number,
    messageBits_slot, messageBits_value, MsgKind.ofBits_code, MsgKind.cls_toNat, named, value, slot]
  exact if_pos ⟨rfl, rfl, rfl, group⟩

/-- What a taken word says of its fields (R98). -/
theorem readMessage_eq_some {bits : BitVec 38} {m : Message} (h : readMessage bits = some m) :
    bits.extractLsb' 0 2 = 3#2 ∧ bits.extractLsb' 2 8 = crc8 (bits.extractLsb' 10 28) ∧ (bits.extractLsb' 36 2).toNat = m.kind.cls ∧
    (m.kind = .groupCut ∨ m.kind = .groupLevel → m.number < 32) ∧
    m = ⟨MsgKind.ofBits (bits.extractLsb' 30 2), (bits.extractLsb' 32 4).toFin, (bits.extractLsb' 22 8).toNat,
      (bits.extractLsb' 10 12).toInt⟩ := by
  unfold readMessage at h
  dsimp only at h
  split at h
  · next tests =>
    obtain rfl := Option.some.inj h
    obtain ⟨ends, check, cls, group⟩ := tests
    exact ⟨ends, check, cls, group, rfl⟩
  · cases h

/-- A taken word covers the fields of the message it gives (R93, R98). -/
theorem messageCovered_of_read {bits : BitVec 38} {m : Message} (h : readMessage bits = some m) :
    messageCovered m = bits.extractLsb' 10 28 := by
  obtain ⟨-, -, cls, -, rfl⟩ := readMessage_eq_some h
  have slot : BitVec.ofNat 4 (bits.extractLsb' 32 4).toFin.val = bits.extractLsb' 32 4 := 
    (BitVec.ofNat_toNat ..).trans (BitVec.setWidth_eq _)
  rw [covered_eq_fields, messageCovered, ← cls, MsgKind.code_ofBits, slot]
  simp only [BitVec.ofNat_toNat, BitVec.setWidth_eq, BitVec.ofInt_toInt]

/-- Settles O36: field by field in one direction, part by part in the other. -/
theorem groupMessageReadsBack : Obligations.GroupMessageReadsBack := by
  refine ⟨fun m number group low high => readMessage_messageBits number group low high, fun bits m h => ?_⟩
  obtain ⟨ends, check, -⟩ := readMessage_eq_some h
  rw [messageBits, messageCovered_of_read h, ← check, ← ends]
  exact (word_eq_parts bits).symm

end Sys2Proof.Machine
end

section
/-! The send queue read at one entry, and the line events that start and withdraw messages (R92, R95, R96, log entries 11 to 13). -/

namespace Sys2Proof.Machine

/-! ### The queue at one entry -/

section
variable {pre post : List QueueEntry} {e : QueueEntry}

/-- Of a queue of distinct keys, a change at one entry's key reaches that entry alone. -/
theorem map_at_key (keys : ((pre ++ e :: post).map QueueEntry.key).Nodup) (f : QueueEntry → QueueEntry) :
    ((pre ++ e :: post).map fun x => if x.hasKey e.kind e.number then f x else x) = pre ++ f e :: post := by
  rw [List.map_append, List.map_cons, List.nodup_append, List.nodup_cons] at keys
  obtain ⟨-, ⟨after, -⟩, before⟩ := keys
  have skips {l : List QueueEntry} (other : ∀ x ∈ l, x.key ≠ e.key) :
      (l.map fun x => if x.hasKey e.kind e.number then f x else x) = l :=
    (List.map_congr_left fun x hx => if_neg fun has => other x hx (QueueEntry.hasKey_iff.mp has)).trans (List.map_id l)
  rw [List.map_append, List.map_cons, if_pos (QueueEntry.hasKey_iff.mpr rfl),
    skips fun x hx => before _ (List.mem_map_of_mem hx) _ List.mem_cons_self,
    skips fun x hx same => after (List.mem_map.mpr ⟨x, hx, same⟩)]

theorem MsgKind.cls_lt (kind : MsgKind) : kind.cls < 3 := by cases kind <;> decide

/-- The entry to send is the earliest of the lowest class (R95, R101). -/
theorem chooseEntry_first (unmarked : ∀ x ∈ pre ++ e :: post, x.inFlight = none) (before : ∀ x ∈ pre, e.kind.cls < x.kind.cls)
    (after : ∀ x ∈ post, e.kind.cls ≤ x.kind.cls) : chooseEntry (pre ++ e :: post) = some e := by
  have waiting : ((pre ++ e :: post).filter fun x => x.inFlight.isNone) = pre ++ e :: post :=
    List.filter_eq_self.mpr fun x hx => by rw [unmarked x hx]; rfl
  have skips {c : Nat} (low : c ≤ e.kind.cls) : pre.find? (fun x => x.kind.cls == c) = none :=
    List.find?_eq_none.mpr fun x hx same => (low.trans_lt (before x hx)).ne' (beq_iff_eq.mp same)
  have lower {c : Nat} (low : c < e.kind.cls) : (pre ++ e :: post).find? (fun x => x.kind.cls == c) = none := by
    have absent : post.find? (fun x => x.kind.cls == c) = none :=
      List.find?_eq_none.mpr fun x hx same => (low.trans_le (after x hx)).ne' (beq_iff_eq.mp same)
    rw [List.find?_append, skips low.le, List.find?_cons_of_neg (p := fun x : QueueEntry => x.kind.cls == c)
      (fun same => low.ne' (beq_iff_eq.mp same)), absent]
    rfl
  have own : (pre ++ e :: post).find? (fun x => x.kind.cls == e.kind.cls) = some e := by
    rw [List.find?_append, skips le_rfl, List.find?_cons_of_pos (p := fun x : QueueEntry => x.kind.cls == e.kind.cls) BEq.rfl]
    rfl
  unfold chooseEntry
  dsimp only
  rw [waiting]
  have three := e.kind.cls_lt
  generalize e.kind.cls = c at lower own three
  match c, three with
  | 0, _ => rw [own]; rfl
  | 1, _ => rw [lower Nat.zero_lt_one, own]; rfl
  | 2, _ => rw [lower Nat.zero_lt_two, lower Nat.one_lt_two, own]; rfl

/-- The entry in flight is the one whose message is sent. -/
theorem GroupLine.sending_at {g : GroupLine} {v : Int} (queue : g.queue = pre ++ e :: post) (before : ∀ x ∈ pre, x.inFlight = none)
    (flies : e.inFlight = some v) : g.sending = some e := by
  have skips : pre.find? (fun x => x.inFlight.isSome) = none := List.find?_eq_none.mpr fun x hx => by rw [before x hx]; decide
  rw [GroupLine.sending, queue, List.find?_append, skips, List.find?_cons_of_pos (by rw [flies]; rfl)]
  rfl

/-- A queue with one entry in flight, once its mark is cleared: the entry stays where `stays` says so, and the others in any case. -/
theorem clearMarks_filter (unmarked : ∀ x ∈ pre ++ post, x.inFlight = none) {v : Int} (flies : e.inFlight = some v)
    (stays : QueueEntry → Bool) : clearMarks ((pre ++ e :: post).filter fun x => x.inFlight.isNone || stays x) =
      if stays e then pre ++ { e with inFlight := none } :: post else pre ++ post := by
  have keep {l : List QueueEntry} (clear : ∀ x ∈ l, x.inFlight = none) :
      (l.filter fun x => x.inFlight.isNone || stays x) = l ∧ clearMarks l = l :=
    ⟨List.filter_eq_self.mpr fun x hx => by rw [clear x hx]; rfl,
      (List.map_congr_left fun x hx => by rw [← clear x hx]; rfl).trans (List.map_id l)⟩
  obtain ⟨keepPre, clearPre⟩ := keep fun x hx => unmarked x (List.mem_append_left _ hx)
  obtain ⟨keepPost, clearPost⟩ := keep fun x hx => unmarked x (List.mem_append_right _ hx)
  rw [List.filter_append, List.filter_cons, flies, Option.isNone_some, Bool.false_or, keepPre, keepPost]
  split
  · rw [clearMarks, List.map_append, List.map_cons]
    exact congrArg₂ (· ++ _ :: ·) clearPre clearPost
  · rw [clearMarks, List.map_append]
    exact congrArg₂ (· ++ ·) clearPre clearPost

theorem GroupLine.keeps_iff {g : GroupLine} : g.keeps e = true ↔
    e.kind = .passOpen ∨ e.kind = .passClose ∨ ∃ m ∈ g.mastered, m.group.val = e.number := by
  rw [GroupLine.keeps, Bool.or_eq_true, List.any_eq_true, ← or_assoc]
  refine or_congr ?_ (exists_congr fun m => and_congr_right fun _ => beq_iff_eq)
  cases e.kind <;> decide

/-- The queue that a withdrawn message leaves (R96). -/
theorem GroupLine.withdraw_at {g : GroupLine} {v : Int} (queue : g.queue = pre ++ e :: post)
    (unmarked : ∀ x ∈ pre ++ post, x.inFlight = none) (flies : e.inFlight = some v) :
    g.withdraw = { g with
      queue := if e.kind = .passOpen ∨ e.kind = .passClose ∨ ∃ m ∈ g.mastered, m.group.val = e.number then
        pre ++ { e with inFlight := none } :: post else pre ++ post } := by
  refine congrArg (fun q => { g with queue := q }) ?_
  rw [queue]
  refine (clearMarks_filter unmarked flies g.keeps).trans ?_
  simp only [GroupLine.keeps_iff]

/-- The queue that a completed message leaves (R97). -/
theorem GroupLine.settle_at {g : GroupLine} {v : Int} (queue : g.queue = pre ++ e :: post)
    (unmarked : ∀ x ∈ pre ++ post, x.inFlight = none) (flies : e.inFlight = some v) :
    g.settle = { g with
      queue := if g.keeps e && some v != some e.value then pre ++ { e with inFlight := none } :: post else pre ++ post
      sent := count16 g.sent 1 } := by
  refine congrArg (fun q => { g with queue := q, sent := count16 g.sent 1 }) ?_
  rw [queue, ← flies]
  exact clearMarks_filter unmarked flies fun x => g.keeps x && x.inFlight != some x.value

end

/-! ### The start of a message (R95) -/

section
variable {s : State}

/-- A listen-only station, and one with nothing to send, starts no message. -/
theorem markInFlight_none (none : s.group.queue = [] ∨ s.listenOnly = true) : markInFlight s = s := by
  rw [markInFlight]
  split
  · rfl
  · next drives =>
    rw [none.resolve_right drives]
    rfl

/-- The station's message starts: its entry is in flight with its value, and the line in MESSAGE (R95, R92, log entry 12). -/
theorem markInFlight_first {pre post : List QueueEntry} {e : QueueEntry} (drives : s.listenOnly = false)
    (queue : s.group.queue = pre ++ e :: post) (unmarked : ∀ x ∈ pre ++ e :: post, x.inFlight = none)
    (keys : (s.group.queue.map QueueEntry.key).Nodup) (before : ∀ x ∈ pre, e.kind.cls < x.kind.cls)
    (after : ∀ x ∈ post, e.kind.cls ≤ x.kind.cls) : markInFlight s =
      s.setGroup { s.group with line := .message, queue := pre ++ { e with inFlight := some e.value } :: post } := by
  rw [queue] at keys
  rw [markInFlight, drives, if_neg Bool.false_ne_true, queue, chooseEntry_first unmarked before after]
  dsimp only
  rw [map_at_key keys]

end

/-! ### The line events (R92, R95, R96) -/

section
variable {s : State} (pin : s.resetPin = false)
include pin

theorem exec_lineRest (line : s.group.line = .seeking) :
    exec .lineRest s = .next (markInFlight (s.setGroup { s.group with line := .idle, recessiveRun := 10 })) := by
  rw [exec, execLineRest, onEvent_next pin, line]
  rfl

theorem exec_dominantBit_idle (line : s.group.line = .idle) :
    exec .dominantBitSeen s = .next (markInFlight (s.setGroup { s.group with line := .message })) := by
  rw [exec, execDominantBitSeen, onEvent_next pin, line]

theorem exec_dominantBit_seeking (line : s.group.line = .seeking) :
    exec .dominantBitSeen s = .next (s.setGroup { s.group with recessiveRun := 0 }) := by
  rw [exec, execDominantBitSeen, onEvent_next pin, line]

variable {e : QueueEntry} (sending : s.group.sending = some e)
include sending

theorem exec_arbitrationLoss : exec .arbitrationLoss s = .next (loseArbitration s) := by
  rw [exec, execArbitrationLoss, onEvent_next pin, sending]
  rfl

theorem exec_lineFault : exec .lineFault s = .next (meetFault s) := by
  rw [exec, execLineFault, onEvent_next pin, sending]
  rfl

/-- The end of a message that the station is sending, by how its bits stand to the own ones (R97, log entry 11). -/
theorem exec_groupMessageEnd_own (line : s.group.line = .message) (bits : BitVec 38) :
    exec (.groupMessageEnd bits) s = .next (if messageBits (s.ownMessage e) = bits then judgeMessage bits (s.setGroup s.group.settle)
      else if bits.toNat < (messageBits (s.ownMessage e)).toNat then judgeMessage bits (loseArbitration s) else meetFault s) := by
  rw [exec, execGroupMessageEnd, onEvent_next pin, messageEndWork, line, sending]

end

theorem State.ownMessage_eq (s : State) {e : QueueEntry} {v : Int} (flies : e.inFlight = some v) :
    s.ownMessage e = ⟨e.kind, s.straps.slot, e.number, v⟩ := by
  rw [State.ownMessage, flies]
  rfl

/-- After a line fault the line is SEEKING, with the fault counted and LINE ERROR raised (R96, R92). -/
theorem meetFault_group (s : State) : (meetFault s).group = { s.group.withdraw with
    line := .seeking, recessiveRun := 0, lineErrors := min 65535 (s.group.lineErrors + 1) } := rfl

theorem meetFault_same (s : State) : meetFault s = (s.setGroup (meetFault s).group).setControl (meetFault s).control := rfl

theorem meetFault_causes (s : State) (c : Cause) : (meetFault s).causeSet c = (s.causeSet c || c == .lineError) :=
  causeSet_raise .lineError c _

/-- Settles O39: each event is read at the one entry that may start, or that is in flight. -/
theorem lineEventsStartAndWithdrawMessages : Obligations.LineEventsStartAndWithdrawMessages := by
  intro s pin
  refine ⟨exec_dominantBit_seeking pin, fun none => ⟨fun line => ?_, fun line => ?_⟩,
    fun pre post e queue unmarked keys => ⟨fun drives clear before after => ?_, fun v flies => ?_, fun v flies line bits => ?_⟩⟩
  · refine (exec_lineRest pin line).trans (congrArg _ (markInFlight_none ?_))
    exact none
  · refine (exec_dominantBit_idle pin line).trans (congrArg _ (markInFlight_none ?_))
    exact none
  · have all : ∀ x ∈ pre ++ e :: post, x.inFlight = none := List.forall_mem_append.mpr ⟨fun x hx => unmarked x (List.mem_append_left _ hx),
      List.forall_mem_cons.mpr ⟨clear, fun x hx => unmarked x (List.mem_append_right _ hx)⟩⟩
    refine ⟨fun line => ?_, fun line => ?_⟩
    · refine (exec_lineRest pin line).trans (congrArg _ (markInFlight_first ?_ ?_ all ?_ before after))
      exacts [drives, queue, keys]
    · refine (exec_dominantBit_idle pin line).trans (congrArg _ (markInFlight_first ?_ ?_ all ?_ before after))
      exacts [drives, queue, keys]
  · have sending := GroupLine.sending_at queue (fun x hx => unmarked x (List.mem_append_left _ hx)) flies
    have withdrawn := GroupLine.withdraw_at queue unmarked flies
    refine ⟨?_, meetFault s, exec_lineFault pin sending, ?_, ?_, fun c other => ?_, meetFault_same s⟩
    · rw [exec_arbitrationLoss pin sending, loseArbitration, withdrawn]
      rfl
    · rw [meetFault_group, withdrawn]
    · rw [meetFault_causes, BEq.rfl, Bool.or_true]
    · rw [meetFault_causes, beq_eq_false_iff_ne.mpr other, Bool.or_false]
  · have sending := GroupLine.sending_at queue (fun x hx => unmarked x (List.mem_append_left _ hx)) flies
    have ended := exec_groupMessageEnd_own pin sending line bits
    rw [s.ownMessage_eq flies] at ended
    refine ⟨fun less => ?_, fun more => ?_⟩
    · have quiet : (loseArbitration s).group.sending = none := GroupLine.quiet_iff_sending.mp s.group.quiet_withdraw
      refine ⟨loseArbitration s, exec_arbitrationLoss pin sending, quiet, line, ?_⟩
      rw [ended, if_neg fun same => (same ▸ less).false, if_pos less, exec_groupMessageEnd (s := loseArbitration s) pin line quiet]
    · rw [ended, exec_lineFault pin sending, if_neg fun same => (same ▸ more).false, if_neg more.asymm]

end Sys2Proof.Machine
end

section
/-! Enqueues on the queue's entries, and the refresh of a mastered group (R101, R103, R106, log entries 5, 12, 44). -/

namespace Sys2Proof.Machine

/-! ### An enqueue (R101) -/

section
variable {g : GroupLine} {kind : MsgKind} {number : Nat}

theorem enqueue_coalesces {pre post : List QueueEntry} {e : QueueEntry} (queue : g.queue = pre ++ e :: post) (key : e.key = (kind, number))
    (keys : (g.queue.map QueueEntry.key).Nodup) (value : Int) :
    g.enqueue kind number value = { g with queue := pre ++ { e with value := value } :: post } := by
  obtain ⟨rfl, rfl⟩ := Prod.mk.inj key
  have has : g.queue.any (QueueEntry.hasKey e.kind e.number) = true :=
    List.any_eq_true.mpr ⟨e, queue ▸ List.mem_append_right _ List.mem_cons_self, QueueEntry.hasKey_iff.mpr rfl⟩
  rw [GroupLine.enqueue, if_pos has]
  rw [queue] at keys ⊢
  rw [map_at_key keys]

section
variable (new : ∀ e ∈ g.queue, e.key ≠ (kind, number))
include new

theorem not_any_hasKey : ¬ g.queue.any (QueueEntry.hasKey kind number) = true := fun has =>
  have ⟨e, he, same⟩ := List.any_eq_true.mp has
  new e he (QueueEntry.hasKey_iff.mp same)

theorem enqueue_joins (room : g.queue.length < kind.room) (value : Int) :
    g.enqueue kind number value = { g with queue := g.queue ++ [⟨kind, number, value, none⟩] } := by
  rw [GroupLine.enqueue, if_neg (not_any_hasKey new), if_neg room.not_ge]

theorem enqueue_drops (full : kind.room ≤ g.queue.length) (value : Int) :
    g.enqueue kind number value = { g with drops := min 65535 (g.drops + 1) } := by
  rw [GroupLine.enqueue, if_neg (not_any_hasKey new), if_pos full]
  rfl

end

/-- The places of a kind, read as R101 gives them. -/
theorem MsgKind.lt_room_of {n : Nat} (room : n < 38 ∨ n < 40 ∧ (kind = .passOpen ∨ kind = .passClose)) : n < kind.room := by
  cases kind <;> simp [MsgKind.room] at room ⊢ <;> omega

theorem MsgKind.room_le_of {n : Nat} (full : 40 ≤ n ∨ 38 ≤ n ∧ (kind = .groupLevel ∨ kind = .groupCut)) : kind.room ≤ n := by
  cases kind <;> simp [MsgKind.room] at full ⊢ <;> omega

/-- A due refresh takes no part in an enqueue. -/
theorem enqueue_refreshDue (g : GroupLine) (kind : MsgKind) (number : Nat) (value : Int) (due : Option (Fin 32)) :
    ({ g with refreshDue := due } : GroupLine).enqueue kind number value = { g.enqueue kind number value with refreshDue := due } := by
  unfold GroupLine.enqueue
  dsimp only
  split
  · rfl
  · split <;> rfl

/-- A due refresh takes no part in two enqueues either. -/
theorem enqueue_twice_refreshDue (g : GroupLine) (first then_ : MsgKind) (number : Nat) (value value' : Int) (due : Option (Fin 32)) :
    (({ g with refreshDue := due } : GroupLine).enqueue first number value).enqueue then_ number value' =
      { (g.enqueue first number value).enqueue then_ number value' with refreshDue := due } :=
  (congrArg (GroupLine.enqueue · then_ number value') (enqueue_refreshDue g first number value due)).trans (enqueue_refreshDue ..)

/-- A cut joins behind the level of its group. -/
theorem enqueue_behind_level {level : Int} {mark : Option Int} (queue : g.queue = [⟨.groupLevel, number, level, mark⟩]) (value : Int) :
    g.enqueue .groupCut number value =
      { g with queue := [⟨.groupLevel, number, level, mark⟩, ⟨.groupCut, number, value, none⟩] } := by
  have new : ∀ e ∈ g.queue, e.key ≠ (.groupCut, number) := by
    rw [queue]
    rintro e he same
    rw [List.mem_singleton.mp he] at same
    cases (Prod.mk.inj same).1
  rw [enqueue_joins new (by rw [queue]; exact Nat.one_lt_ofNat), queue]
  rfl

end

/-! ### What an enqueue leaves of the part -/

section
variable (kind : Kind) (g : Fin 32) (value : Int) (s : State)

theorem markInFlight_same (s : State) : markInFlight s = s.setGroup (markInFlight s).group := by
  unfold markInFlight
  split
  · rfl
  · split <;> rfl

theorem startIfIdle_same (s : State) : startIfIdle s = s.setGroup (startIfIdle s).group := by
  unfold startIfIdle
  split
  · exact markInFlight_same s
  · rfl
  · rfl

/-- An enqueue changes group line and strips alone. -/
theorem enqueueGroup_same : enqueueGroup kind g value s =
    (s.setGroup (enqueueGroup kind g value s).group).setStrips (enqueueGroup kind g value s).strips := by
  cases lo : s.listenOnly with
  | true =>
    rw [enqueueGroup_silent lo]
    have same := takeGroup_same kind g value s.straps.slot s
    rw [takeGroup_own] at same
    exact same
  | false =>
    rw [enqueueGroup_driving lo, startIfIdle_same]
    rfl

variable {s}

/-- A station that drives the line takes nothing into its own table. -/
theorem enqueueGroup_strips (drives : s.listenOnly = false) : (enqueueGroup kind g value s).strips = s.strips := by
  rw [enqueueGroup_driving drives, startIfIdle_same]
  rfl

/-- An enqueue reaches strips of the group alone. -/
theorem enqueueGroup_strip_other {i : Fin 64} (other : g ∉ s.strips[i].groups) :
    (enqueueGroup kind g value s).strips[i] = s.strips[i] := by
  cases lo : s.listenOnly with
  | true => rw [enqueueGroup_silent lo, takeGroup_strip_other other]
  | false => rw [enqueueGroup_strips kind g value lo]

end

/-! ### The refresh of a group (R103) -/

section
variable {s : State} {g : Fin 32}

theorem exec_groupRefresh (pin : s.resetPin = false) (due : s.group.refreshDue = some g) :
    exec .groupRefresh s = .next (refreshGroup g (s.setGroup { s.group with refreshDue := none })) := by
  rw [exec, execGroupRefresh, onEvent_next pin, due]

/-- A refresh changes group line and strips alone. -/
theorem refreshGroup_same (g : Fin 32) (s : State) :
    refreshGroup g s = (s.setGroup (refreshGroup g s).group).setStrips (refreshGroup g s).strips := by
  cases found : s.group.master g with
  | none => rw [refreshGroup_none found]; rfl
  | some m =>
    rw [refreshGroup_some found, enqueueGroup_same .cut, enqueueGroup_same .level]
    rfl

theorem enqueueGroup_refreshDue (kind : Kind) (g : Fin 32) (value : Int) (s : State) :
    (enqueueGroup kind g value s).group.refreshDue = s.group.refreshDue := by
  cases lo : s.listenOnly with
  | true => rw [enqueueGroup_silent lo, takeGroup_group]
  | false =>
    rw [enqueueGroup_driving lo, (startIfIdle_group _).1, State.setGroup_group, enqueue_frame]

theorem refreshGroup_refreshDue (g : Fin 32) (s : State) : (refreshGroup g s).group.refreshDue = s.group.refreshDue := by
  cases found : s.group.master g with
  | none => rw [refreshGroup_none found]
  | some m =>
    rw [refreshGroup_some found, enqueueGroup_refreshDue, enqueueGroup_refreshDue]
    rfl

theorem refreshGroup_strips (g : Fin 32) (drives : s.listenOnly = false) : (refreshGroup g s).strips = s.strips := by
  cases found : s.group.master g with
  | none => rw [refreshGroup_none found]
  | some m =>
    have driven : (enqueueGroup .level g m.offset (modMaster g (fun m => { m with enqueued := m.offset }) s)).listenOnly = false :=
      ((lineFrame_modMaster _ _ s).trans (lineFrame_enqueueGroup ..)).inner.listenOnly.trans drives
    rw [refreshGroup_some found, enqueueGroup_strips _ _ _ driven]
    refine enqueueGroup_strips _ _ _ ?_
    exact drives

theorem refreshGroup_strip_other {i : Fin 64} (other : g ∉ s.strips[i].groups) : (refreshGroup g s).strips[i] = s.strips[i] := by
  cases found : s.group.master g with
  | none => rw [refreshGroup_none found]
  | some m =>
    have first : (enqueueGroup .level g m.offset (modMaster g (fun m => { m with enqueued := m.offset }) s)).strips[i] = s.strips[i] :=
      enqueueGroup_strip_other _ _ _ other
    rw [refreshGroup_some found, enqueueGroup_strip_other _ _ _ (first.symm ▸ other), first]

end

section
variable {pre post : List Master} {m : Master}

/-- The record of a group that stands once in the mastered set. -/
theorem GroupLine.master_at {gl : GroupLine} (mastered : gl.mastered = pre ++ m :: post) (once : ∀ x ∈ pre ++ post, x.group ≠ m.group) :
    gl.master m.group = some m := by
  have skips : pre.find? (fun x => x.group == m.group) = none :=
    List.find?_eq_none.mpr fun x hx same => once x (List.mem_append_left _ hx) (beq_iff_eq.mp same)
  rw [GroupLine.master, mastered, List.find?_append, skips, List.find?_cons_of_pos (p := fun x : Master => x.group == m.group) BEq.rfl]
  rfl

theorem map_at_group (once : ∀ x ∈ pre ++ post, x.group ≠ m.group) (f : Master → Master) :
    ((pre ++ m :: post).map fun x => if x.group = m.group then f x else x) = pre ++ f m :: post := by
  have skips {l : List Master} (other : ∀ x ∈ l, x.group ≠ m.group) : (l.map fun x => if x.group = m.group then f x else x) = l :=
    (List.map_congr_left fun x hx => if_neg (other x hx)).trans (List.map_id l)
  rw [List.map_append, List.map_cons, if_pos rfl, skips fun x hx => once x (List.mem_append_left _ hx),
    skips fun x hx => once x (List.mem_append_right _ hx)]

end

/-- A group's level and cut taken in turn are its table entry, and leave the other entries. -/
theorem takeAll_refresh (table : Vector TableEntry 32) (g h : Fin 32) (slot : Fin 16) (offset : Int) (cut : Bool) :
    table[h].takeAll h slot [(.groupLevel, g.val, offset), (.groupCut, g.val, cutValue cut)] =
      (table.set g ⟨max (-1020) (min 120 offset), cut, some slot, true⟩)[h] := by
  rw [set_get]
  split
  · next same =>
    subst same
    cases cut <;> simp [TableEntry.takeAll, cutValue]
  · next apart =>
    have other : g.val ≠ h.val := fun same => apart (Fin.ext same)
    simp [TableEntry.takeAll, other]

section
variable {s : State} {g : Fin 32} {m : Master} (found : s.group.master g = some m)
include found

/-- On a busy line a refresh joins level and cut to the queue (R103, log entry 44). -/
theorem refreshGroup_busy (drives : s.listenOnly = false) (busy : s.group.line ≠ .idle) : (refreshGroup g s).group =
    { (s.group.enqueue .groupLevel g.val m.offset).enqueue .groupCut g.val (cutValue m.cut) with
      mastered := (refreshGroup g s).group.mastered } :=
  (enqueued_refreshGroup found).enqueues.1 drives (.inl busy)

/-- In IDLE of an empty queue the level starts its message, and the cut joins behind it (R95, log entry 44). -/
theorem refreshGroup_starts (drives : s.listenOnly = false) (idle : s.group.line = .idle) (empty : s.group.queue = []) :
    (refreshGroup g s).group = { s.group with
      line := .message, mastered := (refreshGroup g s).group.mastered
      queue := [⟨.groupLevel, g.val, m.offset, some m.offset⟩, ⟨.groupCut, g.val, cutValue m.cut, none⟩] } := by
  obtain ⟨-, starts, -⟩ := (enqueued_refreshGroup found).enqueues
  refine (starts drives idle empty _ _ _ _ rfl).trans ?_
  generalize (refreshGroup g s).group.mastered = held
  have started : ({ s.group with line := .message, queue := [⟨.groupLevel, g.val, m.offset, some m.offset⟩] } : GroupLine).queue =
    [⟨.groupLevel, g.val, m.offset, some m.offset⟩] := rfl
  exact congrArg (fun x : GroupLine => { x with mastered := held }) (enqueue_behind_level started _)

/-- On a listen-only station the own group table takes level and cut at once (R106). -/
theorem refreshGroup_silent (only : s.listenOnly = true) : (refreshGroup g s).group = { s.group with
    mastered := (refreshGroup g s).group.mastered
    table := s.group.table.set g ⟨max (-1020) (min 120 m.offset), m.cut, some s.straps.slot, true⟩ } := by
  obtain ⟨-, -, silent⟩ := (enqueued_refreshGroup found).enqueues
  obtain ⟨frame, takes⟩ := silent only
  have table : (refreshGroup g s).group.table =
      s.group.table.set g ⟨max (-1020) (min 120 m.offset), m.cut, some s.straps.slot, true⟩ :=
    Vector.ext fun i hi => (takes ⟨i, hi⟩).trans (takeAll_refresh _ g ⟨i, hi⟩ _ _ _)
  rw [← table]
  exact frame

end

/-- Settles O40: an enqueue by the place of its key, and a refresh as the two enqueues it makes. -/
theorem refreshEnqueuesLevelAndCut : Obligations.RefreshEnqueuesLevelAndCut := by
  refine ⟨fun g kind number value => ⟨fun pre post e queue key keys => enqueue_coalesces queue key keys value, fun new =>
    ⟨fun room => enqueue_joins new (MsgKind.lt_room_of room) value, fun full => enqueue_drops new (MsgKind.room_le_of full) value⟩⟩,
    fun s g pin due => ⟨fun absent => ?_, fun pre post m mastered named once => ?_⟩⟩
  · refine (exec_groupRefresh pin due).trans (congrArg _ (refreshGroup_none ?_))
    exact List.find?_eq_none.mpr fun m hm same => absent m hm (beq_iff_eq.mp same)
  · subst named
    have found : (s.setGroup { s.group with refreshDue := none }).group.master m.group = some m := GroupLine.master_at mastered once
    refine ⟨_, exec_groupRefresh pin due, refreshGroup_refreshDue .., (refreshGroup_mastered ..).trans ?_, fun drives notIdle => ⟨?_, ?_⟩,
      fun drives isIdle empty => ⟨?_, ?_⟩, fun only => ⟨?_, fun i other => ?_⟩, refreshGroup_same ..⟩
    · rw [State.setGroup_group]
      dsimp only
      rw [mastered, map_at_group once]
    · refine (refreshGroup_busy found drives notIdle).trans ?_
      generalize (refreshGroup _ _).group.mastered = held
      exact congrArg (fun x : GroupLine => { x with mastered := held }) (enqueue_twice_refreshDue ..)
    · exact refreshGroup_strips _ drives
    · exact refreshGroup_starts found drives isIdle empty
    · exact refreshGroup_strips _ drives
    · exact refreshGroup_silent found only
    · exact refreshGroup_strip_other other

end Sys2Proof.Machine
end

section
/-! The end of latches and live cuts: what it makes of a strip's record and sources, and what its master enqueues (R149, R144, R33, R102). -/

namespace Sys2Proof.Machine

/-! ### A LATCHED strip returns to the store (R145, R149) -/

/-- The part once a strip is read and handed the level and the cut of the store (R145). -/
def storeReturned (i : Fin 64) (s : State) : State := handCut i (returnLevel i (readStrip i s))

/-- A cut that is not read, or not taken from the store, stays as last handed (log entry 48). -/
theorem Strip.storeCut_takeCut {a : AutoStrip} {st : Strip} (h : a.readCut = none ∨ st.mode.reads = false) :
    (st.takeCut a).storeCut = st.storeCut := by
  unfold Strip.takeCut Strip.followCut
  rcases h with none | quiet
  · rw [none]
    dsimp only
    cases st.mode <;> cases a.cutLive <;> rfl
  · cases mode : st.mode with
    | off => rfl
    | write => rfl
    | read => rw [mode] at quiet; cases quiet
    | touch => rw [mode] at quiet; cases quiet
    | latch => rw [mode] at quiet; cases quiet

/-- With no live cut the desk holds the cut only where nothing is read (R144). -/
theorem Strip.takeCut_desk {a : AutoStrip} {st : Strip} (quiet : a.cutLive = false) (desk : (st.takeCut a).cutSource = .desk) :
    a.readCut = none ∨ st.mode.reads = false := by
  unfold Strip.takeCut Strip.followCut at desk
  rw [quiet] at desk
  cases read : a.readCut with
  | none => exact .inl rfl
  | some cut =>
    rw [read] at desk
    cases mode : st.mode with
    | off => exact .inr rfl
    | write => exact .inr rfl
    | read => rw [mode] at desk; cases desk
    | touch => rw [mode] at desk; cases desk
    | latch => rw [mode] at desk; cases desk

variable {i : Fin 64} {s : State}

/-- What a strip's record and level are once it has returned to the store (R145, R144). -/
theorem returnLevel_hands (i : Fin 64) (s : State) :
    let u := returnLevel i (readStrip i s)
    let record := s.returned i s.strips[i].deskCode
    u.playback.strips[i] = record ∧
    (s.strips[i].mode.ridden = true → u.strips[i].levelHanded record ∧
      (record.phase = .glide → u.strips[i].storeLevel = s.strips[i].deskCode) ∧
      (u.strips[i].levelSource = .desk → u.strips[i].storeLevel = s.strips[i].storeLevel)) ∧
    s.strips[i].sameCut u.strips[i] ∧ u.playback = { s.playback with strips := u.playback.strips } ∧ u.pass = s.pass := by
  have read : (readStrip i s).playback.strips[i] = s.readingOf i := modAuto_self i _ s
  have strips : (readStrip i s).strips = s.strips := rfl
  unfold returnLevel State.returned
  dsimp only
  rw [read, strips]
  by_cases glides : (s.readingOf i).readLevel ≠ none ∧ 0 < s.strips[i].glideSteps
  · have now : ((s.readingOf i).readLevel.isSome && decide (0 < s.strips[i].glideSteps)) = true := by
      rw [Bool.and_eq_true, decide_eq_true_iff]
      exact ⟨Option.isSome_iff_ne_none.mpr glides.1, glides.2⟩
    rw [if_pos now, if_pos glides]
    obtain ⟨strip, playback, pass⟩ := modEval_keeps i
      (fun st => { st with levelSource := .store, storeLevel := s.strips[i].deskCode }) (modAuto i (fun a =>
        { a with phase := .glide, glideStart := s.strips[i].deskCode, glideLength := s.strips[i].glideSteps, glideStep := 0 }) (readStrip i s))
    obtain ⟨source, level⟩ := strip.sameLevel
    unfold handGlideCode
    refine ⟨?_, fun ridden => ⟨⟨?_, fun code _ follows => ?_⟩, fun _ => level.symm, fun desk => ?_⟩, strip.sameCut, ?_, pass⟩
    · rw [playback, modAuto_self, read]
    · refine iff_of_true source.symm (.inr ⟨?_, .inr rfl⟩)
      exact (congrArg Mode.ridden strip.desk.mode).trans ridden
    · rcases follows with read | ⟨-, follows⟩
      · rw [show _ = s.strips[i].mode from strip.desk.mode] at read
        rw [read] at ridden
        cases ridden
      · cases follows
    · exact nomatch source.trans desk
    · rw [playback]
      rfl
  · have now : ¬ ((s.readingOf i).readLevel.isSome && decide (0 < s.strips[i].glideSteps)) = true := by
      rw [Bool.and_eq_true, decide_eq_true_iff, Option.isSome_iff_ne_none]
      exact glides
    rw [if_neg now, if_neg glides]
    obtain ⟨cut, level, desk, playback, pass⟩ := handLevel_hands i (modAuto i (fun a => { a with phase := .follow }) (readStrip i s))
    rw [modAuto_self, read] at level
    refine ⟨?_, fun _ => ⟨level, (fun glide => nomatch glide), desk⟩, cut, ?_, pass⟩
    · rw [playback, modAuto_self, read]
    · rw [playback]
      rfl

/-- What a strip's record and sources are once it has returned to the store (R145, R144). -/
theorem storeReturned_hands (i : Fin 64) (s : State) :
    let u := storeReturned i s
    let record := s.returned i s.strips[i].deskCode
    u.playback.strips[i] = record ∧
    (s.strips[i].mode.ridden = true → u.strips[i].levelHanded record ∧
      (record.phase = .glide → u.strips[i].storeLevel = s.strips[i].deskCode) ∧
      (u.strips[i].levelSource = .desk → u.strips[i].storeLevel = s.strips[i].storeLevel)) ∧
    u.strips[i].cutHanded record ∧ (record.readCut = none ∨ s.strips[i].mode.reads = false → u.strips[i].storeCut = s.strips[i].storeCut) ∧
    (record.cutLive = false → u.strips[i].cutSource = .desk → u.strips[i].storeCut = s.strips[i].storeCut) ∧
    u.playback = { s.playback with strips := u.playback.strips } ∧ u.pass = s.pass := by
  obtain ⟨record, level, cut, playback, pass⟩ := returnLevel_hands i s
  have mode : (returnLevel i (readStrip i s)).strips[i].mode = s.strips[i].mode :=
    (((ride_modAuto i _ s).trans (ride_returnLevel i _)).strips i).mode
  unfold storeReturned
  dsimp only
  generalize returnLevel i (readStrip i s) = u at *
  obtain ⟨sameLevel, cutHanded, playback', pass'⟩ := handCut_hands i u
  obtain ⟨strip, -, -⟩ := modEval_keeps i (Strip.takeCut u.playback.strips[i]) u
  have mode' : (handCut i u).strips[i].mode = u.strips[i].mode := ((ride_handCut i u).strips i).mode
  obtain ⟨source, storeLevel⟩ := sameLevel
  obtain ⟨cutSource, storeCut⟩ := strip.sameCut
  have kept (h : (s.returned i s.strips[i].deskCode).readCut = none ∨ s.strips[i].mode.reads = false) :
      (handCut i u).strips[i].storeCut = s.strips[i].storeCut := by
    rw [← record, ← mode] at h
    exact (storeCut.symm.trans (Strip.storeCut_takeCut h)).trans cut.2.symm
  refine ⟨by rw [playback', record], fun ridden => ?_, by rw [← record]; exact cutHanded, kept, fun quiet desk => kept ?_, ?_, pass'.trans pass⟩
  · obtain ⟨handed, glide, desk⟩ := level ridden
    exact ⟨Strip.levelHanded_congr ⟨source, storeLevel⟩ mode' handed, fun glides => storeLevel.symm.trans (glide glides),
      fun held => storeLevel.symm.trans (desk (source.trans held))⟩
  · rw [← record, ← mode]
    exact Strip.takeCut_desk (record ▸ quiet) (cutSource.trans desk)
  · rw [playback', playback]

end Sys2Proof.Machine
end

section
/-! The end of latches and live cuts over all strips (R149), and the GROUP CUTs it makes masters enqueue (R33, R102). -/

namespace Sys2Proof.Machine

variable {i : Fin 64} {s t u : State}

/-! ### A live cut returns to the read cut (R149) -/

/-- The part once a strip's cut is live no more, and handed on. -/
def cutReturned (i : Fin 64) (s : State) : State := handCut i (modAuto i (fun a => { a with cutLive := false }) s)

theorem cutReturned_hands (i : Fin 64) (s : State) :
    let u := cutReturned i s
    let record := { s.playback.strips[i] with cutLive := false }
    u.playback.strips[i] = record ∧ s.strips[i].sameLevel u.strips[i] ∧ u.strips[i].cutHanded record ∧
    (record.readCut = none ∨ s.strips[i].mode.reads = false → u.strips[i].storeCut = s.strips[i].storeCut) ∧
    (u.strips[i].cutSource = .desk → record.readCut = none ∨ s.strips[i].mode.reads = false) ∧
    u.playback = { s.playback with strips := u.playback.strips } ∧ u.pass = s.pass := by
  have made := modAuto_self i (fun a => { a with cutLive := false }) s
  have strips : (modAuto i (fun a => { a with cutLive := false }) s).strips = s.strips := rfl
  have frame : (modAuto i (fun a => { a with cutLive := false }) s).playback =
      { s.playback with strips := (modAuto i (fun a => { a with cutLive := false }) s).playback.strips } := rfl
  have held : (modAuto i (fun a => { a with cutLive := false }) s).pass = s.pass := rfl
  unfold cutReturned
  dsimp only
  rw [← made]
  generalize modAuto i (fun a => { a with cutLive := false }) s = u at *
  obtain ⟨level, cut, playback, pass⟩ := handCut_hands i u
  obtain ⟨strip, -, -⟩ := modEval_keeps i (Strip.takeCut u.playback.strips[i]) u
  obtain ⟨source, storeCut⟩ := strip.sameCut
  have quiet : u.playback.strips[i].cutLive = false := by rw [made]
  have readCut : u.playback.strips[i].readCut = s.playback.strips[i].readCut := by rw [made]
  rw [strips] at level source storeCut
  rw [← readCut]
  refine ⟨by rw [playback], level, cut, fun h => storeCut.symm.trans (Strip.storeCut_takeCut h),
    fun desk => Strip.takeCut_desk (a := u.playback.strips[i]) quiet (source.trans desk), by rw [playback, frame], pass.trans held⟩

/-! ### The end of latch and live cut of one strip -/

theorem endLive_eq (i : Fin 64) (s : State) : endLive i s =
    let u := if s.playback.strips[i].phase = .latched then storeReturned i s else s
    if u.playback.strips[i].cutLive then cutReturned i u else u := by
  unfold endLive
  simp only [beq_iff_eq]
  rfl

theorem State.returned_cutLive (s : State) (i : Fin 64) (desk : Nat) : (s.returned i desk).cutLive = s.playback.strips[i].cutLive := by
  unfold State.returned
  split <;> rfl

theorem endLive_latched (latched : s.playback.strips[i].phase = .latched) : endLive i s =
    if s.playback.strips[i].cutLive then cutReturned i (storeReturned i s) else storeReturned i s := by
  obtain ⟨record, -⟩ := storeReturned_hands i s
  rw [endLive_eq, if_pos latched]
  dsimp only
  rw [record, State.returned_cutLive]

theorem endLive_unlatched (unlatched : s.playback.strips[i].phase ≠ .latched) : endLive i s =
    if s.playback.strips[i].cutLive then cutReturned i s else s := by
  rw [endLive_eq, if_neg unlatched]

theorem State.liveEndedRecord_latched (latched : s.playback.strips[i].phase = .latched) :
    s.liveEndedRecord i = { s.returned i s.strips[i].deskCode with cutLive := false } := by
  rw [State.liveEndedRecord, if_pos latched]

theorem State.liveEndedRecord_unlatched (unlatched : s.playback.strips[i].phase ≠ .latched) :
    s.liveEndedRecord i = { s.playback.strips[i] with cutLive := false } := by
  rw [State.liveEndedRecord, if_neg unlatched]

/-- A record whose cut is not live is the same with its mark cleared. -/
theorem AutoStrip.quiet_eq {a : AutoStrip} (quiet : a.cutLive = false) : { a with cutLive := false } = a := by rw [← quiet]

/-- What the end of latch and live cut leaves of a strip (R149). -/
theorem endLive_hands (i : Fin 64) (s : State) :
    (endLive i s).playback.strips[i] = s.liveEndedRecord i ∧ s.liveEndedSources i (endLive i s).strips[i] ∧
    (endLive i s).playback = { s.playback with strips := (endLive i s).playback.strips } ∧ (endLive i s).pass = s.pass := by
  by_cases latched : s.playback.strips[i].phase = .latched
  · obtain ⟨record, level, cut, storeCut, desk, playback, pass⟩ := storeReturned_hands i s
    have mode : (storeReturned i s).strips[i].mode = s.strips[i].mode :=
      (((ride_modAuto i _ s).trans ((ride_returnLevel i _).trans (ride_handCut i _))).strips i).mode
    have live := s.returned_cutLive i s.strips[i].deskCode
    rw [endLive_latched latched]
    unfold State.liveEndedSources
    dsimp only
    rw [State.liveEndedRecord_latched latched]
    generalize storeReturned i s = u at *
    cases quiet : s.playback.strips[i].cutLive with
    | false =>
      rw [if_neg Bool.false_ne_true, AutoStrip.quiet_eq (live.trans quiet)]
      exact ⟨record, ⟨fun ridden _ => level ridden, fun no => (no latched).elim, fun _ => ⟨cut, desk (live.trans quiet)⟩,
        fun no => (no latched).elim⟩, playback, pass⟩
    | true =>
      rw [if_pos rfl]
      have mode' : (cutReturned i u).strips[i].mode = u.strips[i].mode := (((ride_modAuto i _ u).trans (ride_handCut i _)).strips i).mode
      obtain ⟨record', ⟨source, storeLevel⟩, cut', storeCut', desk', playback', pass'⟩ := cutReturned_hands i u
      rw [record] at record' cut' storeCut' desk'
      rw [mode] at storeCut' desk'
      refine ⟨record', ⟨fun ridden _ => ?_, fun no => (no latched).elim, fun _ => ⟨cut', fun held => ?_⟩, fun no => (no latched).elim⟩,
        ?_, pass'.trans pass⟩
      · obtain ⟨handed, glide, held⟩ := level ridden
        exact ⟨Strip.levelHanded_congr ⟨source, storeLevel⟩ mode' handed, fun glides => storeLevel.symm.trans (glide glides),
          fun desk => storeLevel.symm.trans (held (source.trans desk))⟩
      · exact (storeCut' (desk' held)).trans (storeCut (desk' held))
      · rw [playback', playback]
  · rw [endLive_unlatched latched]
    unfold State.liveEndedSources
    dsimp only
    rw [State.liveEndedRecord_unlatched latched]
    cases quiet : s.playback.strips[i].cutLive with
    | false =>
      rw [if_neg Bool.false_ne_true, AutoStrip.quiet_eq quiet]
      refine ⟨rfl, ⟨fun _ yes => (latched yes).elim, fun _ => ⟨rfl, rfl⟩, ?_, fun _ _ => ⟨rfl, rfl⟩⟩, rfl, rfl⟩
      rintro (yes | live)
      · exact (latched yes).elim
      · cases live
    | true =>
      rw [if_pos rfl]
      obtain ⟨record, level, cut, storeCut, desk, playback, pass⟩ := cutReturned_hands i s
      exact ⟨record, ⟨fun _ yes => (latched yes).elim, fun _ => level, fun _ => ⟨cut, fun held => storeCut (desk held)⟩,
        fun _ no => nomatch no⟩, playback, pass⟩

theorem sparesOthers_returnLevel (i : Fin 64) (s : State) : SparesOthers i s (returnLevel i s) := by
  unfold returnLevel
  dsimp only
  split
  · exact (sparesOthers_modAuto i _ s).trans (sparesOthers_modEval i _ _)
  · exact (sparesOthers_modAuto i _ s).trans (sparesOthers_handLevel i _)

theorem sparesOthers_storeReturned (i : Fin 64) (s : State) : SparesOthers i s (storeReturned i s) :=
  (sparesOthers_modAuto i _ s).trans ((sparesOthers_returnLevel i _).trans (sparesOthers_handCut i _))

theorem sparesOthers_endLive (i : Fin 64) (s : State) : SparesOthers i s (endLive i s) := by
  have stored : SparesOthers i s (if s.playback.strips[i].phase = .latched then storeReturned i s else s) :=
    (SparesOthers.refl i s).whenDone (sparesOthers_storeReturned i s)
  rw [endLive_eq]
  exact stored.whenDone ((sparesOthers_modAuto i _ _).trans (sparesOthers_handCut i _))

/-! ### Latches and live cuts of all strips end -/

/-- What ends of a strip's latch and live cut is the same while others have their turn. -/
theorem Spares.liveEnded (h : Spares i s t) :
    t.liveEndedRecord i = s.liveEndedRecord i ∧ ∀ after, t.liveEndedSources i after ↔ s.liveEndedSources i after := by
  have position : t.playback.position = s.playback.position := by rw [h.playback]
  have steps : t.strips[i].glideSteps = s.strips[i].glideSteps := by rw [h.strip]
  have desk : t.strips[i].deskCode = s.strips[i].deskCode := by rw [h.strip]; rfl
  have record : t.liveEndedRecord i = s.liveEndedRecord i := by
    unfold State.liveEndedRecord State.returned State.readingOf
    rw [h.auto, position, steps, desk]
  refine ⟨record, fun after => ?_⟩
  obtain ⟨source, level⟩ := h.strip.sameLevel
  obtain ⟨cutSource, cut⟩ := h.strip.sameCut
  unfold State.liveEndedSources Strip.sameLevel Strip.sameCut
  dsimp only
  rw [record, h.auto, desk, h.strip.desk.mode, source, level, cutSource, cut]

theorem State.liveEndedSources_congr {a b : Strip} (same : Strip.SameInputs a b) (h : s.liveEndedSources i a) : s.liveEndedSources i b := by
  obtain ⟨latched, unlatched, ended, quiet⟩ := h
  obtain ⟨source, level⟩ := same.sameLevel
  obtain ⟨cutSource, cut⟩ := same.sameCut
  refine ⟨fun ridden phase => ?_, fun phase => (unlatched phase).trans ⟨source, level⟩, fun either => ?_,
    fun phase live => (quiet phase live).trans ⟨cutSource, cut⟩⟩
  · obtain ⟨handed, glide, desk⟩ := latched ridden phase
    exact ⟨Strip.levelHanded_congr ⟨source, level⟩ same.desk.mode handed, fun glides => level.symm.trans (glide glides),
      fun held => level.symm.trans (desk (source.trans held))⟩
  · obtain ⟨handed, desk⟩ := ended either
    exact ⟨Strip.cutHanded_congr ⟨cutSource, cut⟩ same.desk.mode handed, fun held => cut.symm.trans (desk (cutSource.trans held))⟩

/-- The end of latches and live cuts over the existing strips (R149). -/
theorem forStrips_endLive (s : State) : s.liveEnded (forStrips endLive s) ∧
    (forStrips endLive s).playback = { s.playback with strips := (forStrips endLive s).playback.strips } ∧
    (forStrips endLive s).pass = s.pass := by
  refine ⟨fun i hi => ?_, ?_⟩
  · obtain ⟨t, before, after⟩ := forStrips_turn hi (fun j t => (ride_endLive j t).inner.straps) sparesOthers_endLive
    obtain ⟨record, sources, -⟩ := endLive_hands i t
    obtain ⟨sameRecord, sameSources⟩ := before.liveEnded
    refine ⟨after.auto.trans (record.trans sameRecord), ?_⟩
    exact State.liveEndedSources_congr after.strip ((sameSources _).mp sources)
  · exact forStrips_induct (P := fun t => t.playback = { s.playback with strips := t.playback.strips } ∧ t.pass = s.pass) ⟨rfl, rfl⟩
      fun i t _ ⟨playback, pass⟩ => by
        obtain ⟨-, -, playback', pass'⟩ := endLive_hands i t
        exact ⟨by rw [playback', playback], pass'.trans pass⟩

end Sys2Proof.Machine
end

section
/-! What the group line takes where every existing strip has its turn, and of the end of latches and live cuts (R33, R101, R102, R149). -/

namespace Sys2Proof.Machine

variable {g : Fin 32} {i : Fin 64} {s t u w : State}

/-! ### The enqueues of a walk over the strips -/

/-- In a walk over existing strips, each strip's enqueues follow those of the strips before it (log entry 50). -/
theorem lineTakes_walk {f : Fin 64 → State → State} {values : State → Fin 64 → List (MsgKind × Nat × Int)}
    (only : ∀ j t, SparesOthers j t (f j t)) (kept : ∀ j t, t.hasStrip j = true → StripsTuned t → StripsTuned (f j t))
    (turn : ∀ j t w, t.hasStrip j = true → StripsTuned t → Spares j s t → Spares j (f j t) w → LineTakes t (f j t) (values w j))
    (l : List (Fin 64)) (once : l.Nodup) {t : State} (straps : t.straps = s.straps) (tuned : StripsTuned t)
    (spared : ∀ j ∈ l, Spares j s t) :
    let w := l.foldl (fun t j => if t.hasStrip j then f j t else t) t
    LineTakes t w (l.flatMap fun j => if s.hasStrip j then values w j else []) := by
  induction l generalizing t with
  | nil => exact (Enqueued.refl t).toLineTakes
  | cons j rest ih =>
    obtain ⟨absent, once⟩ := List.nodup_cons.mp once
    have own := spared j List.mem_cons_self
    have later (u : State) (others : SparesOthers j t u) : ∀ k ∈ rest, Spares k s u := fun k hk =>
      (spared k (List.mem_cons_of_mem j hk)).trans (others k fun same => absent (same ▸ hk))
    dsimp only
    rw [List.foldl_cons, List.flatMap_cons, ← hasStrip_of_straps straps j]
    split
    · next hj =>
      have reached (w : State) := turn j t w hj tuned own
      have after := ih once ((reached _ (.refl j _)).inner.straps.trans straps) (kept j t hj tuned) (later _ (only j t))
      exact (reached _ (foldl_spares only rest absent _)).trans after
    · exact ih once straps tuned (later t (.refl j t))

/-- What the strips' masters enqueue in a walk that hands each strip its mode cuts in turn (R33, R102, log entry 50). -/
theorem lineTakes_forStrips {f : Fin 64 → State → State} {handed : State → Fin 64 → List Bool}
    (only : ∀ j t, SparesOthers j t (f j t)) (kept : ∀ j t, t.hasStrip j = true → StripsTuned t → StripsTuned (f j t))
    (inner : ∀ j t, Inner t (f j t)) (audio : ∀ j t, t.strips[j].role = .audio → (f j t).group = t.group)
    (master : ∀ j t w g, t.hasStrip j = true → StripsTuned t → Spares j s t → Spares j (f j t) w → t.strips[j].role = .groupMaster g →
      LineTakes t (f j t) (changedCuts g s.strips[j].modeCut (handed w j)))
    (tuned : StripsTuned s) : LineTakes s (forStrips f s) (s.masterCuts (handed (forStrips f s))) := by
  have walk := lineTakes_walk (s := s) (values := fun w j => match s.strips[j].role with
    | .audio => []
    | .groupMaster g => changedCuts g s.strips[j].modeCut (handed w j)) only kept (fun j t w hj tuned spared after => ?_)
    (List.finRange 64) (List.nodup_finRange 64) rfl tuned fun j _ => .refl j s
  · refine (congrArg (LineTakes s (forStrips f s)) ?_).mp walk
    refine List.flatMap_congr fun j _ => ?_
    cases s.strips[j].role with
    | audio => exact ite_self _
    | groupMaster g => rfl
  · rw [← spared.strip.role]
    split
    · next role => exact lineTakes_nil (inner j t) (by rw [audio j t role])
    · next g role => exact master j t w g hj tuned spared after role

/-! ### The end of latch and live cut of a master -/

theorem StripsTuned.holds (tuned : StripsTuned s) (hi : s.hasStrip i = true) (role : s.strips[i].role = .groupMaster g) :
    ∃ noted, s.holds g s.strips[i].modeCut noted := by
  obtain ⟨each, -⟩ := tuned
  have own := each i hi
  unfold State.tuned at own
  rw [role] at own
  obtain ⟨m, found, -, cut⟩ := own
  exact ⟨m.enqueued, m, found, cut, rfl⟩

/-- The return of the level hands the master nothing new. -/
theorem handsCut_returnLevel {noted : Int} (role : s.strips[i].role = .groupMaster g) (held : s.holds g s.strips[i].modeCut noted) :
    HandsCut g s.strips[i].modeCut s.strips[i].modeCut s (returnLevel i s) := by
  unfold returnLevel
  dsimp only
  split
  · have phase := handsCut_modAuto g s.strips[i].modeCut i (fun a =>
      { a with phase := .glide, glideStart := s.strips[i].deskCode, glideLength := s.strips[i].glideSteps, glideStep := 0 }) s
    refine phase.afterHeld ?_
    refine handsCut_modEval (f := fun st => { st with levelSource := .store, storeLevel := s.strips[i].deskCode }) ?_ (phase.holds noted held)
    exact role
  · have phase := handsCut_modAuto g s.strips[i].modeCut i (fun a => { a with phase := .follow }) s
    refine phase.afterHeld ?_
    have same (a : AutoStrip) : (Strip.takeLevel a s.strips[i]).modeCut = s.strips[i].modeCut :=
      Strip.modeCut_eq (by rw [Strip.sameDesk_takeLevel]) (Strip.sameCut_takeLevel _ _)
    have level := handsCut_modEval (i := i) (g := g)
      (f := Strip.takeLevel (modAuto i (fun a => { a with phase := .follow }) s).playback.strips[i])
      (s := modAuto i (fun a => { a with phase := .follow }) s) (by rw [Strip.sameDesk_takeLevel]; exact role) (phase.holds noted held)
    rw [show (modAuto i (fun a => { a with phase := .follow }) s).strips = s.strips from rfl, same] at level
    exact level

/-- A strip handed its cut hands its master its mode cut (R144, R33). -/
theorem handsCut_handCut {c : Bool} {noted : Int} (role : s.strips[i].role = .groupMaster g) (held : s.holds g c noted) :
    HandsCut g c (handCut i s).strips[i].modeCut s (handCut i s) := by
  have cut := handsCut_modEval (f := Strip.takeCut s.playback.strips[i]) (s := s) (i := i) (g := g)
    (by rw [Strip.sameDesk_takeCut]; exact role) held
  rw [← (modEval_keeps i (Strip.takeCut s.playback.strips[i]) s).1.modeCut] at cut
  exact cut

theorem handsCut_storeReturned {noted : Int} (role : s.strips[i].role = .groupMaster g) (held : s.holds g s.strips[i].modeCut noted) :
    HandsCut g s.strips[i].modeCut (storeReturned i s).strips[i].modeCut s (storeReturned i s) := by
  have read := handsCut_modAuto g s.strips[i].modeCut i (AutoStrip.readAt s.playback.position) s
  have level := read.afterHeld (handsCut_returnLevel (s := readStrip i s) role (read.holds noted held))
  have role' : (returnLevel i (readStrip i s)).strips[i].role = .groupMaster g := by
    rw [((ride_returnLevel i (readStrip i s)).strips i)]
    exact role
  exact level.afterHeld (handsCut_handCut role' (level.holds noted held))

theorem handsCut_cutReturned {c : Bool} {noted : Int} (role : s.strips[i].role = .groupMaster g) (held : s.holds g c noted) :
    HandsCut g c (cutReturned i s).strips[i].modeCut s (cutReturned i s) := by
  have live := handsCut_modAuto g c i (fun a => { a with cutLive := false }) s
  refine live.afterHeld (handsCut_handCut ?_ (live.holds noted held))
  exact role

end Sys2Proof.Machine
end

section
/-! The GROUP CUTs that the end of latches and live cuts makes masters enqueue (R149, R33, R102). -/

namespace Sys2Proof.Machine

variable {g : Fin 32} {i : Fin 64} {s t : State}

/-- Where the mode does not ride the strip, a live cut makes no difference to the mode cut (R144). -/
theorem Strip.modeCut_unridden {a b : Strip} {r q : AutoStrip} (desk : Strip.SameDesk a b) (unridden : a.mode.ridden = false)
    (h : a.cutHanded r) (k : b.cutHanded q) (read : q.readCut = r.readCut) : b.modeCut = a.modeCut := by
  obtain ⟨source, cut⟩ := h
  obtain ⟨source', cut'⟩ := k
  rw [read, desk.mode, unridden] at source'
  rw [unridden] at source
  rw [read, desk.mode] at cut'
  have same : b.cutSource = .store ↔ a.cutSource = .store := by rw [source, source']; simp
  have manual : b.manualCut = a.manualCut := by rw [desk]
  unfold Strip.modeCut
  cases held : a.cutSource with
  | desk =>
    cases held' : b.cutSource with
    | desk => exact manual
    | store => exact nomatch held.symm.trans (same.mp held')
  | store =>
    rw [same.mpr held]
    obtain ⟨some, mode | ⟨ridden, -⟩⟩ := source.mp held
    · obtain ⟨value, found⟩ := Option.ne_none_iff_exists'.mp some
      exact (cut' value found (.inl mode)).trans (cut value found (.inl mode)).symm
    · cases ridden

theorem changedCuts_again (g : Fin 32) (c c' : Bool) : changedCuts g c [c', c'] = changedCuts g c [c'] := by
  rw [← changedCuts_pair, changedCuts_same, changedCuts_nil, List.append_nil]

theorem ride_storeReturned (i : Fin 64) (s : State) : RideFrame s (storeReturned i s) :=
  (ride_modAuto i _ s).trans ((ride_returnLevel i _).trans (ride_handCut i _))

/-- What a master enqueues at the end of its latch and live cut (R149, R33, R102). -/
theorem lineTakes_endLive {noted : Int} (role : s.strips[i].role = .groupMaster g) (held : s.holds g s.strips[i].modeCut noted) :
    LineTakes s (endLive i s) (changedCuts g s.strips[i].modeCut
      [if s.strips[i].mode.ridden && s.playback.strips[i].phase == .latched && s.playback.strips[i].cutLive then s.strips[i].manualCut
        else (endLive i s).strips[i].modeCut, (endLive i s).strips[i].modeCut]) := by
  cases live : s.playback.strips[i].cutLive with
  | false =>
    rw [Bool.and_false, if_neg Bool.false_ne_true, changedCuts_again]
    by_cases latched : s.playback.strips[i].phase = .latched
    · rw [endLive_latched latched, live, if_neg Bool.false_ne_true]
      exact (handsCut_storeReturned role held).takes
    · rw [endLive_unlatched latched, live, if_neg Bool.false_ne_true]
      exact (HandsCut.refl g _ s).takes
  | true =>
    by_cases latched : s.playback.strips[i].phase = .latched
    · have stored := handsCut_storeReturned role held
      obtain ⟨record, -, cut, -, -, -, -⟩ := storeReturned_hands i s
      have desk : Strip.SameDesk s.strips[i] (storeReturned i s).strips[i] := (ride_storeReturned i s).strips i
      rw [endLive_latched latched, live, if_pos rfl, latched, BEq.rfl, Bool.and_true, Bool.and_true]
      have taken := stored.takes.trans (handsCut_cutReturned (s := storeReturned i s) (by rw [desk]; exact role)
        (stored.holds noted held)).takes
      rw [changedCuts_pair] at taken
      have between : (if s.strips[i].mode.ridden then s.strips[i].manualCut else (cutReturned i (storeReturned i s)).strips[i].modeCut) =
          (storeReturned i s).strips[i].modeCut := by
        split
        · next ridden =>
          rw [Strip.modeCut_live cut (by rw [desk.mode]; exact ridden) ((s.returned_cutLive i _).trans live), desk]
        · next unridden =>
          obtain ⟨-, -, cut', -⟩ := cutReturned_hands i (storeReturned i s)
          rw [record] at cut'
          have after : Strip.SameDesk (storeReturned i s).strips[i] (cutReturned i (storeReturned i s)).strips[i] :=
            ((ride_modAuto i _ _).trans (ride_handCut i _)).strips i
          exact Strip.modeCut_unridden after (by rw [desk.mode]; exact Bool.eq_false_iff.mpr unridden) cut cut' rfl
      rw [between]
      exact taken
    · rw [beq_eq_false_iff_ne.mpr latched, Bool.and_false, Bool.false_and, if_neg Bool.false_ne_true, changedCuts_again,
        endLive_unlatched latched, live, if_pos rfl]
      exact (handsCut_cutReturned role held).takes

/-! ### An AUDIO strip leaves the group line alone -/

theorem group_cutReturned (role : s.strips[i].role = .audio) : (cutReturned i s).group = s.group :=
  group_handCut (s := modAuto i (fun a => { a with cutLive := false }) s) role

theorem group_storeReturned (role : s.strips[i].role = .audio) : (storeReturned i s).group = s.group := by
  have role' : (returnLevel i (readStrip i s)).strips[i].role = .audio := by
    rw [((ride_returnLevel i (readStrip i s)).strips i)]
    exact role
  have level : (returnLevel i (readStrip i s)).group = s.group := by
    unfold returnLevel
    dsimp only
    split
    · exact group_modEval (i := i) (s := modAuto i _ (readStrip i s)) role
    · refine group_modEval (s := modAuto i _ (readStrip i s)) ?_
      rw [Strip.sameDesk_takeLevel]
      exact role
  exact (group_handCut role').trans level

theorem group_endLive (role : s.strips[i].role = .audio) : (endLive i s).group = s.group := by
  by_cases latched : s.playback.strips[i].phase = .latched
  · have role' : (storeReturned i s).strips[i].role = .audio := by
      rw [(ride_storeReturned i s).strips i]
      exact role
    rw [endLive_latched latched]
    split
    · exact (group_cutReturned role').trans (group_storeReturned role)
    · exact group_storeReturned role
  · rw [endLive_unlatched latched]
    split
    · exact group_cutReturned role
    · rfl

/-! ### All strips -/

/-- The GROUP CUTs of the masters whose cut changes, ascending (R102, log entry 50). -/
theorem lineTakes_forStrips_endLive (tuned : StripsTuned s) :
    LineTakes s (forStrips endLive s) (s.endEnqueues (forStrips endLive s)) := by
  refine lineTakes_forStrips (handed := fun w i =>
    [if s.strips[i].mode.ridden && s.playback.strips[i].phase == .latched && s.playback.strips[i].cutLive then s.strips[i].manualCut
      else w.strips[i].modeCut, w.strips[i].modeCut]) sparesOthers_endLive (fun j t hj => (kept_endLive hj).tuned)
    (fun j t => (ride_endLive j t).inner) (fun j t role => group_endLive role) (fun j t w g hj tuned spared after role => ?_) tuned
  obtain ⟨noted, held⟩ := tuned.holds hj role
  have taken := lineTakes_endLive role held
  have manual : t.strips[j].manualCut = s.strips[j].manualCut := by rw [spared.strip]
  rw [spared.strip.modeCut, spared.strip.desk.mode, manual, spared.auto, ← after.strip.modeCut] at taken
  exact taken

theorem lineStep_returnLevel (i : Fin 64) (s : State) : LineStep s (returnLevel i s) := by
  unfold returnLevel
  dsimp only
  split
  · exact (lineStep_modAuto i _ s).trans (lineStep_modEval i _ _)
  · exact (lineStep_modAuto i _ s).trans (lineStep_modEval i _ _)

theorem lineStep_storeReturned (i : Fin 64) (s : State) : LineStep s (storeReturned i s) :=
  (lineStep_modAuto i _ s).trans ((lineStep_returnLevel i _).trans (lineStep_modEval i _ _))

theorem lineStep_endLive (i : Fin 64) (s : State) : LineStep s (endLive i s) := by
  have live (t : State) : LineStep t (cutReturned i t) := (lineStep_modAuto i _ t).trans (lineStep_modEval i _ _)
  by_cases latched : s.playback.strips[i].phase = .latched
  · rw [endLive_latched latched]
    split
    · exact (lineStep_storeReturned i s).trans (live _)
    · exact lineStep_storeReturned i s
  · rw [endLive_unlatched latched]
    split
    · exact live s
    · exact .refl s

theorem forStrips_lineStep {f : Fin 64 → State → State} (h : ∀ i t, LineStep t (f i t)) (s : State) : LineStep s (forStrips f s) :=
  forStrips_induct (.refl s) fun i t _ before => before.trans (h i t)

end Sys2Proof.Machine
end

section
/-! The end of a message that the station sends, or hears, of a group and of a pass (R97, R99, R149, log entries 13, 46, 50). -/

namespace Sys2Proof.Machine

variable {s u : State}

/-! ### A pass message handed on (R99, R154, R155) -/

theorem judgeMessage_passOpen {bits : BitVec 38} {m : Message} (good : readMessage bits = some m) (kind : m.kind = .passOpen) :
    judgeMessage bits s = takePassOpen m.number s.heard := by
  rw [judgeMessage, good]
  dsimp only
  rw [handMessage, kind]
  rfl

theorem judgeMessage_passClose {bits : BitVec 38} {m : Message} (good : readMessage bits = some m) (kind : m.kind = .passClose) :
    judgeMessage bits s = takePassClose m.number s.heard := by
  rw [judgeMessage, good]
  dsimp only
  rw [handMessage, kind]
  rfl

/-- A PASS OPEN works on journal and causes alone. -/
theorem journalFrame_takePassOpen (n : Nat) (s : State) : JournalFrame s (takePassOpen n s) := by
  have missed : JournalFrame s (raise .passMissed (s.setPass { s.pass with missed := some n })) :=
    (journalFrame_setPass s _).trans (journalFrame_raise _ _)
  unfold takePassOpen
  split
  · exact (journalFrame_setPass s _).trans (journalFrame_punchInAll _ _)
  · split
    · exact .refl s
    · exact missed
  · exact missed
  · exact missed

/-- The part once its pass is closed, before latches and live cuts end (R155). -/
def passShut (s : State) : State :=
  (closeAllPunches s.playback.position s).setPass { (closeAllPunches s.playback.position s).pass with state := .review }

theorem journalFrame_passShut (s : State) : JournalFrame s (passShut s) :=
  (journalFrame_closeAllPunches _ s).trans (journalFrame_setPass _ _)

theorem takePassClose_held {n : Nat} (recording : s.pass.state = .recording) (held : s.pass.number = some n) :
    takePassClose n s = forStrips endLive (passShut s) := if_pos ⟨recording, held⟩

theorem takePassClose_other {n : Nat} (other : ¬ (s.pass.state = .recording ∧ s.pass.number = some n)) : takePassClose n s = s :=
  if_neg other

/-- What the end of latches and live cuts enqueues is a matter of strips, records and the strips that exist. -/
theorem State.endEnqueues_congr (strips : u.strips = s.strips) (playback : u.playback = s.playback) (straps : u.straps = s.straps)
    (t : State) : u.endEnqueues t = s.endEnqueues t := by
  unfold State.endEnqueues State.masterCuts State.hasStrip State.rate
  rw [strips, playback, straps]

theorem kept_passShut (s : State) : Kept s (passShut s) := by
  have closed := kept_closeAllPunches s.playback.position s
  unfold passShut
  generalize closeAllPunches s.playback.position s = t at closed ⊢
  have reviewed : Kept t (t.setPass { t.pass with state := .review }) := kept_setPass_same rfl
  exact closed.trans reviewed

/-- What a PASS CLOSE of the pass held enqueues (R155, R149, R102, log entry 50). -/
theorem lineTakes_takePassClose {n : Nat} (recording : s.pass.state = .recording) (held : s.pass.number = some n) (tuned : StripsTuned s) :
    LineTakes s (takePassClose n s) (s.endEnqueues (takePassClose n s)) := by
  have frame := journalFrame_passShut s
  have shut := (kept_passShut s).tuned tuned
  have ended := frame.lineTakes.trans (lineTakes_forStrips_endLive shut)
  rw [State.endEnqueues_congr frame.strips frame.playback frame.inner.straps, List.nil_append] at ended
  rw [takePassClose_held recording held]
  exact ended

/-! ### The end of the own message (R97) -/

/-- The part once the own message has ended: its entry settled, and the message heard like any other (R97, log entry 46). -/
def State.settled (s : State) : State := (s.setGroup s.group.settle).heard

theorem exec_groupMessageEnd_same {e : QueueEntry} (pin : s.resetPin = false) (sending : s.group.sending = some e)
    (line : s.group.line = .message) {bits : BitVec 38} (own : messageBits (s.ownMessage e) = bits) :
    exec (.groupMessageEnd bits) s = .next (judgeMessage bits (s.setGroup s.group.settle)) := by
  rw [exec_groupMessageEnd_own pin sending line, if_pos own]

theorem State.settled_same (s : State) : s.settled = s.setGroup s.settled.group := rfl

theorem State.settled_tuned (tuned : StripsTuned s) : StripsTuned s.settled := by
  have frame : TuneFrame s s.settled := tuneFrame_setQueue rfl rfl rfl
  exact frame.kept.tuned tuned

/-- The group line once the own message has ended. -/
theorem State.settled_group {pre post : List QueueEntry} {e : QueueEntry} {v : Int} (queue : s.group.queue = pre ++ e :: post)
    (unmarked : ∀ x ∈ pre ++ post, x.inFlight = none) (flies : e.inFlight = some v) : s.settled.group = { s.group with
      line := .seeking, recessiveRun := 0, sent := min 65535 (s.group.sent + 1), taken := min 65535 (s.group.taken + 1)
      queue := if s.group.keeps e && some v != some e.value then pre ++ { e with inFlight := none } :: post else pre ++ post } :=
  congrArg (fun g : GroupLine => { g with line := .seeking, recessiveRun := 0, taken := min 65535 (s.group.taken + 1) })
    (GroupLine.settle_at queue unmarked flies)

/-- The entry of a pass leaves the queue where its value is the value sent. -/
theorem State.settled_pass {pre post : List QueueEntry} {e : QueueEntry} {v : Int} (queue : s.group.queue = pre ++ e :: post)
    (unmarked : ∀ x ∈ pre ++ post, x.inFlight = none) (flies : e.inFlight = some v) (kind : e.kind = .passOpen ∨ e.kind = .passClose) :
    s.settled.group = { s.group with
      line := .seeking, recessiveRun := 0, sent := min 65535 (s.group.sent + 1), taken := min 65535 (s.group.taken + 1)
      queue := if e.value = v then pre ++ post else pre ++ { e with inFlight := none } :: post } := by
  have keeps : s.group.keeps e = true := GroupLine.keeps_iff.mpr (kind.elim .inl fun close => .inr (.inl close))
  rw [State.settled_group queue unmarked flies, keeps, Bool.true_and]
  by_cases same : e.value = v
  · rw [if_pos same, same, bne_self_eq_false, if_neg Bool.false_ne_true]
  · have differs : (some v != some e.value) = true := bne_iff_ne.mpr fun eq => same (Option.some.inj eq).symm
    rw [if_neg same, differs, if_pos rfl]

/-! ### The own message of a group -/

theorem Kind.message_inj {kind kind' : Kind} (h : kind.message = kind'.message) : kind = kind' := by
  cases kind <;> cases kind' <;> simp_all [Kind.message]

/-- A frame over a part whose group line was changed before is one over the part itself. -/
theorem State.setGroup_frame {s t : State} {g : GroupLine}
    (frame : t = (((s.setGroup g).setGroup t.group).setStrips t.strips).setControl (s.setGroup g).control) :
    t = (s.setGroup t.group).setStrips t.strips := frame

/-- The own message of a group, taken once its entry is settled: table entry, strips of the group, and nothing else (R99, R100). -/
theorem settled_takeGroup (kind : Kind) (g : Fin 32) (v : Int) (s : State) :
    let t := takeGroup kind g v s.straps.slot s.settled
    t.group = { s.settled.group with table := s.group.table.set g (s.group.table[g].take kind v s.straps.slot) } ∧
    (∀ i : Fin 64, g ∉ s.strips[i].groups → t.strips[i] = s.strips[i]) ∧ t = (s.setGroup t.group).setStrips t.strips := by
  have table : s.settled.group.table = s.group.table := rfl
  have slot : s.settled.straps.slot = s.straps.slot := rfl
  have frame := takeGroup_same kind g v s.settled.straps.slot s.settled
  have group := takeGroup_group kind g v s.settled.straps.slot s.settled
  have strips (i : Fin 64) (other : g ∉ s.settled.strips[i].groups) :=
    takeGroup_strip_other (kind := kind) (value := v) (slot := s.settled.straps.slot) (s := s.settled) other
  rw [takeGroup_own] at frame
  rw [table] at group
  rw [slot] at frame group strips
  dsimp only
  generalize takeGroup kind g v s.straps.slot s.settled = t at *
  rw [s.settled_same] at frame
  exact ⟨group, strips, State.setGroup_frame frame⟩

/-- The entry of a group stays where its value has changed and the group is mastered. -/
theorem settled_stays {e : QueueEntry} {kind : Kind} {g : Fin 32} (named : e.kind = kind.message) (number : e.number = g.val) (v : Int) :
    (s.group.keeps e && some v != some e.value) = true ↔ (∃ m ∈ s.group.mastered, m.group = g) ∧ e.value ≠ v := by
  have ofGroup : e.kind ≠ .passOpen ∧ e.kind ≠ .passClose := by rw [named]; cases kind <;> decide
  rw [Bool.and_eq_true, GroupLine.keeps_iff, or_iff_right ofGroup.1, or_iff_right ofGroup.2, number, bne_iff_ne]
  refine and_congr (exists_congr fun m => and_congr_right fun _ => Fin.ext_iff.symm) ⟨fun ne same => ne (same ▸ rfl), fun ne same => ?_⟩
  exact ne (Option.some.inj same).symm

/-! ### The own message of a pass -/

/-- The own PASS OPEN leaves the group line as its settled entry leaves it. -/
theorem settled_takePassOpen (n : Nat) (s : State) : (takePassOpen n s.settled).group = s.settled.group :=
  (journalFrame_takePassOpen n s.settled).group

/-- The own PASS CLOSE of another pass changes nothing more. -/
theorem settled_takePassClose_other {n : Nat} (other : ¬ (s.pass.state = .recording ∧ s.pass.number = some n)) :
    (takePassClose n s.settled).group = s.settled.group := by rw [takePassClose_other (s := s.settled) other]

/-- The own PASS CLOSE of the pass held has masters enqueue their cuts behind the settled entry (log entries 46, 50). -/
theorem settled_takePassClose_held {n : Nat} (recording : s.pass.state = .recording) (held : s.pass.number = some n) (tuned : StripsTuned s) :
    s.enqueues s.settled.group (s.endEnqueues (takePassClose n s.settled)) (takePassClose n s.settled).group :=
  (State.enqueues_congr (s := s) (t := s.settled) rfl rfl _ _ _).mp
    (lineTakes_takePassClose (s := s.settled) recording held (State.settled_tuned tuned)).enqueues

/-- Settles O38: the entry is settled and the message heard; then a group's message reaches its table entry, and a pass's the pass. -/
theorem ownMessageEndSettlesItsEntry : Obligations.OwnMessageEndSettlesItsEntry := by
  intro s pre post e v pin line queue unmarked flies keys low high
  have sending := GroupLine.sending_at queue (fun x hx => unmarked x (List.mem_append_left _ hx)) flies
  have run := exec_groupMessageEnd_same pin sending line (congrArg messageBits (s.ownMessage_eq flies))
  refine ⟨fun g kinds number => ?_, fun kinds number => ?_⟩
  · obtain ⟨kind, named⟩ : ∃ kind : Kind, e.kind = kind.message := kinds.elim (⟨.level, ·⟩) (⟨.cut, ·⟩)
    have good := readMessage_messageBits (m := ⟨e.kind, s.straps.slot, e.number, v⟩) (by dsimp only; omega)
      (fun _ => number.symm ▸ g.isLt) low high
    obtain ⟨group, strips, same⟩ := settled_takeGroup kind g v s
    have stays := settled_stays (s := s) named number v
    rw [judgeMessage_group good number named] at run
    change exec _ s = .next (takeGroup kind g v s.straps.slot s.settled) at run
    generalize takeGroup kind g v s.straps.slot s.settled = t at *
    rw [s.settled_group queue unmarked flies] at group
    have own : t.group.table[g] = s.group.table[g].take kind v s.straps.slot := by rw [group, set_get, if_pos rfl]
    rw [TableEntry.take_eq] at own
    refine ⟨t, run, by rw [group], by rw [group], by rw [group], by rw [own], by rw [own], fun is => ?_, fun is => ?_, fun gone => ?_,
      fun changed mastered => ?_, fun is => ?_, fun is => ?_, fun h other => ?_, by rw [group], strips, same⟩
    · rw [own, if_pos (Kind.message_inj (kind' := .level) (named.symm.trans is))]
    · rw [own, if_pos (Kind.message_inj (kind' := .cut) (named.symm.trans is))]
    · rw [group]
      refine if_neg fun kept => ?_
      obtain ⟨⟨m, hm, master⟩, changed⟩ := stays.mp kept
      exact gone.elim changed fun free => free m hm master
    · rw [group]
      exact if_pos (stays.mpr ⟨mastered, changed⟩)
    · rw [own, show kind = .level from Kind.message_inj (named.symm.trans is)]
      rfl
    · rw [own, show kind = .cut from Kind.message_inj (named.symm.trans is)]
      rfl
    · rw [group, set_get, if_neg other.symm]
  · have good := readMessage_messageBits (m := ⟨e.kind, s.straps.slot, e.number, v⟩) (Nat.lt_succ_of_le number)
      (fun group => by rcases kinds with kind | kind <;> rcases group with group | group <;> cases kind.symm.trans group) low high
    have group := State.settled_pass queue unmarked flies kinds
    dsimp only
    rw [← group]
    rcases kinds with kind | kind
    · rw [judgeMessage_passOpen good kind] at run
      exact ⟨takePassOpen e.number s.settled, run, fun _ => settled_takePassOpen e.number s, fun ⟨close, _⟩ => nomatch kind.symm.trans close⟩
    · rw [judgeMessage_passClose good kind] at run
      exact ⟨takePassClose e.number s.settled, run, fun other => settled_takePassClose_other fun closes => other ⟨kind, closes⟩,
        fun ⟨_, recording, held⟩ tuned => settled_takePassClose_held recording held tuned⟩

end Sys2Proof.Machine
end

section
/-! Records of one strip after another: what a walk over the strips records, and what the pass record makes of it (R155 to R159). -/

namespace Sys2Proof.Machine

variable {i j : Fin 64} {kind : Kind} {p q : Pass} {s t u : State}

/-! ### The punches of other strips -/

/-- The strip of a record. -/
def Record.strip : Record → Fin 64
  | .punchIn i _ _ => i
  | .move i _ _ => i
  | .punchOut i _ _ => i

theorem strip_opening {position : Nat} {v : MoveValue} : ∀ r ∈ opening i kind position v, r.strip = i := by
  simp [opening, Record.strip]

theorem strip_closing {position : Nat} {v : MoveValue} : ∀ r ∈ p.closing i kind position v, r.strip = i := by
  unfold Pass.closing
  intro r hr
  split at hr
  · rcases List.mem_append.mp hr with hr | hr
    · split at hr
      · obtain rfl := List.mem_singleton.mp hr
        rfl
      · cases hr
    · obtain rfl := List.mem_singleton.mp hr
      rfl
  · cases hr

/-- The records of a strip are its own where those of each kind are. -/
theorem strip_bothKinds {records : Kind → List Record} (own : ∀ k, ∀ r ∈ records k, r.strip = i) :
    ∀ r ∈ bothKinds records, r.strip = i := fun r hr =>
  (List.mem_append.mp hr).elim (own .level r) (own .cut r)

/-- A record of one strip leaves the punches of another. -/
theorem Pass.offer_punches_other (p : Pass) {r : Record} (other : r.strip ≠ i) : (p.offer r).punches[i] = p.punches[i] := by
  have set (j : Fin 64) (x : Punches) (ne : j ≠ i) : (p.punches.set j x)[i] = p.punches[i] := by rw [set_get, if_neg ne]
  unfold Pass.offer
  split
  · rfl
  · cases r with
    | punchIn j k position => exact set j _ other
    | move j position v =>
      dsimp only
      split
      · exact set j _ other
      · rfl
    | punchOut j k position =>
      dsimp only
      split
      · exact set j _ other
      · rfl

theorem Pass.offers_punches_other (p : Pass) {records : List Record} (other : ∀ r ∈ records, r.strip ≠ i) :
    (p.offers records).punches[i] = p.punches[i] := by
  induction records generalizing p with
  | nil => rfl
  | cons r rest ih =>
    exact (ih (p.offer r) fun x hx => other x (List.mem_cons_of_mem r hx)).trans (p.offer_punches_other (other r List.mem_cons_self))

theorem Pass.samePunch_of (same : q.punches[i] = p.punches[i]) : Pass.samePunch i kind p q := by
  cases kind with
  | level => exact congrArg Punches.level same
  | cut => exact congrArg Punches.cut same

/-! ### A walk that records -/

/-- What a walk that records has left as it was when a strip's turn comes. -/
structure BeforeTurn (i : Fin 64) (s t : State) : Prop where
  frame : JournalFrame s t
  state : t.pass.state = s.pass.state
  punches : t.pass.punches[i] = s.pass.punches[i]

theorem BeforeTurn.desk (h : BeforeTurn i s t) (kind : Kind) : t.deskValue i kind = s.deskValue i kind := by
  unfold State.deskValue
  rw [h.frame.strips]

theorem BeforeTurn.live (h : BeforeTurn i s t) (kind : Kind) : t.liveForRecording i kind = s.liveForRecording i kind :=
  State.liveForRecording_congr (by rw [h.frame.strips]) (by rw [h.frame.playback]) kind

theorem BeforeTurn.recording (h : BeforeTurn i s t) : t.recordingNow = s.recordingNow := by
  rw [State.recordingNow, h.state, h.frame.playback, State.recordingNow]

theorem BeforeTurn.isOpen (h : BeforeTurn i s t) (kind : Kind) : t.pass.isOpen i kind = s.pass.isOpen i kind :=
  (Pass.samePunch_of h.punches).isOpen

/-- Each strip in its turn records what it would have recorded at first: records of other strips make no difference to it. -/
theorem recorded_walk {f : Fin 64 → State → State} {records : Fin 64 → List Record} (frame : ∀ i t, JournalFrame t (f i t))
    (own : ∀ i, ∀ r ∈ records i, r.strip = i) (turn : ∀ i t, BeforeTurn i s t → Recorded t (f i t) (records i)) (l : List (Fin 64))
    (once : l.Nodup) (before : ∀ i ∈ l, BeforeTurn i s t) (straps : t.straps = s.straps) :
    Recorded t (l.foldl (fun t i => if t.hasStrip i then f i t else t) t) (l.flatMap fun i => if s.hasStrip i then records i else []) := by
  induction l generalizing t with
  | nil => exact recorded_nil rfl rfl
  | cons j rest ih =>
    obtain ⟨absent, once⟩ := List.nodup_cons.mp once
    have here := before j List.mem_cons_self
    have later := fun i hi => before i (List.mem_cons_of_mem j hi)
    rw [List.foldl_cons, List.flatMap_cons, ← hasStrip_of_straps straps j]
    split
    · have recorded := turn j t here
      refine recorded.trans (ih once (fun i hi => ?_) ((frame j t).inner.straps.trans straps))
      have apart : ∀ r ∈ records j, r.strip ≠ i := fun r hr same => absent (((own j r hr).symm.trans same) ▸ hi)
      refine ⟨(later i hi).frame.trans (frame j t), ?_, ?_⟩
      · rw [recorded.pass, Pass.offers_state, (later i hi).state]
      · rw [recorded.pass, Pass.offers_punches_other _ apart, (later i hi).punches]
    · exact ih once later straps

theorem recorded_forStrips {f : Fin 64 → State → State} {records : Fin 64 → List Record} (frame : ∀ i t, JournalFrame t (f i t))
    (own : ∀ i, ∀ r ∈ records i, r.strip = i) (turn : ∀ i t, BeforeTurn i s t → Recorded t (f i t) (records i)) :
    Recorded s (forStrips f s) (s.ofStrips records) :=
  recorded_walk frame own turn (List.finRange 64) (List.nodup_finRange 64) (fun _ _ => ⟨.refl s, rfl, rfl⟩) rfl

/-! ### All punches close (R155, R159) -/

theorem recorded_closeAllPunches (position : Nat) (s : State) : Recorded s (closeAllPunches position s) (s.closings position) := by
  refine recorded_forStrips (fun i t => journalFrame_closePunches i position t)
    (fun i => strip_bothKinds fun k => strip_closing) fun i t before => ?_
  have closed := recorded_closePunches i position t
  have same (k : Kind) : t.pass.closing i k position (t.deskValue i k) = s.pass.closing i k position (s.deskValue i k) := by
    rw [before.desk, (Pass.samePunch_of before.punches).closing (deskValue_kind s i k)]
  rw [same, same] at closed
  exact closed

/-! ### All that is live punches in (R154, R157) -/

/-- What a strip punches in (R157). -/
def State.punchIns (s : State) (i : Fin 64) (position : Nat) (k : Kind) : List Record :=
  if s.recordingNow && s.liveForRecording i k && !s.pass.isOpen i k then opening i k position (s.deskValue i k) else []

theorem punchKind_punchIns (s : State) (i : Fin 64) (position : Nat) (k : Kind) : ∀ r ∈ s.punchIns i position k, r.punchKind = k := by
  unfold State.punchIns
  intro r hr
  split at hr
  · exact punchKind_opening (deskValue_kind s i k) r hr
  · cases hr

theorem BeforeTurn.punchIns (h : BeforeTurn i s t) (position : Nat) (k : Kind) : t.punchIns i position k = s.punchIns i position k := by
  unfold State.punchIns
  rw [h.recording, h.live, h.isOpen, h.desk]

theorem recorded_punches (i : Fin 64) (position : Nat) (s : State) :
    Recorded s (punchIn i .cut position (punchIn i .level position s)) (bothKinds (s.punchIns i position)) := by
  have level := recorded_punchIn i .level position s
  have cut := recorded_punchIn i .cut position (punchIn i .level position s)
  have frame := journalFrame_punchIn i .level position s
  have spared : Pass.samePunch i .cut s.pass (punchIn i .level position s).pass := by
    rw [level.pass]
    refine Pass.offers_other _ fun r hr => ?_
    rw [punchKind_punchIns s i position .level r hr]
    decide
  have live : (punchIn i .level position s).liveForRecording i .cut = s.liveForRecording i .cut :=
    State.liveForRecording_congr (by rw [frame.strips]) (by rw [frame.playback]) .cut
  have same : (punchIn i .level position s).punchIns i position .cut = s.punchIns i position .cut := by
    unfold State.punchIns State.recordingNow State.deskValue
    rw [spared.isOpen, live, level.pass, Pass.offers_state, frame.playback, frame.strips]
  refine level.trans ?_
  rw [← same]
  exact cut

theorem recorded_punchInAll (position : Nat) (s : State) :
    Recorded s (punchInAll position s) (if s.recordingNow then s.openings position else []) := by
  have all : Recorded s (punchInAll position s) (s.ofStrips fun i => bothKinds (s.punchIns i position)) := by
    refine recorded_forStrips (fun i t => journalFrame_punches i position t) (fun i => strip_bothKinds fun k r hr => ?_)
      fun i t before => ?_
    · unfold State.punchIns at hr
      split at hr
      · exact strip_opening r hr
      · cases hr
    · have punched := recorded_punches i position t
      rwa [show t.punchIns i position = s.punchIns i position from funext fun k => before.punchIns position k] at punched
  have records : (s.ofStrips fun i => bothKinds (s.punchIns i position)) = if s.recordingNow then s.openings position else [] := by
    unfold State.openings State.punchIns
    cases s.recordingNow with
    | true => rfl
    | false => simp [State.ofStrips, bothKinds]
  rwa [records] at all

end Sys2Proof.Machine
end

section
/-! What offers leave of the pass record, closings close, and openings open (R155 to R159). -/

namespace Sys2Proof.Machine

variable {i j : Fin 64} {kind : Kind} {p q : Pass}

/-! ### What offers leave -/

/-- Offers change journal, punches and the incomplete mark alone. -/
theorem Pass.offer_frame (p : Pass) (r : Record) : p.offer r =
    { p with journal := (p.offer r).journal, punches := (p.offer r).punches, incomplete := (p.offer r).incomplete } := by
  unfold Pass.offer
  split
  · rfl
  · split
    · rfl
    · split <;> rfl
    · split <;> rfl

theorem Pass.offers_frame (p : Pass) (records : List Record) : p.offers records =
    { p with
      journal := (p.offers records).journal, punches := (p.offers records).punches, incomplete := (p.offers records).incomplete } := by
  induction records generalizing p with
  | nil => rfl
  | cons r rest ih =>
    have first := p.offer_frame r
    have after := ih (p.offer r)
    change (p.offer r).offers rest = { p with
      journal := ((p.offer r).offers rest).journal, punches := ((p.offer r).offers rest).punches
      incomplete := ((p.offer r).offers rest).incomplete }
    generalize p.offer r = q at *
    exact after.trans (by rw [first])

/-- Offers only add to the journal (R156). -/
theorem Pass.offer_journal (p : Pass) (r : Record) : p.journal <+: (p.offer r).journal := by
  unfold Pass.offer
  split
  · exact ⟨[], List.append_nil _⟩
  · split
    · exact ⟨_, rfl⟩
    · split
      · exact ⟨_, rfl⟩
      · exact ⟨[], List.append_nil _⟩
    · split
      · exact ⟨_, rfl⟩
      · exact ⟨[], List.append_nil _⟩

theorem Pass.offers_journal (p : Pass) (records : List Record) : p.journal <+: (p.offers records).journal := by
  induction records generalizing p with
  | nil => exact ⟨[], List.append_nil _⟩
  | cons r rest ih => exact (p.offer_journal r).trans (ih (p.offer r))

/-! ### Open punches and their PUNCH OUTs (R156) -/

theorem Punches.count_start (x : Punches) (closed : kind = .level ∧ x.level.isSome = false ∨ kind = .cut ∧ x.cut.isSome = false) :
    (x.start kind).count = x.count + 1 := by
  obtain ⟨level, cut⟩ := x
  rcases closed with ⟨rfl, closed⟩ | ⟨rfl, closed⟩
  · obtain rfl := Option.isSome_eq_false_iff.mp closed |> Option.isNone_iff_eq_none.mp
    cases cut <;> rfl
  · obtain rfl := Option.isSome_eq_false_iff.mp closed |> Option.isNone_iff_eq_none.mp
    cases level <;> rfl

theorem Punches.count_note {v : MoveValue} (x : Punches)
    (isOpen : v.kind = .level ∧ x.level.isSome = true ∨ v.kind = .cut ∧ x.cut.isSome = true) : (x.note v).count = x.count := by
  obtain ⟨level, cut⟩ := x
  rcases isOpen with ⟨kind, isOpen⟩ | ⟨kind, isOpen⟩
  · obtain ⟨last, rfl⟩ := Option.isSome_iff_exists.mp isOpen
    cases v with
    | level code glide => rfl
    | cut on => cases kind
  · obtain ⟨last, rfl⟩ := Option.isSome_iff_exists.mp isOpen
    cases v with
    | level code glide => cases kind
    | cut on => rfl

theorem Pass.isOpen_iff : p.isOpen i kind = true ↔
    kind = .level ∧ p.punches[i].level.isSome = true ∨ kind = .cut ∧ p.punches[i].cut.isSome = true := by
  cases kind <;> simp [Pass.isOpen]

theorem Pass.isOpen_eq_false : p.isOpen i kind = false ↔
    kind = .level ∧ p.punches[i].level.isSome = false ∨ kind = .cut ∧ p.punches[i].cut.isSome = false := by
  cases kind <;> simp [Pass.isOpen]

theorem punchOutRecords_append (journal more : List Record) :
    punchOutRecords (journal ++ more) = punchOutRecords journal + punchOutRecords more := by
  rw [punchOutRecords, List.filter_append, List.length_append]
  rfl

/-- A record but a PUNCH IN trades an open punch for its PUNCH OUT, or leaves both counts (R156). -/
theorem Pass.offer_punchOuts (p : Pass) {r : Record} (closes : ∀ i k position, r ≠ .punchIn i k position) :
    punchOutRecords (p.offer r).journal + (p.offer r).openPunches = punchOutRecords p.journal + p.openPunches := by
  cases refused : p.refuses r with
  | true =>
    rw [Pass.offer_refused refused]
    rfl
  | false =>
    cases r with
    | punchIn i k position => exact (closes i k position rfl).elim
    | move i position v =>
      cases isOpen : p.isOpen i v.kind with
      | false => rw [(Pass.offer_move_closed isOpen position).1]
      | true =>
        have free : ¬ p.free = 0 := by simpa [Pass.refuses, isOpen] using refused
        have count := openPunches_set p i (p.punches[i].note v) (p.journal ++ [.move i position v])
        rw [Punches.count_note _ (Pass.isOpen_iff.mp isOpen)] at count
        rw [Pass.offer_move isOpen, if_neg free, punchOutRecords_append]
        have none : punchOutRecords [.move i position v] = 0 := rfl
        omega
    | punchOut i k position =>
      rw [Pass.offer_punchOut]
      split
      · next isOpen =>
        have count := openPunches_set p i (p.punches[i].stop k) (p.journal ++ [.punchOut i k position])
        rw [Punches.count_stop _ (Pass.isOpen_iff.mp isOpen)] at count
        rw [punchOutRecords_append]
        have one : punchOutRecords [.punchOut i k position] = 1 := rfl
        omega
      · rfl

theorem Pass.offers_punchOuts (p : Pass) {records : List Record} (closes : ∀ r ∈ records, ∀ i k position, r ≠ .punchIn i k position) :
    punchOutRecords (p.offers records).journal + (p.offers records).openPunches = punchOutRecords p.journal + p.openPunches := by
  induction records generalizing p with
  | nil => rfl
  | cons r rest ih =>
    exact (ih (p.offer r) fun x hx => closes x (List.mem_cons_of_mem r hx)).trans (p.offer_punchOuts (closes r List.mem_cons_self))

theorem openPunches_closed (closed : ∀ i k, p.isOpen i k = false) : p.openPunches = 0 := by
  rw [Pass.openPunches, toList_eq_map, List.map_map]
  refine List.sum_eq_zero fun n hn => ?_
  obtain ⟨i, -, rfl⟩ := List.mem_map.mp hn
  have level : p.punches[i].level.isSome = false := closed i .level
  have cut : p.punches[i].cut.isSome = false := closed i .cut
  change p.punches[i].count = 0
  rw [Punches.count, level, cut]
  rfl

/-! ### Closings (R159) -/

theorem closing_closes {position : Nat} {v : MoveValue} : ∀ r ∈ p.closing i kind position v, ∀ j k n, r ≠ .punchIn j k n := by
  unfold Pass.closing
  intro r hr j k n
  split at hr
  · rcases List.mem_append.mp hr with hr | hr
    · split at hr
      · rw [List.mem_singleton.mp hr]
        exact Record.noConfusion
      · cases hr
    · rw [List.mem_singleton.mp hr]
      exact Record.noConfusion
  · cases hr

theorem closings_close (s : State) (position : Nat) : ∀ r ∈ s.closings position, ∀ j k n, r ≠ .punchIn j k n := by
  intro r hr
  obtain ⟨i, -, own⟩ := List.mem_flatMap.mp hr
  split at own
  · exact (List.mem_append.mp own).elim (closing_closes r) (closing_closes r)
  · cases own

/-- The closings of both kinds close a strip's punches. -/
theorem isOpen_closings (p : Pass) (i : Fin 64) (position : Nat) {desk : Kind → MoveValue} (of : ∀ k, (desk k).kind = k) (kind : Kind) :
    (p.offers (bothKinds fun k => p.closing i k position (desk k))).isOpen i kind = false := by
  have apart {k k' : Kind} (ne : k ≠ k') (q r : Pass) : Pass.samePunch i k' q (q.offers (r.closing i k position (desk k))) :=
    q.offers_other fun x hx => by rw [punchKind_closing (of k) x hx]; exact ne
  have later := apart (k := .level) (k' := .cut) (by decide) p p
  rw [bothKinds, Pass.offers_append]
  cases kind with
  | cut =>
    rw [← later.closing (of .cut)]
    exact isOpen_closing _ i .cut position _
  | level => exact (apart (k := .cut) (k' := .level) (by decide) _ p).isOpen.trans (isOpen_closing p i .level position _)

/-- Each strip's records are offered to the punches it had at first. -/
theorem offers_ofStrips (s : State) (p : Pass) {records : Fin 64 → List Record} (own : ∀ i, ∀ r ∈ records i, r.strip = i) (i : Fin 64) :
    (s.hasStrip i = false → (p.offers (s.ofStrips records)).punches[i] = p.punches[i]) ∧
    (s.hasStrip i = true → ∃ q : Pass, q.punches[i] = p.punches[i] ∧
      (p.offers (s.ofStrips records)).punches[i] = (q.offers (records i)).punches[i]) := by
  have others (l : List (Fin 64)) (absent : i ∉ l) : ∀ r ∈ l.flatMap (fun j => if s.hasStrip j then records j else []), r.strip ≠ i := by
    intro r hr same
    obtain ⟨j, hj, mine⟩ := List.mem_flatMap.mp hr
    split at mine
    · exact absent (((own j r mine).symm.trans same) ▸ hj)
    · cases mine
  obtain ⟨before, after, split⟩ := List.append_of_mem (List.mem_finRange i)
  have once : (before ++ i :: after).Nodup := split ▸ List.nodup_finRange 64
  obtain ⟨absent, absent'⟩ : i ∉ before ∧ i ∉ after := by
    obtain ⟨-, tail, apart⟩ := List.nodup_append.mp once
    exact ⟨fun h => apart i h i List.mem_cons_self rfl, (List.nodup_cons.mp tail).1⟩
  unfold State.ofStrips
  rw [split, List.flatMap_append, List.flatMap_cons, Pass.offers_append, Pass.offers_append,
    Pass.offers_punches_other _ (others after absent')]
  refine ⟨fun none => ?_, fun there => ⟨_, p.offers_punches_other (others before absent), ?_⟩⟩
  · rw [none, if_neg Bool.false_ne_true]
    exact p.offers_punches_other (others before absent)
  · rw [there, if_pos rfl]

/-- Once all punches of existing strips are closed, and others have none, none is open (R155). -/
theorem openPunches_closings {s : State} (position : Nat) (there : ∀ i k, s.pass.isOpen i k = true → s.hasStrip i = true) :
    (s.pass.offers (s.closings position)).openPunches = 0 := by
  refine openPunches_closed fun i k => ?_
  obtain ⟨absent, present⟩ := offers_ofStrips s s.pass (records := fun i => bothKinds fun k => s.pass.closing i k position (s.deskValue i k))
    (fun i => strip_bothKinds fun k => strip_closing) i
  cases exist : s.hasStrip i with
  | false =>
    refine (Pass.samePunch_of (absent exist)).isOpen.trans (Bool.eq_false_iff.mpr fun isOpen => ?_)
    exact nomatch exist.symm.trans (there i k isOpen)
  | true =>
    obtain ⟨q, own, after⟩ := present exist
    have same (k : Kind) : s.pass.closing i k position (s.deskValue i k) = q.closing i k position (s.deskValue i k) :=
      ((Pass.samePunch_of own).closing (deskValue_kind s i k) position).symm
    simp only [same] at after
    exact (Pass.samePunch_of after).isOpen.trans (isOpen_closings q i position (deskValue_kind s i) k)

end Sys2Proof.Machine
end

section
/-! What punches in where a pass opens in IDLE: with the journal empty there is room for every strip and kind (R154, R156, R157). -/

namespace Sys2Proof.Machine

variable {i j : Fin 64} {kind : Kind} {p q : Pass} {s t : State}

/-! ### One opening -/

theorem isOpen_start_iff (p : Pass) (i j : Fin 64) (kind k : Kind) (journal : List Record) :
    ({ p with journal := journal, punches := p.punches.set i (p.punches[i].start kind) } : Pass).isOpen j k = true ↔
      p.isOpen j k = true ∨ (j, k) = (i, kind) := by
  by_cases own : j = i ∧ k = kind
  · obtain ⟨rfl, rfl⟩ := own
    exact iff_of_true (isOpen_start p j k journal) (.inr rfl)
  · rw [or_iff_left fun same => own ⟨congrArg Prod.fst same, congrArg Prod.snd same⟩]
    have spared : Pass.samePunch j k p { p with journal := journal, punches := p.punches.set i (p.punches[i].start kind) } := by
      by_cases strip : j = i
      · subst strip
        have other : kind ≠ k := fun same => own ⟨rfl, same.symm⟩
        exact Pass.samePunch_set j (fun level x => x.start_other.1 (level ▸ other)) (fun cut x => x.start_other.2 (cut ▸ other)) journal
      · exact Pass.samePunch_of (set_get _ _ _ _ |>.trans (if_neg fun same => strip same.symm))
    rw [spared.isOpen]

theorem isOpen_note_iff (p : Pass) (i j : Fin 64) {v : MoveValue} (isOpen : p.isOpen i v.kind = true) (k : Kind) (journal : List Record) :
    ({ p with journal := journal, punches := p.punches.set i (p.punches[i].note v) } : Pass).isOpen j k = p.isOpen j k := by
  by_cases own : j = i ∧ k = v.kind
  · obtain ⟨rfl, rfl⟩ := own
    rw [isOpen, isOpen_note]
  · have spared : Pass.samePunch j k p { p with journal := journal, punches := p.punches.set i (p.punches[i].note v) } := by
      by_cases strip : j = i
      · subst strip
        have other : v.kind ≠ k := fun same => own ⟨rfl, same.symm⟩
        exact Pass.samePunch_set j (fun level x => (x.note_other v).1 (level ▸ other)) (fun cut x => (x.note_other v).2 (cut ▸ other)) journal
      · exact Pass.samePunch_of (set_get _ _ _ _ |>.trans (if_neg fun same => strip same.symm))
    exact spared.isOpen

/-- With three places free a punch opens with its opening move: two records, and the place of its PUNCH OUT (R156, R157). -/
theorem Pass.offers_opening {v : MoveValue} (closed : p.isOpen i v.kind = false) (room : 3 ≤ p.free) (position : Nat) :
    (p.offers (opening i v.kind position v)).journal = p.journal ++ opening i v.kind position v ∧
    p.refusesSome (opening i v.kind position v) = false ∧ (p.offers (opening i v.kind position v)).free + 3 = p.free ∧
    ∀ j k, (p.offers (opening i v.kind position v)).isOpen j k = true ↔ p.isOpen j k = true ∨ (j, k) = (i, v.kind) := by
  have accepted : p.refuses (.punchIn i v.kind position) = false := decide_eq_false (by omega)
  have first : p.offer (.punchIn i v.kind position) = { p with
      journal := p.journal ++ [.punchIn i v.kind position], punches := p.punches.set i (p.punches[i].start v.kind) } := by
    rw [Pass.offer, accepted, if_neg Bool.false_ne_true]
  have started := isOpen_start_iff p i (kind := v.kind) (journal := p.journal ++ [.punchIn i v.kind position])
  have count := openPunches_set p i (p.punches[i].start v.kind) (p.journal ++ [.punchIn i v.kind position])
  rw [Punches.count_start _ (Pass.isOpen_eq_false.mp closed)] at count
  have moved : (p.offer (.punchIn i v.kind position)).journal = p.journal ++ [.punchIn i v.kind position] := by rw [first]
  rw [← first] at started count
  have offered : p.offers (opening i v.kind position v) = (p.offer (.punchIn i v.kind position)).offer (.move i position v) := rfl
  have refusals : p.refusesSome (opening i v.kind position v) =
      (p.refuses (.punchIn i v.kind position) || ((p.offer (.punchIn i v.kind position)).refuses (.move i position v) || false)) := rfl
  rw [offered, refusals, accepted]
  generalize p.offer (.punchIn i v.kind position) = q at *
  have isOpen : q.isOpen i v.kind = true := (started i v.kind).mpr (.inr rfl)
  have free : q.free + 2 = p.free := by
    unfold Pass.free at *
    rw [moved, List.length_append, List.length_singleton]
    omega
  have noted := openPunches_set q i (q.punches[i].note v) (q.journal ++ [.move i position v])
  rw [Punches.count_note _ (Pass.isOpen_iff.mp isOpen)] at noted
  rw [Pass.offer_move isOpen, if_neg (by omega)]
  refine ⟨?_, ?_, ?_, fun j k => ?_⟩
  · rw [moved, List.append_assoc, opening, List.singleton_append]
  · have place : ¬ q.free = 0 := by omega
    simp [Pass.refuses, place]
  · unfold Pass.free at *
    dsimp only
    rw [List.length_append, List.length_singleton]
    omega
  · rw [isOpen_note_iff q i j isOpen, started]

/-! ### Several openings -/

/-- With three places free for each, several punches open in turn. -/
theorem Pass.offers_openings {desk : Fin 64 → Kind → MoveValue} (of : ∀ i k, (desk i k).kind = k) (position : Nat) (l : List (Fin 64 × Kind))
    (once : l.Nodup) (closed : ∀ x ∈ l, p.isOpen x.1 x.2 = false) (room : 3 * l.length ≤ p.free) :
    let records := l.flatMap fun x => opening x.1 x.2 position (desk x.1 x.2)
    (p.offers records).journal = p.journal ++ records ∧ p.refusesSome records = false ∧
    ∀ j k, (p.offers records).isOpen j k = true ↔ p.isOpen j k = true ∨ (j, k) ∈ l := by
  induction l generalizing p with
  | nil => exact ⟨(List.append_nil _).symm, rfl, fun j k => by simp [Pass.offers]⟩
  | cons x rest ih =>
    obtain ⟨i, kind⟩ := x
    obtain ⟨absent, once⟩ := List.nodup_cons.mp once
    rw [List.length_cons] at room
    have shut : p.isOpen i (desk i kind).kind = false := by rw [of]; exact closed _ List.mem_cons_self
    obtain ⟨journal, accepted, free, isOpen⟩ := Pass.offers_opening shut (by omega) position
    rw [of] at journal accepted free isOpen
    dsimp only
    rw [List.flatMap_cons, Pass.offers_append, Pass.refusesSome_append, accepted, Bool.false_or]
    generalize p.offers (opening i kind position (desk i kind)) = q at *
    have later : ∀ y ∈ rest, q.isOpen y.1 y.2 = false := fun y hy => Bool.eq_false_iff.mpr fun now => by
      rcases (isOpen y.1 y.2).mp now with before | same
      · exact nomatch (closed y (List.mem_cons_of_mem _ hy)).symm.trans before
      · exact absent (same ▸ hy)
    obtain ⟨journal', accepted', isOpen'⟩ := ih once later (by omega)
    refine ⟨by rw [journal', journal, List.append_assoc], accepted', fun j k => ?_⟩
    rw [isOpen', isOpen, List.mem_cons, or_assoc]

/-! ### What is live -/

theorem flatMap_filter {α β : Type} (l : List α) (c : α → Bool) (f : α → List β) :
    (l.filter c).flatMap f = l.flatMap fun x => if c x then f x else [] := by
  induction l with
  | nil => rfl
  | cons x rest ih =>
    rw [List.filter_cons, List.flatMap_cons, ← ih]
    cases c x <;> rfl

/-- The existing strips and kinds that are live for recording, ascending, LEVEL before CUT (R156, R157). -/
def State.livePunches (s : State) : List (Fin 64 × Kind) :=
  (List.product (List.finRange 64) [Kind.level, Kind.cut]).filter fun x => s.hasStrip x.1 && s.liveForRecording x.1 x.2

theorem mem_livePunches : (i, kind) ∈ s.livePunches ↔ s.hasStrip i = true ∧ s.liveForRecording i kind = true := by
  have all : (i, kind) ∈ List.product (List.finRange 64) [Kind.level, Kind.cut] :=
    List.pair_mem_product.mpr ⟨List.mem_finRange i, by cases kind <;> decide⟩
  rw [State.livePunches, List.mem_filter, Bool.and_eq_true, and_iff_right all]

theorem livePunches_nodup (s : State) : s.livePunches.Nodup :=
  ((List.nodup_finRange 64).product (by decide)).filter _

theorem livePunches_length (s : State) : s.livePunches.length ≤ 128 := by
  have all : (List.product (List.finRange 64) [Kind.level, Kind.cut]).length = 128 :=
    (List.length_product ..).trans (by rw [List.length_finRange]; rfl)
  exact all ▸ List.length_filter_le _ _

/-- The records of what is live, strip by strip. -/
theorem livePunches_flatMap (s : State) (f : Fin 64 → Kind → List Record) : s.livePunches.flatMap (fun x => f x.1 x.2) =
    (List.finRange 64).flatMap fun i => ([.level, .cut] : List Kind).flatMap fun k =>
      if s.hasStrip i && s.liveForRecording i k then f i k else [] := by
  rw [State.livePunches, flatMap_filter, List.product, List.flatMap_assoc]
  refine List.flatMap_congr fun i _ => ?_
  rw [List.flatMap_map]

/-- With no punch open, what punches in is all that is live (R157). -/
theorem openings_eq (closed : ∀ i k, s.pass.isOpen i k = false) (position : Nat) :
    s.openings position = s.livePunches.flatMap fun x => opening x.1 x.2 position (s.deskValue x.1 x.2) := by
  rw [livePunches_flatMap s fun i k => opening i k position (s.deskValue i k), State.openings, State.ofStrips]
  refine List.flatMap_congr fun i _ => ?_
  simp only [bothKinds, closed, Bool.not_false, Bool.and_true]
  cases s.hasStrip i with
  | true => simp
  | false => simp

end Sys2Proof.Machine
end

section
/-! PASS OPEN and PASS CLOSE taken: what they make of the pass record, the journal, the records of the strips and the group line (R154, R155,
R149). -/

namespace Sys2Proof.Machine

variable {n : Nat} {i : Fin 64} {s t u : State}

/-! ### Causes -/

/-- The control port is told by its causes, its mask and its reply. -/
theorem control_eq_of_causeSet (causes : ∀ c, t.causeSet c = s.causeSet c) (mask : t.control.mask = s.control.mask)
    (reply : t.control.reply = s.control.reply) : t.control = s.control := by
  have all : t.control.causes = s.control.causes := BitVec.eq_of_getLsbD_eq fun k hk => by
    obtain ⟨c, rfl⟩ := Cause.exists_position hk
    exact causes c
  calc t.control = ⟨t.control.causes, t.control.mask, t.control.reply⟩ := rfl
    _ = ⟨s.control.causes, s.control.mask, s.control.reply⟩ := by rw [all, mask, reply]

/-- Where no record is refused, no cause rises. -/
theorem Recorded.control {records : List Record} (h : Recorded s t records) (inner : Inner s t)
    (accepted : s.pass.refusesSome records = false) : t.control = s.control := by
  refine control_eq_of_causeSet (fun c => ?_) inner.mask inner.reply
  have causes := h.causes c
  rw [accepted] at causes
  exact Bool.eq_iff_iff.mpr (causes.trans (or_iff_left fun ⟨_, refused⟩ => nomatch refused))

theorem Pass.offers_incomplete {p : Pass} {records : List Record} (accepted : p.refusesSome records = false) :
    (p.offers records).incomplete = p.incomplete := by
  induction records generalizing p with
  | nil => rfl
  | cons r rest ih =>
    rw [Pass.refusesSome, Bool.or_eq_false_iff] at accepted
    obtain ⟨own, later⟩ := accepted
    refine (ih later).trans ?_
    unfold Pass.offer
    rw [own, if_neg Bool.false_ne_true]
    split
    · rfl
    · split <;> rfl
    · split <;> rfl

/-! ### PASS OPEN in IDLE (R154, R157) -/

/-- The part once RECORDING has begun, before anything punches in. -/
def passBegun (n : Nat) (s : State) : State := s.setPass { s.pass with state := .recording, number := some n, incomplete := false }

theorem takePassOpen_idle (idle : s.pass.state = .idle) : takePassOpen n s = punchInAll s.playback.position (passBegun n s) := by
  unfold takePassOpen
  rw [idle]
  rfl

theorem recorded_takePassOpen (idle : s.pass.state = .idle) : Recorded (passBegun n s) (takePassOpen n s)
    (if s.playback.transport = .playing then s.openings s.playback.position else []) := by
  have recorded := recorded_punchInAll s.playback.position (passBegun n s)
  have now : (passBegun n s).recordingNow = (s.playback.transport == .playing) := rfl
  have openings : (passBegun n s).openings s.playback.position = s.openings s.playback.position := rfl
  rw [now, openings] at recorded
  rw [takePassOpen_idle idle]
  simpa only [beq_iff_eq] using recorded

theorem takePassOpen_pass (idle : s.pass.state = .idle) : (takePassOpen n s).pass = s.passOpened n := (recorded_takePassOpen idle).pass

/-- What punches in where a pass opens (R154, R157). -/
def State.openingRecords (s : State) : List Record :=
  if s.playback.transport = .playing then
    s.livePunches.flatMap fun x => opening x.1 x.2 s.playback.position (s.deskValue x.1 x.2)
  else []

/-- In IDLE there is room for all that punches in (R156). -/
theorem passBegun_offers (safe : PassSafe s) (idle : s.pass.state = .idle) :
    (passBegun n s).pass.refusesSome s.openingRecords = false ∧ ((passBegun n s).pass.offers s.openingRecords).journal = s.openingRecords ∧
    ∀ i k, ((passBegun n s).pass.offers s.openingRecords).isOpen i k = true ↔
      s.playback.transport = .playing ∧ s.hasStrip i = true ∧ s.liveForRecording i k = true := by
  obtain ⟨-, opened, journal, -⟩ := safe
  have closed (i : Fin 64) (k : Kind) : (passBegun n s).pass.isOpen i k = false := Bool.eq_false_iff.mpr fun now =>
    nomatch idle.symm.trans (opened i k now).1
  have empty : (passBegun n s).pass.journal = [] := journal idle
  have free : (passBegun n s).pass.free = 2048 := by
    rw [Pass.free, empty, openPunches_closed closed]
    rfl
  have few := livePunches_length s
  obtain ⟨records, accepted, isOpen⟩ := Pass.offers_openings (p := (passBegun n s).pass) (deskValue_kind s) s.playback.position s.livePunches
    (livePunches_nodup s) (fun x _ => closed x.1 x.2) (by omega)
  rw [empty, List.nil_append] at records
  unfold State.openingRecords
  by_cases playing : s.playback.transport = .playing
  · rw [if_pos playing]
    refine ⟨accepted, records, fun i k => ?_⟩
    rw [isOpen, closed, or_iff_right Bool.false_ne_true, mem_livePunches, and_iff_right playing]
  · rw [if_neg playing]
    refine ⟨rfl, empty, fun i k => iff_of_false (fun now => ?_) fun now => playing now.1⟩
    exact nomatch (closed i k).symm.trans now

/-- A pass that opens in IDLE holds what punched in, and nothing was refused (R154, R156, R157). -/
theorem takePassOpen_safe (safe : PassSafe s) (idle : s.pass.state = .idle) :
    (takePassOpen n s).control = s.control ∧
    (takePassOpen n s).pass = { s.pass with
      state := .recording, number := some n, incomplete := false
      journal := (takePassOpen n s).pass.journal, punches := (takePassOpen n s).pass.punches } ∧
    (takePassOpen n s).pass.journal = s.openingRecords ∧
    ∀ i k, (takePassOpen n s).pass.isOpen i k = true ↔
      s.playback.transport = .playing ∧ s.hasStrip i = true ∧ s.liveForRecording i k = true := by
  obtain ⟨accepted, journal, isOpen⟩ := passBegun_offers (n := n) safe idle
  obtain ⟨-, opened, -⟩ := safe
  have closed (i : Fin 64) (k : Kind) : s.pass.isOpen i k = false := Bool.eq_false_iff.mpr fun now =>
    nomatch idle.symm.trans (opened i k now).1
  have recorded := recorded_takePassOpen (n := n) idle
  rw [openings_eq closed] at recorded
  change Recorded _ _ s.openingRecords at recorded
  have inner : Inner (passBegun n s) (takePassOpen n s) := by
    rw [takePassOpen_idle idle]
    exact (journalFrame_punchInAll _ _).inner
  have frame := (passBegun n s).pass.offers_frame s.openingRecords
  rw [Pass.offers_incomplete accepted, ← recorded.pass] at frame
  rw [← recorded.pass] at journal isOpen
  exact ⟨recorded.control inner accepted, frame, journal, isOpen⟩

/-! ### PASS OPEN in another state (R154) -/

theorem takePassOpen_held (recording : s.pass.state = .recording) (held : s.pass.number = some n) : takePassOpen n s = s := by
  unfold takePassOpen
  rw [recording]
  exact if_pos held

theorem takePassOpen_missed
    (other : s.pass.state = .review ∨ s.pass.state = .merging ∨ (s.pass.state = .recording ∧ s.pass.number ≠ some n)) :
    takePassOpen n s = raise .passMissed (s.setPass { s.pass with missed := some n }) := by
  unfold takePassOpen
  rcases other with state | state | ⟨state, number⟩
  · rw [state]
  · rw [state]
  · rw [state]
    exact if_neg number

/-! ### PASS CLOSE of the pass held (R155, R149) -/

section
variable (recording : s.pass.state = .recording) (held : s.pass.number = some n)

theorem passShut_recorded (s : State) : (passShut s).pass = s.passClosed ∧
    ∀ c, (passShut s).causeSet c = true ↔ s.causeSet c = true ∨
      (c = .journalFull ∧ s.pass.refusesSome (s.closings s.playback.position) = true) := by
  have recorded := recorded_closeAllPunches s.playback.position s
  unfold passShut State.passClosed
  generalize closeAllPunches s.playback.position s = t at *
  exact ⟨congrArg (fun p : Pass => { p with state := .review }) recorded.pass, recorded.causes⟩

/-- The pass record once its pass is closed (R155, R159). -/
theorem passClosed_eq (s : State) : s.passClosed = { s.pass with
    state := .review, journal := s.passClosed.journal, punches := s.passClosed.punches, incomplete := s.passClosed.incomplete } :=
  congrArg (fun p : Pass => { p with state := .review }) (s.pass.offers_frame (s.closings s.playback.position))

theorem passClosed_journal (s : State) : s.pass.journal <+: s.passClosed.journal := s.pass.offers_journal _

theorem passClosed_openPunches (there : ∀ i k, s.pass.isOpen i k = true → s.hasStrip i = true) : s.passClosed.openPunches = 0 :=
  openPunches_closings s.playback.position there

theorem passClosed_punchOuts (there : ∀ i k, s.pass.isOpen i k = true → s.hasStrip i = true) :
    punchOutRecords s.passClosed.journal = punchOutRecords s.pass.journal + s.pass.openPunches := by
  have traded := s.pass.offers_punchOuts (closings_close s s.playback.position)
  rw [openPunches_closings s.playback.position there] at traded
  exact traded

theorem State.liveEnded_of (spared : ∀ i, Spares i s u) (straps : u.straps = s.straps) (ended : u.liveEnded t) : s.liveEnded t := by
  intro i hi
  obtain ⟨record, sources⟩ := ended i ((hasStrip_of_straps straps i).trans hi)
  obtain ⟨sameRecord, sameSources⟩ := (spared i).liveEnded
  exact ⟨record.trans sameRecord, (sameSources _).mp sources⟩

/-- A record whose latch and live cut have ended (R149). -/
theorem liveEndedRecord_keeps (s : State) (i : Fin 64) : (s.liveEndedRecord i).cutLive = false ∧ (s.liveEndedRecord i).phase ≠ .latched ∧
    (s.playback.strips[i].phase ≠ .latched → (s.liveEndedRecord i).phase = s.playback.strips[i].phase) ∧
    (s.liveEndedRecord i).levelMoves = s.playback.strips[i].levelMoves ∧ (s.liveEndedRecord i).cutMoves = s.playback.strips[i].cutMoves := by
  by_cases latched : s.playback.strips[i].phase = .latched
  · rw [State.liveEndedRecord_latched latched]
    have returned : (s.returned i s.strips[i].deskCode).phase ≠ .latched ∧
        (s.returned i s.strips[i].deskCode).levelMoves = s.playback.strips[i].levelMoves ∧
        (s.returned i s.strips[i].deskCode).cutMoves = s.playback.strips[i].cutMoves := by
      unfold State.returned
      split <;> exact ⟨Phase.noConfusion, rfl, rfl⟩
    obtain ⟨phase, level, cut⟩ := returned
    exact ⟨rfl, phase, fun no => (no latched).elim, level, cut⟩
  · rw [State.liveEndedRecord_unlatched latched]
    exact ⟨rfl, latched, fun _ => rfl, rfl, rfl⟩

include recording held

/-- What a PASS CLOSE of the pass held makes of pass record, causes, playback and strips. -/
theorem takePassClose_keeps : (takePassClose n s).pass = s.passClosed ∧
    (∀ c, (takePassClose n s).causeSet c = true ↔ s.causeSet c = true ∨
      (c = .journalFull ∧ s.pass.refusesSome (s.closings s.playback.position) = true)) ∧
    (takePassClose n s).playback = { s.playback with strips := (takePassClose n s).playback.strips } ∧
    s.liveEnded (takePassClose n s) ∧ LineStep (passShut s) (takePassClose n s) := by
  obtain ⟨pass, causes⟩ := passShut_recorded s
  have frame := journalFrame_passShut s
  have step := forStrips_lineStep lineStep_endLive (passShut s)
  obtain ⟨ended, playback, kept⟩ := forStrips_endLive (passShut s)
  rw [takePassClose_held recording held]
  generalize forStrips endLive (passShut s) = t at *
  refine ⟨kept.trans pass, fun c => ?_, ?_, State.liveEnded_of (fun i => frame.spares i) frame.inner.straps ended, step⟩
  · rw [State.causeSet, step.control]
    exact causes c
  · rw [frame.playback] at playback
    exact playback

end

end Sys2Proof.Machine
end

section
/-! PASS OPEN and PASS CLOSE as commands (R153, R155, R101, R106, log entries 12, 33). -/

namespace Sys2Proof.Machine

variable {s t : State} {address : BitVec 16}

/-! ### What the commands run -/

/-- A pass command's form is good with no data and a number up to 255 (R153, R155). -/
theorem passData_good (named : address.toNat ≤ 255) : ¬ (([] : List Byte) ≠ [] ∨ 255 < address.toNat) :=
  not_or.mpr ⟨fun data => data rfl, Nat.not_lt.mpr named⟩

section
variable (pin : s.resetPin = false)
include pin

/-- Both pass commands refuse a number above 255 (R153, R155). -/
theorem exec_pass_range (above : 255 < address.toNat) :
    exec (.passOpen address []) s = .next (refuse .range s) ∧ exec (.passClose address []) s = .next (refuse .range s) := by
  rw [exec, execPassOpen, onCommand_next pin, exec, execPassClose, onCommand_next pin, if_pos (.inr above), if_pos (.inr above)]
  exact ⟨rfl, rfl⟩

variable (named : address.toNat ≤ 255)
include named

theorem exec_passOpen_wrong (state : s.pass.state = .recording ∨ s.pass.state = .review) :
    exec (.passOpen address []) s = .next (refuse .wrongState s) := by
  rw [exec, execPassOpen, onCommand_next pin, if_neg (passData_good named)]
  rcases state with state | state
  · rw [state]
  · rw [state]

theorem exec_passClose_wrong (state : s.pass.state = .idle ∨ s.pass.state = .review ∨
    (s.pass.state = .recording ∧ s.pass.number ≠ some address.toNat)) :
    exec (.passClose address []) s = .next (refuse .wrongState s) := by
  rw [exec, execPassClose, onCommand_next pin, if_neg (passData_good named)]
  rcases state with state | state | ⟨state, other⟩
  · rw [state]
  · rw [state]
  · rw [state]
    dsimp only
    rw [if_neg other]

/-- While MERGING both pass commands answer BUSY. -/
theorem exec_pass_merging (merging : s.pass.state = .merging) :
    exec (.passOpen address []) s = .next (refuse .busy s) ∧ exec (.passClose address []) s = .next (refuse .busy s) := by
  constructor
  · rw [exec, execPassOpen, onCommand_next pin, if_neg (passData_good named), merging]
  · rw [exec, execPassClose, onCommand_next pin, if_neg (passData_good named), merging]

/-- A pass command that is not refused sends its message. -/
theorem exec_passSent {c : Instr} {kind : MsgKind} (taken : (c = .passOpen address [] ∧ kind = .passOpen ∧ s.pass.state = .idle) ∨
    (c = .passClose address [] ∧ kind = .passClose ∧ s.pass.state = .recording ∧ s.pass.number = some address.toNat)) :
    exec c s = .next (sendPass kind address.toNat
      (if kind = .passOpen then takePassOpen address.toNat else takePassClose address.toNat) s) := by
  rcases taken with ⟨rfl, rfl, idle⟩ | ⟨rfl, rfl, recording, number⟩
  · rw [exec, execPassOpen, onCommand_next pin, if_neg (passData_good named), idle, if_pos rfl]
  · rw [exec, execPassClose, onCommand_next pin, if_neg (passData_good named), recording,
      if_neg (show MsgKind.passClose ≠ .passOpen by decide)]
    dsimp only
    rw [if_pos number]

end

/-! ### A pass message is enqueued (R101, R95) -/

section
variable {kind : MsgKind} {n : Nat} {f : State → State}

theorem sendPass_silent (only : s.listenOnly = true) : sendPass kind n f s = ok (f s) := if_pos only

theorem noRoom_of_new {g : GroupLine} (new : ∀ e ∈ g.queue, e.key ≠ (kind, n)) (full : kind.room ≤ g.queue.length) :
    g.noRoom kind n = true := by
  rw [GroupLine.noRoom, Bool.eq_false_iff.mpr (not_any_hasKey new), decide_eq_true full]
  rfl

theorem not_noRoom {g : GroupLine} (place : g.queue.length < kind.room ∨ ∃ e ∈ g.queue, e.key = (kind, n)) : g.noRoom kind n = false := by
  rw [GroupLine.noRoom]
  rcases place with room | ⟨e, he, same⟩
  · rw [decide_eq_false room.not_ge, Bool.and_false]
  · rw [List.any_eq_true.mpr ⟨e, he, QueueEntry.hasKey_iff.mpr same⟩]
    rfl

variable (drives : s.listenOnly = false)
include drives

/-- With no place the command answers BUSY, and the drop is counted (log entry 33). -/
theorem sendPass_full (new : ∀ e ∈ s.group.queue, e.key ≠ (kind, n)) (full : kind.room ≤ s.group.queue.length) :
    sendPass kind n f s = refuse .busy (s.setGroup { s.group with drops := min 65535 (s.group.drops + 1) }) := by
  rw [sendPass, drives, if_neg Bool.false_ne_true]
  dsimp only
  rw [noRoom_of_new new full, if_pos rfl, enqueue_drops new full]

theorem sendPass_enqueues (place : s.group.queue.length < kind.room ∨ ∃ e ∈ s.group.queue, e.key = (kind, n)) :
    sendPass kind n f s = ok (startIfIdle (s.setGroup (s.group.enqueue kind n 0))) := by
  rw [sendPass, drives, if_neg Bool.false_ne_true]
  dsimp only
  rw [not_noRoom place, if_neg Bool.false_ne_true]

/-- In IDLE of an empty queue an enqueue starts its message at once (R95, R92, log entry 12). -/
theorem startIfIdle_enqueue (line : s.group.line = .idle) (empty : s.group.queue = []) (value : Int) :
    startIfIdle (s.setGroup (s.group.enqueue kind n value)) =
      s.setGroup { s.group with line := .message, queue := [⟨kind, n, value, some value⟩] } := by
  have few : ([] : List QueueEntry).length < kind.room := by cases kind <;> decide
  have queued : s.group.enqueue kind n value = { s.group with queue := [] ++ [⟨kind, n, value, none⟩] } := by
    rw [enqueue_joins (by rw [empty]; exact fun e he => (List.not_mem_nil he).elim) (by rw [empty]; exact few), empty]
  have starts := markInFlight_first (s := s.setGroup { s.group with queue := [] ++ [⟨kind, n, value, none⟩] }) (pre := []) (post := [])
    (e := ⟨kind, n, value, none⟩) drives rfl (by simp) (by simp) (by simp) (by simp)
  have idle : startIfIdle (s.setGroup { s.group with queue := [] ++ [⟨kind, n, value, none⟩] }) =
      markInFlight (s.setGroup { s.group with queue := [] ++ [⟨kind, n, value, none⟩] }) := by
    unfold startIfIdle
    rw [State.setGroup_group]
    dsimp only
    rw [line]
  rw [queued, idle, starts]
  rfl

end

/-! ### A listen-only station takes the message at once (R106) -/

/-- Such a station's queue takes no part in the work of its strips. -/
theorem LineStep.queue (h : LineStep s t) (only : s.listenOnly = true) : t.group.queue = s.group.queue := by
  obtain ⟨⟨values, enqueued⟩, -⟩ := h
  obtain ⟨-, -, silent⟩ := enqueued.enqueues
  rw [(silent only).1]

theorem takePassClose_queue {n : Nat} (recording : s.pass.state = .recording) (held : s.pass.number = some n) (only : s.listenOnly = true) :
    (takePassClose n s).group.queue = s.group.queue := by
  obtain ⟨-, -, -, -, step⟩ := takePassClose_keeps recording held
  have frame := journalFrame_passShut s
  rw [step.queue (frame.inner.listenOnly.trans only), frame.group]

end Sys2Proof.Machine
end

section
/-! PASS OPEN and PASS CLOSE as messages, heard or own, and the obligation on passes (R154, R155, R99, log entries 13, 48, 50). -/

namespace Sys2Proof.Machine

variable {s t : State}

/-! ### A message that is taken -/

/-- A group line on which a message has just been taken (R92, R98, log entry 13). -/
structure GroupLine.Took (g g' : GroupLine) : Prop where
  line : g'.line = .seeking
  taken : g'.taken = min 65535 (g.taken + 1)
  heard : g.sending = none → g' = { g with line := .seeking, recessiveRun := 0, taken := min 65535 (g.taken + 1) }

/-- A message that is heard, or the own one read back as sent, is handed on; before that nothing but the group line has changed. -/
theorem exec_groupMessageEnd_taken {bits : BitVec 38} {m : Message} (pin : s.resetPin = false) (line : s.group.line = .message)
    (own : ∀ e, s.group.sending = some e → messageBits (s.ownMessage e) = bits) (good : readMessage bits = some m) :
    ∃ g : GroupLine, s.group.Took g ∧ (StripsTuned s → StripsTuned (s.setGroup g)) ∧
      exec (.groupMessageEnd bits) s = .next (handMessage m (s.setGroup g)) := by
  have judged (t : State) : judgeMessage bits t = handMessage m t.heard := by
    rw [judgeMessage, good]
    rfl
  cases sending : s.group.sending with
  | none =>
    have tuned : TuneFrame s s.heard := tuneFrame_setQueue rfl rfl rfl
    refine ⟨s.heard.group, ⟨rfl, rfl, fun _ => rfl⟩, tuned.kept.tuned, ?_⟩
    rw [exec_groupMessageEnd pin line sending, judged]
    rfl
  | some e =>
    refine ⟨s.settled.group, ⟨rfl, rfl, fun none => nomatch sending.symm.trans none⟩, State.settled_tuned, ?_⟩
    rw [exec_groupMessageEnd_same pin sending line (own e sending), judged]
    rfl

/-! ### PASS OPEN (R154) -/

/-- What the records of an opening pass are, as R157 lists them. -/
theorem openingRecords_eq (s : State) :
    (s.playback.transport ≠ .playing → s.openingRecords = []) ∧
    (s.playback.transport = .playing → s.openingRecords = (List.finRange 64).flatMap fun i =>
      ([.level, .cut] : List Kind).flatMap fun k => if s.hasStrip i && s.liveForRecording i k then
        [.punchIn i k s.playback.position, .move i s.playback.position (s.deskValue i k)] else []) := by
  refine ⟨fun stopped => if_neg stopped, fun playing => (if_pos playing).trans ?_⟩
  exact livePunches_flatMap s fun i k => opening i k s.playback.position (s.deskValue i k)

theorem passOpened_number (s : State) (n : Nat) : (s.passOpened n).number = some n := by
  rw [State.passOpened, Pass.offers_frame]

theorem passClosed_number (s : State) : s.passClosed.number = s.pass.number := by rw [passClosed_eq]

theorem handMessage_passOpen {m : Message} (kind : m.kind = .passOpen) (s : State) : handMessage m s = takePassOpen m.number s := by
  rw [handMessage, kind]

theorem handMessage_passClose {m : Message} (kind : m.kind = .passClose) (s : State) : handMessage m s = takePassClose m.number s := by
  rw [handMessage, kind]

/-- What a PASS OPEN makes of a part whose group line alone has taken the message (R154, R157). -/
theorem takePassOpen_regrouped {n : Nat} (g : GroupLine) (safe : PassSafe s) :
    let t := takePassOpen n (s.setGroup g)
    t.group = g ∧ t.playback = s.playback ∧ t.strips = s.strips ∧
    (s.pass.state = .idle → t.control = s.control ∧
      t.pass = { s.pass with
        state := .recording, number := some n, incomplete := false, journal := t.pass.journal, punches := t.pass.punches } ∧
      t.pass.journal = s.openingRecords ∧
      ∀ i k, t.pass.isOpen i k = true ↔ s.playback.transport = .playing ∧ s.hasStrip i = true ∧ s.liveForRecording i k = true) ∧
    (s.pass.state = .recording → s.pass.number = some n → t.pass = s.pass ∧ t.control = s.control) ∧
    (s.pass.state = .review ∨ s.pass.state = .merging ∨ (s.pass.state = .recording ∧ s.pass.number ≠ some n) →
      t.pass = { s.pass with missed := some n } ∧ t.causeSet .passMissed = true ∧ ∀ c, c ≠ .passMissed → t.causeSet c = s.causeSet c) := by
  have frame := journalFrame_takePassOpen n (s.setGroup g)
  refine ⟨frame.group, frame.playback, frame.strips, fun idle => takePassOpen_safe (s := s.setGroup g) safe idle,
    fun recording held => ?_, fun other => ?_⟩
  · rw [takePassOpen_held (s := s.setGroup g) recording held]
    exact ⟨rfl, rfl⟩
  · rw [takePassOpen_missed (s := s.setGroup g) other]
    refine ⟨rfl, ?_, fun c ne => ?_⟩
    · rw [causeSet_raise, BEq.rfl, Bool.or_true]
    · rw [causeSet_raise, beq_eq_false_iff_ne.mpr ne, Bool.or_false]
      rfl

theorem safe_hasStrip (safe : PassSafe s) {i : Fin 64} {k : Kind} (isOpen : s.pass.isOpen i k = true) : s.hasStrip i = true := by
  obtain ⟨-, opened, -⟩ := safe
  exact (opened i k isOpen).2.2

theorem LineMoved.taken {lo : Bool} {g g' : GroupLine} (h : LineMoved lo g g') : g'.taken = g.taken := by rw [h.frame]

/-- What a PASS CLOSE makes of a part whose group line alone has taken the message (R155, R149). -/
theorem takePassClose_regrouped {n : Nat} {g : GroupLine} (seeking : g.line = .seeking) :
    let t := takePassClose n (s.setGroup g)
    LineMoved s.listenOnly g t.group ∧ (¬ (s.pass.state = .recording ∧ s.pass.number = some n) → t = s.setGroup g) ∧
    (s.pass.state = .recording → s.pass.number = some n → t.pass = s.passClosed ∧
      (∀ c, t.causeSet c = true ↔ s.causeSet c = true ∨
        (c = .journalFull ∧ s.pass.refusesSome (s.closings s.playback.position) = true)) ∧
      t.playback = { s.playback with strips := t.playback.strips } ∧ s.liveEnded t ∧
      (StripsTuned (s.setGroup g) → s.enqueues g (s.endEnqueues t) t.group)) := by
  by_cases closes : s.pass.state = .recording ∧ s.pass.number = some n
  · obtain ⟨pass, causes, playback, ended, step⟩ := takePassClose_keeps (s := s.setGroup g) closes.1 closes.2
    have takes := fun tuned => (lineTakes_takePassClose (s := s.setGroup g) closes.1 closes.2 tuned).enqueues
    have frame := journalFrame_passShut (s.setGroup g)
    have moved := step.moved ((congrArg GroupLine.line frame.group).trans seeking)
    rw [frame.group, frame.inner.listenOnly] at moved
    dsimp only
    generalize takePassClose n (s.setGroup g) = t at *
    exact ⟨moved, fun unheld => (unheld closes).elim, fun _ _ => ⟨pass, causes, playback, ended, takes⟩⟩
  · have same := takePassClose_other (s := s.setGroup g) closes
    dsimp only
    rw [same]
    exact ⟨.refl _ g, fun _ => rfl, fun recording held => (closes ⟨recording, held⟩).elim⟩

/-! ### The obligation -/

/-- Settles O52: the commands by what they refuse and send, the messages by what they make of the pass. -/
theorem passesOpenAndCloseByTheirMessages : Obligations.PassesOpenAndCloseByTheirMessages := by
  refine ⟨fun s address pin => ⟨fun above => exec_pass_range pin above, fun named state => ?_, fun named state => ?_, fun named merging => ?_,
    fun c kind named taken => ⟨fun drives full new => ?_, fun drives place => ⟨fun busy => ?_, fun idle empty => ?_⟩, fun only => ?_⟩⟩,
    fun s bits m pin line safe own good => ?_⟩
  · exact exec_passOpen_wrong pin named state
  · exact exec_passClose_wrong pin named state
  · exact exec_pass_merging pin named merging
  · have room : kind.room ≤ s.group.queue.length := by
      rcases taken with ⟨-, rfl, -⟩ | ⟨-, rfl, -⟩ <;> exact full
    exact (exec_passSent pin named taken).trans (congrArg _ (sendPass_full drives new room))
  · have room : s.group.queue.length < kind.room ∨ ∃ e ∈ s.group.queue, e.key = (kind, address.toNat) := by
      rcases taken with ⟨-, rfl, -⟩ | ⟨-, rfl, -⟩ <;> exact place
    have sent := (exec_passSent pin named taken).trans (congrArg _ (sendPass_enqueues drives room))
    have still : (s.setGroup (s.group.enqueue kind address.toNat 0)).group.line ≠ .idle := by
      rw [State.setGroup_group, enqueue_line]
      exact busy
    rw [startIfIdle_busy still] at sent
    exact sent
  · have room : s.group.queue.length < kind.room ∨ ∃ e ∈ s.group.queue, e.key = (kind, address.toNat) := by
      rcases taken with ⟨-, rfl, -⟩ | ⟨-, rfl, -⟩ <;> exact place
    have sent := (exec_passSent pin named taken).trans (congrArg _ (sendPass_enqueues drives room))
    rw [startIfIdle_enqueue drives idle empty] at sent
    exact sent
  · have sent := (exec_passSent pin named taken).trans (congrArg _ (sendPass_silent only))
    rcases taken with ⟨-, rfl, idle⟩ | ⟨-, rfl, recording, number⟩
    · have group := (journalFrame_takePassOpen address.toNat s).group
      have pass := takePassOpen_pass (n := address.toNat) idle
      change exec _ s = .next (ok (takePassOpen address.toNat s)) at sent
      generalize takePassOpen address.toNat s = u at *
      exact ⟨ok u, sent, rfl, congrArg GroupLine.queue group, (congrArg Pass.number pass).trans (passOpened_number s _), pass,
        fun _ => group, fun close => nomatch close⟩
    · obtain ⟨pass, -, -, ended, -⟩ := takePassClose_keeps recording number
      have queue := takePassClose_queue recording number only
      have takes := fun tuned => (lineTakes_takePassClose recording number tuned).enqueues
      change exec _ s = .next (ok (takePassClose address.toNat s)) at sent
      generalize takePassClose address.toNat s = u at *
      exact ⟨ok u, sent, rfl, queue, (congrArg Pass.number pass).trans ((passClosed_number s).trans number), pass,
        (fun opens => nomatch opens), fun _ => ⟨ended, takes⟩⟩
  · obtain ⟨g, ⟨seeking, counted, heard⟩, tuned, run⟩ := exec_groupMessageEnd_taken pin line own good
    refine ⟨fun kind => ?_, fun kind => ?_⟩
    · rw [handMessage_passOpen kind] at run
      obtain ⟨group, playback, strips, opened, again, missed⟩ := takePassOpen_regrouped (n := m.number) g safe
      generalize takePassOpen m.number (s.setGroup g) = t at *
      refine ⟨t, run, by rw [group, seeking], by rw [group, counted], playback, strips, fun none => group.trans (heard none), fun idle => ?_,
        again, missed⟩
      obtain ⟨control, pass, journal, isOpen⟩ := opened idle
      obtain ⟨stopped, playing⟩ := openingRecords_eq s
      exact ⟨control, pass, fun h => journal.trans (stopped h), fun h => journal.trans (playing h), isOpen⟩
    · rw [handMessage_passClose kind] at run
      obtain ⟨moved, other, closes⟩ := takePassClose_regrouped (s := s) (n := m.number) seeking
      have there (i : Fin 64) (k : Kind) : s.pass.isOpen i k = true → s.hasStrip i = true := safe_hasStrip safe
      generalize takePassClose m.number (s.setGroup g) = t at *
      refine ⟨t, run, moved.line.trans seeking, moved.taken.trans counted, fun unheld => ?_, fun recording held => ?_⟩
      · rw [other (not_and_or.mpr unheld)]
        exact ⟨rfl, rfl, rfl, rfl, heard⟩
      · obtain ⟨pass, causes, playback, ended, takes⟩ := closes recording held
        have shut := passClosed_eq s
        rw [pass]
        refine ⟨rfl, fun none h => heard none ▸ takes (tuned h), (causes .journalFull).trans (by rw [eq_self, true_and]), rfl,
          (passClosed_number s).trans held, passClosed_openPunches there, passClosed_journal s, passClosed_punchOuts there,
          by rw [shut], by rw [playback], by rw [playback], ended, fun i hi => ?_⟩
        rw [(ended i hi).1]
        exact liveEndedRecord_keeps s i

end Sys2Proof.Machine
end
